-- ==== Sys2Proof/Word.lean ====
section
/-! DEFINITION. The word types of the supervisory link and of the records: what the manual treats as bits. -/

namespace Sys2Proof

/-- A byte on RXD or TXD (R167). -/
abbrev Byte := BitVec 8
/-- A 16-bit wrapping quantity: view numbers, generations, journal values (spec 00, Conventions). -/
abbrev W16 := BitVec 16
/-- A 32-bit quantity: plant seconds, sequence numbers, badge numbers. -/
abbrev W32 := BitVec 32
/-- A permission set: bit 0 VIEW up to bit 11 CONFIGURE (R178). -/
abbrev PermSet := BitVec 16
/-- An area set: bit 0 area 1 up to bit 15 area 16 (R178). -/
abbrev AreaSet := BitVec 16

end Sys2Proof
end

