-- ==== Sys2Proof/Config.lean ====
section
/-! DEFINITION. The capacities the part fixes (spec 00, Capacities at a glance). The spec leaves no value open after a
step, so there is no free value here. -/

namespace Sys2Proof.Config

/-- Points 1..1024 (R1). -/
abbrev nPoints : Nat := 1024
/-- Areas 1..16 (R5). -/
abbrev nAreas : Nat := 16
/-- Desks 1..6. -/
abbrev nDesks : Nat := 6
/-- Presentation slots of a desk, 1..4 (R97). -/
abbrev nSlots : Nat := 4
/-- Suppression groups 1..64 (R14). -/
abbrev nGroups : Nat := 64
/-- Role records 1..8 (R19). -/
abbrev nRoles : Nat := 8
/-- Credential slots 1..64 (R20). -/
abbrev nCreds : Nat := 64
/-- Shelf slots 1..96 (R69). -/
abbrev nShelf : Nat := 96
/-- Handover sessions 1..4 (R132). -/
abbrev nSessions : Nat := 4
/-- Layers of an authority stack (R23). -/
abbrev stackDepth : Nat := 4
/-- Record slots of the Record Store (R154). -/
abbrev storeSlots : Nat := 4096
/-- Frames of the input queue, and entries of the busy list (R171). -/
abbrev queueFrames : Nat := 4
/-- Bytes of a frame body (R168). -/
abbrev maxBody : Nat := 240
/-- Ticks of one period of a desk pattern clock (R124). -/
abbrev framePhases : Nat := 200

end Sys2Proof.Config
end

