-- ==== Sys2Proof/Syntax.lean ====
section
/-! DEFINITION. The commands of the part: one constructor per row of spec/opcode_table.json. A request row has no operand
of its own, because its operands are the body of the oldest frame of the input queue (R172). -/

namespace Sys2Proof

/-- What one 10 ms tick samples: the level of each button pin (bit d − 1 for desk d; a set bit says the pin is LOW, which
reads as pressed, R117), and whether RXD has stayed low through the tick (R176). -/
structure TickPins where
  ackLow : BitVec 6
  silLow : BitVec 6
  rxdLow : Bool
  deriving DecidableEq, Repr, Inhabited

/-- The steps of the part, in the order of the table. -/
inductive Instr where
  /-- Release of RESET# with the sampled levels of BAUD1 and BAUD0 (R191). -/
  | powerOn (baud1 baud0 : Bool)
  /-- A byte on RXD; `stopLow` says its stop bit was found low (R170). -/
  | receiveByte (b : Byte) (stopLow : Bool)
  /-- The gap count has reached 3 ticks (R170). -/
  | gapExpiry
  /-- The break count has reached 10 ticks (R176). -/
  | linkReset
  /-- A request of a kind outside the catalogue is taken (R172). -/
  | unknownKind
  /-- The arbiter begins the oldest waiting reply (R173). -/
  | sendReply
  /-- The arbiter builds and begins a report frame (R174). -/
  | sendReportFrame
  /-- The 1 s tick of the Timer Set and the Link Interface (R64). -/
  | oneSecondTick
  /-- The 1 s tick of the Load Monitor for one area (R82). -/
  | loadMonitorTick (area : Nat)
  /-- The expiry of a shelf slot's timer is taken (R75). -/
  | shelfExpiry (slot : Nat)
  /-- The expiry of the timer of an elevation layer, 2..4, is taken (R29). -/
  | layerExpiry (desk layer : Nat)
  /-- The expiry of a session's timer is taken (R148). -/
  | sessionTimerExpiry (session : Nat)
  /-- The expiry of a desk's silence hold is taken (R123). -/
  | silenceHoldExpiry (desk : Nat)
  /-- The expiry of a desk's lamp test is taken (R129). -/
  | lampTestExpiry (desk : Nat)
  /-- The expiry of the host-quiet timer is taken (R175). -/
  | hostQuietExpiry
  /-- A desk pattern clock is back at phase 0 (R126, R127). -/
  | frameBoundary (desk : Nat)
  /-- A debounced ACKNOWLEDGE press is taken (R119). -/
  | acknowledgePress (desk : Nat)
  /-- A debounced SILENCE press is taken (R122). -/
  | silencePress (desk : Nat)
  /-- CONDITIONS request (R41). -/
  | conditions
  /-- GROUP request (R14). -/
  | group
  /-- ACK request (R55). -/
  | ack
  /-- SILENCE request (R122). -/
  | silence
  /-- SHELVE request (R70). -/
  | shelve
  /-- UNSHELVE request (R74). -/
  | unshelve
  /-- REMOVE request (R77). -/
  | remove
  /-- RESTORE request (R78). -/
  | restore
  /-- RELEASE_DEFERRED request (R91). -/
  | releaseDeferred
  /-- SIGN_ON request (R24). -/
  | signOn
  /-- SIGN_OFF request (R25). -/
  | signOff
  /-- ELEVATE request (R26, R27). -/
  | elevate
  /-- DROP request (R28). -/
  | drop
  /-- ASSUME request (R32). -/
  | assume
  /-- OFFER request (R135). -/
  | offer
  /-- TAKE_UP request (R138). -/
  | takeUp
  /-- REVIEW_NEXT request (R139). -/
  | reviewNext
  /-- REVIEW_DELTA request (R142). -/
  | reviewDelta
  /-- CONFIRM_AREA request (R141). -/
  | confirmArea
  /-- ACCEPT request (R146). -/
  | accept
  /-- HAND_OFF request (R146). -/
  | handOff
  /-- WITHDRAW request (R148). -/
  | withdraw
  /-- LAMP_TEST request (R129). -/
  | lampTest
  /-- POINT_STATUS request (R63). -/
  | pointStatus
  /-- AREA_STATUS request (R95). -/
  | areaStatus
  /-- DESK_STATUS request (R115). -/
  | deskStatus
  /-- SESSION_STATUS request (R153). -/
  | sessionStatus
  /-- PART_STATUS request (R177). -/
  | partStatus
  /-- JOURNAL_READ request (R158). -/
  | journalRead
  /-- JOURNAL_MARK request (R159). -/
  | journalMark
  /-- SET_TIME request (R66). -/
  | setTime
  /-- REPORT_ENABLE request (R165). -/
  | reportEnable
  /-- REPORT_DISABLE request (R165). -/
  | reportDisable
  /-- CONFIG_BEGIN request (R189). -/
  | configBegin
  /-- CONFIG_PLANT request (R186). -/
  | configPlant
  /-- CONFIG_AREA request (R186). -/
  | configArea
  /-- CONFIG_POINTS request (R186). -/
  | configPoints
  /-- CONFIG_ROLE request (R19). -/
  | configRole
  /-- CONFIG_CREDENTIAL request (R34, R186). -/
  | configCredential
  /-- CONFIG_DESK request (R186). -/
  | configDesk
  /-- CONFIG_COMMIT request (R188). -/
  | configCommit
  /-- REVOKE request (R37). -/
  | revoke
  /-- The 10 ms tick (R64). -/
  | tick (pins : TickPins)
  /-- RESET# goes low (R191). -/
  | resetFalls
  /-- The last byte of the frame on TXD has been sent (R173). -/
  | transmitterFree
  deriving DecidableEq, Repr

end Sys2Proof
end

