-- ==== Sys2Proof/WellFormed.lean ====
section
/-! DEFINITION. Which commands name a subject that the part has (spec 00, Numbering: everything is numbered from 1). -/

namespace Sys2Proof

/-- A desk of the part, 1..6. -/
def deskOk (d : Nat) : Bool := 1 ≤ d && d ≤ Config.nDesks

/-- A command is well formed when every desk, area, shelf slot, layer and session it names exists: desks 1..6, areas 1..16
(R5), shelf slots 1..96 (R69), elevation layers 2..4 (R23), sessions 1..4 (R132). -/
def Instr.wf : Instr → Bool
  | .loadMonitorTick a => 1 ≤ a && a ≤ Config.nAreas
  | .shelfExpiry k => 1 ≤ k && k ≤ Config.nShelf
  | .layerExpiry d n => deskOk d && (2 ≤ n && n ≤ Config.stackDepth)
  | .sessionTimerExpiry n => 1 ≤ n && n ≤ Config.nSessions
  | .silenceHoldExpiry d => deskOk d
  | .lampTestExpiry d => deskOk d
  | .frameBoundary d => deskOk d
  | .acknowledgePress d => deskOk d
  | .silencePress d => deskOk d
  | .powerOn _ _ | .receiveByte _ _ | .gapExpiry | .linkReset | .unknownKind | .sendReply | .sendReportFrame => true
  | .oneSecondTick | .hostQuietExpiry | .conditions | .group | .ack | .silence | .shelve | .unshelve | .remove => true
  | .restore | .releaseDeferred | .signOn | .signOff | .elevate | .drop | .assume | .offer | .takeUp => true
  | .reviewNext | .reviewDelta | .confirmArea | .accept | .handOff | .withdraw | .lampTest | .pointStatus => true
  | .areaStatus | .deskStatus | .sessionStatus | .partStatus | .journalRead | .journalMark | .setTime => true
  | .reportEnable | .reportDisable | .configBegin | .configPlant | .configArea | .configPoints | .configRole => true
  | .configCredential | .configDesk | .configCommit | .revoke | .tick _ | .resetFalls | .transmitterFree => true

end Sys2Proof
end

