-- ==== Sys2Proof/Machine/Types.lean ====
section
/-! DEFINITION. The records of the part, block by block, as plain data. A field the spec numbers or bounds is a Nat; what it
treats as bits is a bit vector; absent fields are Options. -/

namespace Sys2Proof.Machine

/-- Configuration phase (R184). -/
inductive Phase where
  | blank | loading | running
  deriving DecidableEq, Repr, Inhabited

/-- A Timer Set timer (R67): the remaining seconds, 0 when IDLE, and whether an expiry has been delivered to the owner and
not yet taken. -/
structure Timer where
  remaining : Nat
  due       : Bool
  deriving DecidableEq, Repr, Inhabited

/-! ### Points (R1, R2) -/

/-- The static half of a point record. -/
structure PointStatic where
  configured : Bool
  area       : Nat
  priority   : Nat
  group      : Nat
  shelfLimit : Nat
  deriving DecidableEq, Repr, Inhabited

/-- The seven states of a point. -/
inductive PointState where
  | normal | unack | acked | rtnUnack | shelved | removed | suppressed
  deriving DecidableEq, Repr, Inhabited

/-- Where an unacknowledged point waits or is shown (R4). -/
inductive Placement where
  | none | queued | presented (desk slot : Nat) | deferred
  deriving DecidableEq, Repr, Inhabited

/-- The dynamic half of a point record. `shadow` is true when active. -/
structure Point where
  state       : PointState
  shadow      : Bool
  view        : W16
  occurrences : Nat
  firstActive : Option W32
  lastChange  : W32
  placement   : Placement
  shelfSlot   : Option Nat
  deriving DecidableEq, Repr, Inhabited

/-! ### Areas (R5) -/

/-- The static half of an area record. -/
structure AreaStatic where
  fallback    : Nat
  high        : Nat
  low         : Nat
  cutoff      : Nat
  review      : Nat
  releaseRate : Nat
  deriving DecidableEq, Repr, Inhabited

/-- How the presentation desk was chosen (R10). -/
inductive PresMode where
  | primary | fallback | unattended
  deriving DecidableEq, Repr, Inhabited

/-- Flood state (R80). -/
inductive FloodState where
  | calm | flood | releasing
  deriving DecidableEq, Repr, Inhabited

/-- The six counts of an area (R9). -/
structure Counts where
  unack      : Nat
  acked      : Nat
  shelved    : Nat
  removed    : Nat
  suppressed : Nat
  deferred   : Nat
  deriving DecidableEq, Repr, Inhabited

/-- The dynamic half of an area record. `pend` and `defer` are the queues P1..P4, head first (R7). -/
structure Area where
  responsible : Nat
  pdesk       : Nat
  mode        : PresMode
  load        : Nat
  flood       : FloodState
  counts      : Counts
  generation  : W16
  session     : Nat
  pend        : Vector (List Nat) 4
  defer       : Vector (List Nat) 4
  deriving DecidableEq, Repr, Inhabited

/-! ### Credentials and authority (R19, R20, R23) -/

/-- A credential record without its signed-on desk, which `Part.credDesk` holds. -/
structure Credential where
  valid : Bool
  badge : W32
  role  : Nat
  grant : PermSet
  deny  : PermSet
  scope : AreaSet
  deriving DecidableEq, Repr, Inhabited

/-- What only an elevation layer holds (R23). -/
structure Elevation where
  grantor    : Nat
  grantPerms : PermSet
  grantScope : AreaSet
  minutes    : Nat
  timer      : Timer
  deriving DecidableEq, Repr, Inhabited

/-- A layer of a desk's authority stack; the base layer has no elevation. -/
structure Layer where
  perms : PermSet
  scope : AreaSet
  elev  : Option Elevation
  deriving DecidableEq, Repr, Inhabited

/-! ### Desks (R97, R99, R117, R124 to R129) -/

/-- An occupied presentation slot (R97). -/
structure Slot where
  point       : Nat
  view        : W16
  presentedAt : W32
  silenced    : Bool
  deriving DecidableEq, Repr, Inhabited

/-- The horn's state (R125). -/
inductive HornState where
  | off | sounding | silenced
  deriving DecidableEq, Repr, Inhabited

/-- A lamp pattern (R124, R127). -/
inductive LampPattern where
  | steady | slow | fast | wink
  deriving DecidableEq, Repr, Inhabited

/-- A lamp configuration (R127). -/
structure LampCfg where
  source  : Nat
  invert  : Bool
  pattern : LampPattern
  deriving DecidableEq, Repr, Inhabited

/-- A button debouncer (R117). `pressed` and `candidate` are levels, true for pressed. -/
structure Debouncer where
  pressed   : Bool
  run       : Nat
  candidate : Bool
  deriving DecidableEq, Repr, Inhabited

/-- Everything the part holds for one desk: AUTH's sign-on and stack (base layer first), PRES's slots and orders, DIF's
horn, pattern clock, lamps in force, debouncers and timers. `hornPattern` is the pattern in force, 0 for none. `lampsFollow`
says that a frame boundary has been taken since the commit (R130). `boundaryDue`, `ackPresses` and `silPresses` are events
delivered and not yet taken. -/
structure Desk where
  signedOn    : Nat
  stack       : List Layer
  slots       : Vector (Option Slot) 4
  order       : List Nat
  rotation    : List Nat
  horn        : HornState
  hornPattern : Nat
  phase       : Nat
  boundaryDue : Bool
  lamps       : Vector LampCfg 4
  lampsFollow : Bool
  ackButton   : Debouncer
  silButton   : Debouncer
  ackPresses  : Nat
  silPresses  : Nat
  hold        : Timer
  lampTest    : Timer
  deriving DecidableEq, Repr, Inhabited

/-! ### Shelf slots (R69) -/

/-- A shelf slot in use. -/
structure ShelfUse where
  point : Nat
  desk  : Nat
  timer : Timer
  deriving DecidableEq, Repr, Inhabited

/-! ### Handover (R132, R133) -/

/-- State of a session. -/
inductive SessionState where
  | idle | offered | reviewing | ready
  deriving DecidableEq, Repr, Inhabited

/-- Progress of an area's review. -/
inductive SweepState where
  | notStarted | sweeping | swept | confirmed
  deriving DecidableEq, Repr, Inhabited

/-- A review entry, with the area it is of. -/
structure ReviewEntry where
  area        : Nat
  sweep       : SweepState
  cursor      : Nat
  snapGen     : W16
  snapSeq     : W32
  deltaCursor : W32
  confGen     : W16
  deriving DecidableEq, Repr, Inhabited

/-- A session record. Its area set is the list of its entries' areas, in ascending order. -/
structure Session where
  state     : SessionState
  outgoing  : Nat
  incoming  : Nat
  entries   : List ReviewEntry
  accepted  : Bool
  handedOff : Bool
  timer     : Timer
  started   : W32
  deriving DecidableEq, Repr, Inhabited

/-! ### The Record Store (R154 to R166) -/

/-- Kinds of journal records, in the order of R180. -/
inductive JKind where
  | condition | ack | state | shelve | unshelve | shelfExpire | remove | restore | group | floodEnter | floodExit
  | release | signOn | signOff | elevate | layerEnd | assume | handoverOffer | handoverTakeup | handoverConfirm
  | handoverDone | handoverAbandoned | refusal | stalePress | buttonIdle | linkQuiet | linkActive | configRestart | phase
  deriving DecidableEq, Repr, Inhabited

/-- A journal record of eleven fields (spec 09). `flags` is the flags byte of R180. -/
structure JournalRecord where
  seq        : W32
  time       : W32
  kind       : JKind
  flags      : Byte
  area       : Nat
  desk       : Nat
  credential : Nat
  point      : Nat
  priority   : Nat
  value      : W16
  generation : W16
  deriving DecidableEq, Repr, Inhabited

/-- What the writer of a journal record supplies: the kind, the flags and the named fields (R155). Unnamed fields carry 0. -/
structure RecordFields where
  kind       : JKind
  flags      : Byte := 0
  area       : Nat := 0
  desk       : Nat := 0
  credential : Nat := 0
  point      : Nat := 0
  priority   : Nat := 0
  value      : W16 := 0
  deriving DecidableEq, Repr, Inhabited

/-- Report kinds, in the order of their codes (R161, R178). -/
inductive ReportKind where
  | point | area | desk | session | authority | journalNearFull | overflow | resync
  deriving DecidableEq, Repr, Inhabited

/-- An entry of the report queue: a kind and a subject, 0 for none. -/
structure ReportEntry where
  kind    : ReportKind
  subject : Nat
  deriving DecidableEq, Repr, Inhabited

/-- Near-full state (R160). -/
inductive NearFull where
  | armed | fired
  deriving DecidableEq, Repr, Inhabited

/-- Why RESYNC was queued (R161). -/
inductive ResyncReason where
  | linkReset | commit
  deriving DecidableEq, Repr, Inhabited

/-- The Record Store. `journal` is oldest first, `reports` is oldest first, `enabled` holds the settings of the six kinds
POINT to JOURNAL_NEAR_FULL. -/
structure Rst where
  journal      : List JournalRecord
  nextSeq      : W32
  mark         : W32
  unarchived   : Nat
  nearFull     : NearFull
  reports      : List ReportEntry
  dropped      : Nat
  enabled      : Vector Bool 6
  resyncReason : Option ResyncReason
  deriving DecidableEq, Repr, Inhabited

/-! ### The Link Interface (R167 to R177) -/

/-- States of the receive assembler (R170). -/
inductive AsmState where
  | hunting | length | collecting | checking
  deriving DecidableEq, Repr, Inhabited

/-- The receive assembler: its state, the LENGTH kept, the bytes TAG, KIND and BODY kept so far, the CRC bytes kept so
far, and the gap count. -/
structure Assembler where
  state : AsmState
  len   : Byte
  buf   : List Byte
  crc   : List Byte
  gap   : Nat
  deriving DecidableEq, Repr, Inhabited

/-- A good frame of the input queue (R171). -/
structure Frame where
  tag  : Byte
  kind : Byte
  body : List Byte
  deriving DecidableEq, Repr, Inhabited

/-- An entry of the busy list (R171). -/
structure BusyEntry where
  tag  : Byte
  kind : Byte
  deriving DecidableEq, Repr, Inhabited

/-- The reply of the reply slot. `busyAhead` is the number of busy entries made before it and not yet sent, so that the
waiting replies are sent in the order they were made (R173). -/
structure Reply where
  tag       : Byte
  kind      : Byte
  body      : List Byte
  busyAhead : Nat
  deriving DecidableEq, Repr, Inhabited

/-- Link state (R175). -/
inductive LinkState where
  | active | quiet
  deriving DecidableEq, Repr, Inhabited

/-- The Link Interface. `sending` is the frame on TXD, none while the transmitter is free. `tickTaken` is the model's own (log 44):
LINK_RESET has taken this block's share of the next tick. -/
structure Lif where
  asm          : Assembler
  inputQueue   : List Frame
  busyList     : List BusyEntry
  replySlot    : Option Reply
  sending      : Option (List Byte)
  pacer        : Nat
  continuation : Option (List Byte)
  link         : LinkState
  quietTimer   : Timer
  quietSeconds : Nat
  badFrames    : Nat
  breakCount   : Nat
  tickTaken    : Bool
  baud1        : Bool
  baud0        : Bool
  deriving DecidableEq, Repr, Inhabited

/-! ### The time base (R64, R65) -/

/-- The tick count, the plant clock, and the 1 s ticks raised and not yet taken: by the Timer Set, and by the Load Monitor
for each area. -/
structure Tset where
  tickCount  : Nat
  clock      : W32
  secondsDue : Nat
  loadDue    : Vector Nat 16
  deriving DecidableEq, Repr, Inhabited

/-! ### The configuration (R185) -/

/-- The plant record. -/
structure PlantRecord where
  weights    : Vector Nat 4
  jField     : Nat
  offerTime  : Nat
  reviewTime : Nat
  pacing     : Nat
  quietTime  : Nat
  deriving DecidableEq, Repr, Inhabited

/-- A desk's hold time and lamp configurations. -/
structure DeskCfg where
  holdTime : Nat
  lamps    : Vector LampCfg 4
  deriving DecidableEq, Repr, Inhabited

/-- One copy of the configuration. -/
structure Cfg where
  plant  : PlantRecord
  areas  : Vector AreaStatic 16
  points : Vector PointStatic 1024
  roles  : Vector PermSet 8
  creds  : Vector Credential 64
  desks  : Vector DeskCfg 6
  deriving DecidableEq, Repr, Inhabited

/-! ### The whole part -/

/-- Everything the part holds, apart from the commands that are waiting. -/
structure Part where
  resetLow : Bool
  phase    : Phase
  staged   : Cfg
  live     : Cfg
  tset     : Tset
  shelf    : Vector (Option ShelfUse) 96
  points   : Vector Point 1024
  groups   : Vector Bool 64
  areas    : Vector Area 16
  credDesk : Vector Nat 64
  desks    : Vector Desk 6
  sessions : Vector Session 4
  rst      : Rst
  lif      : Lif
  deriving DecidableEq, Repr, Inhabited

/-! ### Codes that stand in requests and replies -/

/-- Result codes, in the order of the table of spec 00. -/
inductive ResultCode where
  | ok | repeated | unknownKind | badLength | badField | badPoint | wrongPhase | denied | notYourArea | staleView
  | wrongState | nothingToAck | notShelvable | noShelfSlot | stackFull | deskOccupied | signedOnElsewhere | notSignedOn
  | unknownBadge | holdsAreas | areaBusy | noSession | notReady | staleReview | gap | busy | commitFailed
  deriving DecidableEq, Repr, Inhabited

/-- The request kinds of the catalogue (R183). -/
inductive ReqKind where
  | conditions | group | ack | silence | shelve | unshelve | remove | restore | releaseDeferred | signOn | signOff
  | elevate | drop | assume | offer | takeUp | reviewNext | reviewDelta | confirmArea | accept | handOff | withdraw
  | lampTest | pointStatus | areaStatus | deskStatus | sessionStatus | partStatus | journalRead | journalMark | setTime
  | reportEnable | reportDisable | configBegin | configPlant | configArea | configPoints | configRole | configCredential
  | configDesk | configCommit | revoke
  deriving DecidableEq, Repr, Inhabited

/-- The twelve permissions, in the order of the table of spec 00. -/
inductive Perm where
  | view | ack | silence | shelve | unshelve | remove | restore | give | take | elevate | release | configure
  deriving DecidableEq, Repr, Inhabited

end Sys2Proof.Machine
end

