-- ==== Sys2Proof/Machine/PowerOn.lean ====
section
/-! DEFINITION. The values that the blocks hold after power-on (R185, R191 and the rules of each block). -/

namespace Sys2Proof.Machine

/-- An IDLE timer (R67). -/
def Timer.idle : Timer := { remaining := 0, due := false }

/-- A timer loaded with n seconds (R67): an expiry not yet taken is dropped. -/
def Timer.load (n : Nat) : Timer := { remaining := n, due := false }

/-- R185: an unconfigured point. -/
def PointStatic.initial : PointStatic := { configured := false, area := 1, priority := 4, group := 0, shelfLimit := 0 }

/-- R185: an area's static fields. -/
def AreaStatic.initial : AreaStatic :=
  { fallback := 0, high := 8192, low := 2048, cutoff := 2, review := 2, releaseRate := 4 }

/-- R20, R185: a VACANT slot. -/
def Credential.vacant : Credential := { valid := false, badge := 0, role := 1, grant := 0, deny := 0, scope := 0 }

/-- R127, R185: source 0, invert off, STEADY. -/
def LampCfg.initial : LampCfg := { source := 0, invert := false, pattern := .steady }

/-- R185: the plant record. -/
def PlantRecord.initial : PlantRecord :=
  { weights := #v[8, 4, 2, 1], jField := 12, offerTime := 300, reviewTime := 1800, pacing := 0, quietTime := 10 }

/-- R185: both copies of the configuration after power-on. -/
def Cfg.initial : Cfg :=
  { plant := PlantRecord.initial
    areas := Vector.replicate 16 AreaStatic.initial
    points := Vector.replicate 1024 PointStatic.initial
    roles := Vector.replicate 8 0
    creds := Vector.replicate 64 Credential.vacant
    desks := Vector.replicate 6 { holdTime := 60, lamps := Vector.replicate 4 LampCfg.initial } }

/-- R2: the resting dynamic fields of a point, with the plant second of the reset, commit or restart. -/
def Point.resting (now : W32) : Point :=
  { state := .normal, shadow := false, view := 0, occurrences := 0, firstActive := none, lastChange := now
    placement := .none, shelfSlot := none }

/-- All six counts 0 (R5). -/
def Counts.zero : Counts := { unack := 0, acked := 0, shelved := 0, removed := 0, suppressed := 0, deferred := 0 }

/-- R5, R80: the resting dynamic fields of an area. -/
def Area.resting : Area :=
  { responsible := 0, pdesk := 0, mode := .unattended, load := 0, flood := .calm, counts := Counts.zero, generation := 0
    session := 0, pend := Vector.replicate 4 [], defer := Vector.replicate 4 [] }

/-- R99: the rotation order 1, 2, …, 16. -/
def rotationInitial : List Nat := List.range' 1 16

/-- R117: a debouncer after power-on. -/
def Debouncer.initial : Debouncer := { pressed := false, run := 0, candidate := false }

/-- A desk after power-on: nobody signed on (R23), empty slots (R97), rotation 1..16 (R99), horn OFF (R125), phase 0
(R124), lamps off (R127), debouncers released (R117), timers IDLE (R68). -/
def Desk.initial : Desk :=
  { signedOn := 0, stack := [], slots := Vector.replicate 4 none, order := [], rotation := rotationInitial
    horn := .off, hornPattern := 0, phase := 0, boundaryDue := false, lamps := Vector.replicate 4 LampCfg.initial
    lampsFollow := false, ackButton := Debouncer.initial, silButton := Debouncer.initial, ackPresses := 0
    silPresses := 0, hold := Timer.idle, lampTest := Timer.idle }

/-- R132: an IDLE session record. -/
def Session.idle : Session :=
  { state := .idle, outgoing := 0, incoming := 0, entries := [], accepted := false, handedOff := false
    timer := Timer.idle, started := 0 }

/-- R155, R157, R159, R160, R163, R165: the Record Store after power-on. -/
def Rst.initial : Rst :=
  { journal := [], nextSeq := 1, mark := 0, unarchived := 0, nearFull := .armed, reports := [], dropped := 0
    enabled := Vector.replicate 6 true, resyncReason := none }

/-- R170: the assembler HUNTING, nothing kept. -/
def Assembler.hunting : Assembler := { state := .hunting, len := 0, buf := [], crc := [], gap := 0 }

/-- R167, R170, R171, R174, R175, R191: the Link Interface after power-on, with the straps sampled. That the reply
slot is empty (log 39) and no continuation is held (log 40) is the model's choice. -/
def Lif.initial (baud1 baud0 : Bool) : Lif :=
  { asm := Assembler.hunting, inputQueue := [], busyList := [], replySlot := none, sending := none, pacer := 0
    continuation := none, link := .active, quietTimer := Timer.load 10, quietSeconds := 0, badFrames := 0
    breakCount := 0, tickTaken := false, baud1 := baud1, baud0 := baud0 }

/-- R64, R65: the time base after power-on. -/
def Tset.initial : Tset := { tickCount := 0, clock := 0, secondsDue := 0, loadDue := Vector.replicate 16 0 }

/-- R191: the part when RESET# is released, with the straps sampled. -/
def Part.powerOn (baud1 baud0 : Bool) : Part :=
  { resetLow := false
    phase := .blank
    staged := Cfg.initial
    live := Cfg.initial
    tset := Tset.initial
    shelf := Vector.replicate 96 none
    points := Vector.replicate 1024 (Point.resting 0)
    groups := Vector.replicate 64 false
    areas := Vector.replicate 16 Area.resting
    credDesk := Vector.replicate 64 0
    desks := Vector.replicate 6 Desk.initial
    sessions := Vector.replicate 4 Session.idle
    rst := Rst.initial
    lif := Lif.initial baud1 baud0 }

end Sys2Proof.Machine
end

