-- ==== Sys2Proof/Machine/State.lean ====
section
/-! DEFINITION. The state of the machine: the part and the commands that are waiting; the reasons a step can stop; reset. -/

namespace Sys2Proof.Machine

/-- The machine: the commands that are waiting, first in, first out, and the part (`Part`, block by block). Plain data. -/
structure State where
  pending : List Instr
  part    : Part
  deriving DecidableEq, Repr, Inhabited

/-- Why a step can stop with a fault. The spec names no condition under which the part stops, so there is none. -/
inductive Fault where
  deriving DecidableEq, Repr

/-- Why a step can be refused. -/
inductive Refusal where
  /-- Raised by `exec` for a row that has no meaning yet; safe, since nothing is claimed about it. No row is left so. -/
  | notModelled (mnemonic : String)
  deriving DecidableEq, Repr

/-- The machine right after reset (R191): the power-on values of every block, nothing waiting. The straps are an input of
the board; here both are low (DESIGN CHOICE, unsafe, log 5). -/
def State.reset : State := { pending := [], part := Part.powerOn false false }

end Sys2Proof.Machine
end

