-- ==== Sys2Proof/Machine/Codes.lean ====
section
/-! DEFINITION. The encodings of R178, R180 and R183, and the packing of bytes, most significant byte first (R168). -/

namespace Sys2Proof.Machine

/-! ### Bytes -/

/-- The low 8 bits of a number, as a byte. -/
def byteOf (n : Nat) : Byte := BitVec.ofNat 8 n

/-- A 16-bit value from a number. -/
def w16 (n : Nat) : W16 := BitVec.ofNat 16 n

/-- Two bytes, most significant first (R168). -/
def be16 (n : Nat) : List Byte := [byteOf (n / 256), byteOf n]

/-- Three bytes, most significant first (R168). -/
def be24 (n : Nat) : List Byte := [byteOf (n / 65536), byteOf (n / 256), byteOf n]

/-- Four bytes, most significant first (R168). -/
def be32 (n : Nat) : List Byte := [byteOf (n / 16777216), byteOf (n / 65536), byteOf (n / 256), byteOf n]

/-- A flag carried in a byte of its own: 0 off, 1 on (R178). -/
def flagByte (b : Bool) : Byte := if b then 1 else 0

/-- Byte `i` of a body, 0 past its end; every body read with it has passed the length check of R172. -/
def byteAt (body : List Byte) (i : Nat) : Nat := (body.getD i 0).toNat

/-- The 16-bit field at offset `i` (R168). -/
def field16 (body : List Byte) (i : Nat) : Nat := byteAt body i * 256 + byteAt body (i + 1)

/-- The 32-bit field at offset `i` (R168). -/
def field32 (body : List Byte) (i : Nat) : Nat := field16 body i * 65536 + field16 body (i + 2)

/-! ### Codes of R178 -/

/-- Point states NORMAL 0 to SUPPRESSED 6. -/
def PointState.code : PointState → Nat
  | .normal => 0 | .unack => 1 | .acked => 2 | .rtnUnack => 3 | .shelved => 4 | .removed => 5 | .suppressed => 6

/-- Presentation modes. -/
def PresMode.code : PresMode → Nat
  | .primary => 0 | .fallback => 1 | .unattended => 2

/-- Flood states. -/
def FloodState.code : FloodState → Nat
  | .calm => 0 | .flood => 1 | .releasing => 2

/-- Session states. -/
def SessionState.code : SessionState → Nat
  | .idle => 0 | .offered => 1 | .reviewing => 2 | .ready => 3

/-- Sweep states. -/
def SweepState.code : SweepState → Nat
  | .notStarted => 0 | .sweeping => 1 | .swept => 2 | .confirmed => 3

/-- Horn states. -/
def HornState.code : HornState → Nat
  | .off => 0 | .sounding => 1 | .silenced => 2

/-- Lamp patterns. -/
def LampPattern.code : LampPattern → Nat
  | .steady => 0 | .slow => 1 | .fast => 2 | .wink => 3

/-- The lamp pattern of a code 0..3. -/
def LampPattern.ofCode (n : Nat) : LampPattern :=
  if n = 0 then .steady else if n = 1 then .slow else if n = 2 then .fast else .wink

/-- Link states. -/
def LinkState.code : LinkState → Nat
  | .active => 0 | .quiet => 1

/-- Near-full states. -/
def NearFull.code : NearFull → Nat
  | .armed => 0 | .fired => 1

/-- Phases. -/
def Phase.code : Phase → Nat
  | .blank => 0 | .loading => 1 | .running => 2

/-- RESYNC reasons; 0 while none has been given. -/
def resyncCode : Option ResyncReason → Nat
  | none => 0 | some .linkReset => 1 | some .commit => 2

/-- Report kinds POINT 1 to RESYNC 8. -/
def ReportKind.code : ReportKind → Nat
  | .point => 1 | .area => 2 | .desk => 3 | .session => 4 | .authority => 5 | .journalNearFull => 6 | .overflow => 7
  | .resync => 8

/-- The report kind of a code, none outside 1..8. -/
def ReportKind.ofCode (n : Nat) : Option ReportKind :=
  if n = 1 then some .point else if n = 2 then some .area else if n = 3 then some .desk else if n = 4 then some .session
  else if n = 5 then some .authority else if n = 6 then some .journalNearFull else if n = 7 then some .overflow
  else if n = 8 then some .resync else none

/-- Result codes 00h (OK) to 1Ah (COMMIT_FAILED), in the order of the table of spec 00. -/
def ResultCode.code : ResultCode → Nat
  | .ok => 0 | .repeated => 1 | .unknownKind => 2 | .badLength => 3 | .badField => 4 | .badPoint => 5 | .wrongPhase => 6
  | .denied => 7 | .notYourArea => 8 | .staleView => 9 | .wrongState => 10 | .nothingToAck => 11 | .notShelvable => 12
  | .noShelfSlot => 13 | .stackFull => 14 | .deskOccupied => 15 | .signedOnElsewhere => 16 | .notSignedOn => 17
  | .unknownBadge => 18 | .holdsAreas => 19 | .areaBusy => 20 | .noSession => 21 | .notReady => 22 | .staleReview => 23
  | .gap => 24 | .busy => 25 | .commitFailed => 26

/-- A result code as it stands in a reply. -/
def ResultCode.byte (r : ResultCode) : Byte := byteOf r.code

/-- Journal kinds CONDITION 1 to PHASE 29 (R180). -/
def JKind.code : JKind → Nat
  | .condition => 1 | .ack => 2 | .state => 3 | .shelve => 4 | .unshelve => 5 | .shelfExpire => 6 | .remove => 7
  | .restore => 8 | .group => 9 | .floodEnter => 10 | .floodExit => 11 | .release => 12 | .signOn => 13 | .signOff => 14
  | .elevate => 15 | .layerEnd => 16 | .assume => 17 | .handoverOffer => 18 | .handoverTakeup => 19
  | .handoverConfirm => 20 | .handoverDone => 21 | .handoverAbandoned => 22 | .refusal => 23 | .stalePress => 24
  | .buttonIdle => 25 | .linkQuiet => 26 | .linkActive => 27 | .configRestart => 28 | .phase => 29

/-- A placement in one byte: bits 7..6 the kind, bits 5..3 the desk, bits 2..0 the slot (R178). -/
def Placement.code : Placement → Nat
  | .none => 0 | .queued => 64 | .presented d k => 128 + 8 * d + k | .deferred => 192

/-! ### The flags byte of a journal record (R180) -/

/-- Bit 0. -/
def flagSignificant : Byte := 0x01
/-- Bit 1. -/
def flagAckDropped : Byte := 0x02
/-- Bit 2. -/
def flagExtension : Byte := 0x04
/-- Bit 3. -/
def flagReflood : Byte := 0x08
/-- Bit 4. -/
def flagReleasing : Byte := 0x10
/-- Bit 5. -/
def flagCalmReached : Byte := 0x20
/-- Bit 6. -/
def flagForced : Byte := 0x40

/-- A flag bit when its condition holds. -/
def flagIf (b : Bool) (f : Byte) : Byte := if b then f else 0

/-! ### Reasons of the value field (R180) -/

/-- SIGN_OFF and ASSUME: REQUESTED. -/
def reasonRequested : W16 := 1
/-- SIGN_OFF and ASSUME: REVOKED. -/
def reasonRevoked : W16 := 2
/-- LAYER_END: DROPPED. -/
def layerDropped : W16 := 1
/-- LAYER_END: EXPIRED. -/
def layerExpired : W16 := 2
/-- LAYER_END: BELOW_REMOVED. -/
def layerBelowRemoved : W16 := 3
/-- LAYER_END: GRANTOR_REVOKED. -/
def layerGrantorRevoked : W16 := 4
/-- HANDOVER_ABANDONED: WITHDRAWN. -/
def abandonWithdrawn : Nat := 1
/-- HANDOVER_ABANDONED: OFFER_EXPIRED. -/
def abandonOfferExpired : Nat := 2
/-- HANDOVER_ABANDONED: REVIEW_EXPIRED. -/
def abandonReviewExpired : Nat := 3
/-- HANDOVER_ABANDONED: INCOMING_SIGNED_OFF. -/
def abandonIncomingSignedOff : Nat := 4
/-- HANDOVER_ABANDONED: REVOKED. -/
def abandonRevoked : Nat := 5
/-- HANDOVER_ABANDONED: RESTART. -/
def abandonRestart : Nat := 6

/-! ### Permissions (R178) -/

/-- The bit of a permission: VIEW 0 to CONFIGURE 11. -/
def Perm.bit : Perm → Nat
  | .view => 0 | .ack => 1 | .silence => 2 | .shelve => 3 | .unshelve => 4 | .remove => 5 | .restore => 6 | .give => 7
  | .take => 8 | .elevate => 9 | .release => 10 | .configure => 11

/-- The set of one permission. -/
def Perm.set (p : Perm) : PermSet := BitVec.ofNat 16 (2 ^ p.bit)

/-- Whether bits 12..15 of a permission set are clear (R178). -/
def permBitsOk (p : PermSet) : Bool := p.toNat < 4096

/-- Whether an area is in an area set (R178). -/
def inScope (s : AreaSet) (a : Nat) : Bool := 1 ≤ a && s.getLsbD (a - 1)

/-- Whether every permission of `q` is in `p` (R22). -/
def permsWithin (q p : PermSet) : Bool := q &&& ~~~p == 0

/-- An area set from a list of areas (R178). -/
def areaSetOf (l : List Nat) : AreaSet := l.foldl (fun s a => s ||| BitVec.ofNat 16 (2 ^ (a - 1))) 0

/-! ### The catalogue (R183) -/

/-- The code of a request kind. -/
def ReqKind.code : ReqKind → Nat
  | .conditions => 0x01 | .group => 0x02 | .ack => 0x10 | .silence => 0x11 | .shelve => 0x12 | .unshelve => 0x13
  | .remove => 0x14 | .restore => 0x15 | .releaseDeferred => 0x16 | .signOn => 0x17 | .signOff => 0x18 | .elevate => 0x19
  | .drop => 0x1A | .assume => 0x1B | .offer => 0x1C | .takeUp => 0x1D | .reviewNext => 0x1E | .reviewDelta => 0x1F
  | .confirmArea => 0x20 | .accept => 0x21 | .handOff => 0x22 | .withdraw => 0x23 | .lampTest => 0x24
  | .pointStatus => 0x30 | .areaStatus => 0x31 | .deskStatus => 0x32 | .sessionStatus => 0x33 | .partStatus => 0x34
  | .journalRead => 0x35 | .journalMark => 0x36 | .setTime => 0x37 | .reportEnable => 0x38 | .reportDisable => 0x39
  | .configBegin => 0x40 | .configPlant => 0x41 | .configArea => 0x42 | .configPoints => 0x43 | .configRole => 0x44
  | .configCredential => 0x45 | .configDesk => 0x46 | .configCommit => 0x47 | .revoke => 0x48

/-- Every request kind of the catalogue. -/
def catalogue : List ReqKind :=
  [.conditions, .group, .ack, .silence, .shelve, .unshelve, .remove, .restore, .releaseDeferred, .signOn, .signOff,
    .elevate, .drop, .assume, .offer, .takeUp, .reviewNext, .reviewDelta, .confirmArea, .accept, .handOff, .withdraw,
    .lampTest, .pointStatus, .areaStatus, .deskStatus, .sessionStatus, .partStatus, .journalRead, .journalMark, .setTime,
    .reportEnable, .reportDisable, .configBegin, .configPlant, .configArea, .configPoints, .configRole, .configCredential,
    .configDesk, .configCommit, .revoke]

/-- Whether a KIND byte is a request kind of the catalogue (R172, check 1). -/
def inCatalogue (k : Byte) : Bool := catalogue.any fun q => q.code == k.toNat

/-- A body of `head` bytes and then 1..most items of `size` bytes. -/
def itemsOk (head size most len : Nat) : Bool :=
  head + size ≤ len && len ≤ head + size * most && (len - head) % size == 0

/-- Whether a body length is one that R183 allows for the kind (R172, check 2). -/
def ReqKind.lengthOk (k : ReqKind) (len : Nat) : Bool :=
  match k with
  | .conditions => itemsOk 0 3 32 len
  | .group => len == 2
  | .ack => itemsOk 1 4 16 len
  | .silence => len == 1
  | .shelve => len == 5
  | .unshelve => len == 3
  | .remove => len == 3
  | .restore => len == 3
  | .releaseDeferred => len == 2
  | .signOn => len == 5
  | .signOff => len == 1
  | .elevate => len == 11
  | .drop => len == 1
  | .assume => itemsOk 1 1 16 len
  | .offer => itemsOk 5 1 16 len
  | .takeUp => len == 2
  | .reviewNext => len == 3
  | .reviewDelta => len == 3
  | .confirmArea => len == 5
  | .accept => len == 2
  | .handOff => len == 2
  | .withdraw => len == 2
  | .lampTest => len == 2
  | .pointStatus => itemsOk 0 2 16 len
  | .areaStatus => len == 1
  | .deskStatus => len == 1
  | .sessionStatus => len == 2
  | .partStatus => len == 0
  | .journalRead => len == 5
  | .journalMark => len == 4
  | .setTime => len == 4
  | .reportEnable => itemsOk 0 1 8 len
  | .reportDisable => itemsOk 0 1 8 len
  | .configBegin => len == 1
  | .configPlant => len == 11
  | .configArea => len == 9
  | .configPoints => itemsOk 0 8 24 len
  | .configRole => len == 3
  | .configCredential => len == 14
  | .configDesk => len == 11
  | .configCommit => len == 0
  | .revoke => len == 2

/-- Whether a kind is taken in a phase (R184; R172, check 3). -/
def ReqKind.acceptedIn (k : ReqKind) (p : Phase) : Bool :=
  match k with
  | .partStatus | .setTime | .configBegin => true
  | .journalRead | .journalMark | .configCredential => p != .blank
  | .configPlant | .configArea | .configPoints | .configRole | .configDesk | .configCommit => p == .loading
  | .revoke => p == .running
  | .conditions | .group | .ack | .silence | .shelve | .unshelve | .remove | .restore | .releaseDeferred | .signOn
  | .signOff | .elevate | .drop | .assume | .offer | .takeUp | .reviewNext | .reviewDelta | .confirmArea | .accept
  | .handOff | .withdraw | .lampTest | .pointStatus | .areaStatus | .deskStatus | .sessionStatus | .reportEnable
  | .reportDisable => p == .running

end Sys2Proof.Machine
end

