-- ==== Sys2Proof/Machine/Ops.lean ====
section
/-! DEFINITION. The operations the blocks share: tables, timers, the journal and the report queue, permission tests, area
queues and slots, the fill, the generation and its notice, the presentation desks, and the end of a session. -/

namespace Sys2Proof.Machine

/-! ### Tables numbered from 1 -/

/-- Entry `i` of a table numbered from 1; a default record outside the table, which no rule reads. -/
def getAt {α : Type} [Inhabited α] {n : Nat} (v : Vector α n) (i : Nat) : α :=
  match i with
  | 0 => default
  | k + 1 => v.getD k default

/-- The table with entry `i` replaced; the same table when there is no entry `i`. -/
def setAt {α : Type} {n : Nat} (v : Vector α n) (i : Nat) (x : α) : Vector α n :=
  match i with
  | 0 => v
  | k + 1 => v.setIfInBounds k x

/-- The table with entry `i` changed by `f`. -/
def modAt {α : Type} [Inhabited α] {n : Nat} (v : Vector α n) (i : Nat) (f : α → α) : Vector α n :=
  setAt v i (f (getAt v i))

/-- The numbers 1..n. -/
def numbers (n : Nat) : List Nat := List.range' 1 n

/-- Point `p`'s dynamic half. -/
def Part.point (s : Part) (p : Nat) : Point := getAt s.points p
/-- Point `p`'s static half, from the live configuration (R185). -/
def Part.pointS (s : Part) (p : Nat) : PointStatic := getAt s.live.points p
/-- Area `a`'s dynamic half. -/
def Part.area (s : Part) (a : Nat) : Area := getAt s.areas a
/-- Area `a`'s static half, from the live configuration. -/
def Part.areaS (s : Part) (a : Nat) : AreaStatic := getAt s.live.areas a
/-- Desk `d`. -/
def Part.desk (s : Part) (d : Nat) : Desk := getAt s.desks d
/-- Credential `c` of the live configuration. -/
def Part.cred (s : Part) (c : Nat) : Credential := getAt s.live.creds c
/-- Session `n`. -/
def Part.session (s : Part) (n : Nat) : Session := getAt s.sessions n
/-- The plant clock as the event finds it (R65). -/
def Part.now (s : Part) : W32 := s.tset.clock

/-- Changes point `p`'s dynamic half. -/
def Part.modPoint (s : Part) (p : Nat) (f : Point → Point) : Part := { s with points := modAt s.points p f }
/-- Changes area `a`'s dynamic half. -/
def Part.modArea (s : Part) (a : Nat) (f : Area → Area) : Part := { s with areas := modAt s.areas a f }
/-- Changes desk `d`. -/
def Part.modDesk (s : Part) (d : Nat) (f : Desk → Desk) : Part := { s with desks := modAt s.desks d f }
/-- Changes session `n`. -/
def Part.modSession (s : Part) (n : Nat) (f : Session → Session) : Part := { s with sessions := modAt s.sessions n f }
/-- Changes the Record Store. -/
def Part.modRst (s : Part) (f : Rst → Rst) : Part := { s with rst := f s.rst }
/-- Changes the Link Interface. -/
def Part.modLif (s : Part) (f : Lif → Lif) : Part := { s with lif := f s.lif }

/-- Whether a number names a desk, 1..6. -/
def isDesk (d : Nat) : Bool := 1 ≤ d && d ≤ Config.nDesks
/-- Whether a number names an area, 1..16. -/
def isArea (a : Nat) : Bool := 1 ≤ a && a ≤ Config.nAreas
/-- Whether a number names a point, 1..1024. -/
def isPoint (p : Nat) : Bool := 1 ≤ p && p ≤ Config.nPoints

/-- The configured points that satisfy a test, in ascending number, read in one pass over the live configuration. -/
def Part.configuredPoints (s : Part) (f : PointStatic → Bool) : List Nat :=
  ((s.live.points.toList.zipIdx 1).filter fun x => x.1.configured && f x.1).map (·.2)

/-- The configured points of an area, ascending (R1: only configured points are meant). -/
def Part.areaPoints (s : Part) (a : Nat) : List Nat := s.configuredPoints fun x => x.area == a

/-- The configured members of a suppression group, ascending (R14). -/
def Part.groupMembers (s : Part) (g : Nat) : List Nat := s.configuredPoints fun x => x.group == g

/-! ### Timers (R67) -/

/-- One 1 s tick: a RUNNING timer falls by 1; one that reaches 0 becomes IDLE and delivers its expiry. -/
def Timer.tick (t : Timer) : Timer :=
  if t.remaining = 0 then t
  else if t.remaining = 1 then { remaining := 0, due := true }
  else { t with remaining := t.remaining - 1 }

/-! ### The journal (R154 to R160) -/

/-- The J in force (R154). -/
def Part.journalSize (s : Part) : Nat := 256 * s.live.plant.jField

/-- The generation field of a record that names area `a` (R13, R155). -/
def Part.generationOf (s : Part) (a : Nat) : W16 := if a = 0 then 0 else (s.area a).generation

/-- The age of a sequence number (R156). -/
def Rst.age (r : Rst) (q : W32) : Nat := (r.nextSeq - q).toNat

/-- The oldest retained sequence number; the next one when the journal is empty (R156). -/
def Rst.oldest (r : Rst) : W32 := r.nextSeq - BitVec.ofNat 32 r.journal.length

/-- R155, R156, R160: a record joins the ring of `size` records, the oldest is overwritten when it is full, the unarchived
count rises while it is below `size`, and the near-full state fires when the count rises to J − J/8. -/
def Rst.append (size : Nat) (r : Rst) (x : JournalRecord) : Rst :=
  let j := r.journal ++ [x]
  let rises := r.unarchived < size
  let c := if rises then r.unarchived + 1 else r.unarchived
  { r with
    journal := j.drop (j.length - size)
    nextSeq := r.nextSeq + 1
    unarchived := c
    nearFull := if r.nearFull = .armed ∧ rises ∧ c = size - size / 8 then .fired else r.nearFull }

/-- R155: writes one journal record in the present event. `sig` says that the event made a significant change in the
record's area (R13). -/
def Part.write (s : Part) (sig : Bool) (f : RecordFields) : Part :=
  let x : JournalRecord :=
    { seq := s.rst.nextSeq, time := s.now, kind := f.kind, flags := f.flags ||| flagIf sig flagSignificant, area := f.area
      desk := f.desk, credential := f.credential, point := f.point, priority := f.priority, value := f.value
      generation := s.generationOf f.area }
  s.modRst fun r => r.append s.journalSize x

/-- A REFUSAL record (R39, R59, R79, R91, R151): the acting desk, the credential signed on there, and the result code. -/
def Part.writeRefusal (s : Part) (desk area point priority : Nat) (r : ResultCode) : Part :=
  s.write false
    { kind := .refusal, area := area, desk := desk, credential := (s.desk desk).signedOn, point := point
      priority := priority, value := w16 r.code }

/-! ### The report queue (R162, R163) -/

/-- Whether a report kind is enabled; OVERFLOW and RESYNC always are (R162). -/
def Rst.kindEnabled (r : Rst) (k : ReportKind) : Bool := if k.code ≤ 6 then getAt r.enabled k.code else true

/-- The number of entries of kinds other than OVERFLOW (R163). -/
def ordinaryCount (l : List ReportEntry) : Nat := (l.filter fun e => e.kind != .overflow).length

/-- R162, R163: a report of a disabled kind is not queued; one whose entry is queued already coalesces; one that finds
the ordinary entries at 4096 − J − 1 is dropped and counted, and OVERFLOW is queued; any other joins the tail. -/
def Rst.queue (size : Nat) (r : Rst) (e : ReportEntry) : Rst :=
  if !r.kindEnabled e.kind then r
  else if r.reports.contains e then r
  else if Config.storeSlots - size - 1 ≤ ordinaryCount r.reports then
    let o : ReportEntry := { kind := .overflow, subject := 0 }
    { r with
      dropped := min 65535 (r.dropped + 1)
      reports := if r.reports.contains o then r.reports else r.reports ++ [o] }
  else { r with reports := r.reports ++ [e] }

/-- Queues the reports of one event, in the order given. -/
def Part.queueReports (s : Part) (l : List ReportEntry) : Part :=
  s.modRst fun r => l.foldl (fun r e => r.queue s.journalSize e) r

/-- R166: the report queue is emptied, with the count of dropped reports and the continuation of R174. -/
def Part.emptyReports (s : Part) : Part :=
  { s with rst := { s.rst with reports := [], dropped := 0 }, lif := { s.lif with continuation := none } }

/-- R166: the queue is emptied and RESYNC is queued with its reason. -/
def Part.resync (s : Part) (why : ResyncReason) : Part :=
  s.emptyReports.modRst fun r => { r with reports := [{ kind := .resync, subject := 0 }], resyncReason := some why }

/-- R176: the four changes of a link reset. A reply in the reply slot stays, and no busy entry goes before it any more. -/
def Part.linkReset (s : Part) : Part :=
  (s.resync .linkReset).modLif fun l =>
    { l with
      asm := Assembler.hunting
      inputQueue := []
      busyList := []
      pacer := 0
      replySlot := l.replySlot.map fun r => { r with busyAhead := 0 } }

/-! ### Credentials and permission tests (R20 to R22) -/

/-- The effective permission set (R21). -/
def effectivePerms (role : PermSet) (c : Credential) : PermSet := (role ||| c.grant) &&& ~~~c.deny

/-- The effective set of credential `c` (R21). -/
def Part.effPerms (s : Part) (c : Nat) : PermSet := effectivePerms (getAt s.live.roles (s.cred c).role) (s.cred c)

/-- The VALID credential with a badge number; 0 matches none (R20). -/
def Part.findBadge (s : Part) (badge : Nat) : Option Nat :=
  if badge = 0 then none
  else (numbers Config.nCreds).find? fun c => (s.cred c).valid && (s.cred c).badge.toNat == badge

/-- The top layer of a desk's stack, none when nobody is signed on (R23). -/
def Part.topLayer (s : Part) (d : Nat) : Option Layer := (s.desk d).stack.getLast?
/-- The base layer of a desk's stack (R23). -/
def Part.baseLayer (s : Part) (d : Nat) : Option Layer := (s.desk d).stack.head?

/-- R22: the permission test of `q` against a layer, in area `a`; it fails where there is no layer. -/
def allows (l : Option Layer) (q : PermSet) (a : Nat) : Bool :=
  match l with
  | none => false
  | some x => inScope x.scope a && permsWithin q x.perms

/-- R22: the plant-wide test, which ignores the scope. -/
def allowsPlantWide (l : Option Layer) (q : PermSet) : Bool :=
  match l with
  | none => false
  | some x => permsWithin q x.perms

/-- TAKE and ACK, the permissions of a party that takes areas (R22). -/
def permTakeAck : PermSet := Perm.take.set ||| Perm.ack.set

/-- The lowest-numbered area of a set in which a test fails, 0 for none (R39, R151). -/
def lowestFailing (l : List Nat) (test : Nat → Bool) : Nat :=
  ((numbers Config.nAreas).find? fun a => l.contains a && !test a).getD 0

/-! ### Counts (R9) -/

/-- The counts with one more point in a state. -/
def Counts.inc (c : Counts) : PointState → Counts
  | .normal => c
  | .unack => { c with unack := c.unack + 1 }
  | .rtnUnack => { c with unack := c.unack + 1 }
  | .acked => { c with acked := c.acked + 1 }
  | .shelved => { c with shelved := c.shelved + 1 }
  | .removed => { c with removed := c.removed + 1 }
  | .suppressed => { c with suppressed := c.suppressed + 1 }

/-- The counts with one point fewer in a state. -/
def Counts.dec (c : Counts) : PointState → Counts
  | .normal => c
  | .unack => { c with unack := c.unack - 1 }
  | .rtnUnack => { c with unack := c.unack - 1 }
  | .acked => { c with acked := c.acked - 1 }
  | .shelved => { c with shelved := c.shelved - 1 }
  | .removed => { c with removed := c.removed - 1 }
  | .suppressed => { c with suppressed := c.suppressed - 1 }

/-- R2, R9: point `p` goes to state `st`; its last-change time and its area's counts move with it. -/
def Part.changeState (s : Part) (p : Nat) (st : PointState) : Part :=
  let old := (s.point p).state
  (s.modPoint p fun x => { x with state := st, lastChange := s.now }).modArea (s.pointS p).area
    fun a => { a with counts := (a.counts.dec old).inc st }

/-! ### Queues, slots and placement (R4, R7, R51, R107, R108) -/

/-- Point `p` joins the tail of its pending queue (R7). -/
def Part.joinPending (s : Part) (p : Nat) : Part :=
  (s.modArea (s.pointS p).area fun a => { a with pend := modAt a.pend (s.pointS p).priority (· ++ [p]) }).modPoint p
    fun x => { x with placement := .queued }

/-- Point `p` returns to the head of its pending queue (R7). -/
def Part.returnHead (s : Part) (p : Nat) : Part :=
  (s.modArea (s.pointS p).area fun a => { a with pend := modAt a.pend (s.pointS p).priority (p :: ·) }).modPoint p
    fun x => { x with placement := .queued }

/-- Point `p` joins the tail of its deferred queue, and the deferred count rises (R7, R9). -/
def Part.joinDeferred (s : Part) (p : Nat) : Part :=
  (s.modArea (s.pointS p).area fun a =>
    { a with
      defer := modAt a.defer (s.pointS p).priority (· ++ [p])
      counts := { a.counts with deferred := a.counts.deferred + 1 } }).modPoint p
    fun x => { x with placement := .deferred }

/-- R51: places a point that enters UNACK from NORMAL, SHELVED, REMOVED or SUPPRESSED. -/
def Part.place (s : Part) (p : Nat) : Part :=
  let a := (s.pointS p).area
  if (s.area a).flood = .flood ∧ (s.areaS a).cutoff < (s.pointS p).priority then s.joinDeferred p else s.joinPending p

/-- Slot `k` of desk `d` becomes empty, and its number leaves the presentation order (R97). -/
def Part.emptySlot (s : Part) (d k : Nat) : Part :=
  s.modDesk d fun x => { x with slots := setAt x.slots k none, order := x.order.filter (· != k) }

/-- R4: takes point `p` out of whatever holds it; its placement becomes NONE. -/
def Part.withdraw (s : Part) (p : Nat) : Part :=
  let pr := (s.pointS p).priority
  let s1 := match (s.point p).placement with
    | .none => s
    | .queued => s.modArea (s.pointS p).area fun a => { a with pend := modAt a.pend pr (·.erase p) }
    | .deferred => s.modArea (s.pointS p).area fun a =>
        { a with
          defer := modAt a.defer pr (·.erase p)
          counts := { a.counts with deferred := a.counts.deferred - 1 } }
    | .presented d k => s.emptySlot d k
  s1.modPoint p fun x => { x with placement := .none }

/-- The desk that shows point `p`, 0 when it is not PRESENTED. -/
def Part.shownAt (s : Part) (p : Nat) : Nat :=
  match (s.point p).placement with
  | .presented d _ => d
  | _ => 0

/-- R103, R108, R110: the occupant of slot `k` of desk `d` returns to the head of its pending queue. -/
def Part.returnSlot (s : Part) (d k : Nat) : Part :=
  match getAt (s.desk d).slots k with
  | none => s
  | some x => (s.emptySlot d k).returnHead x.point

/-! ### The fill (R100 to R104) -/

/-- The priority of the occupant of slot `k` of desk `d`, 0 when it is empty. -/
def Part.slotPriority (s : Part) (d k : Nat) : Nat :=
  match getAt (s.desk d).slots k with
  | none => 0
  | some x => (s.pointS x.point).priority

/-- R101, steps 1 and 2: the most urgent priority waiting in an area presented at `d`, the area earliest in the rotation
order, and the head of its queue: (area, priority, point). -/
def Part.candidate (s : Part) (d : Nat) : Option (Nat × Nat × Nat) :=
  [1, 2, 3, 4].findSome? fun pr => (s.desk d).rotation.findSome? fun a =>
    if (s.area a).pdesk = d then
      match getAt (s.area a).pend pr with
      | [] => none
      | p :: _ => some (a, pr, p)
    else none

/-- The lowest-numbered empty slot of a desk (R102). -/
def Desk.emptySlotNo (x : Desk) : Option Nat := (numbers Config.nSlots).find? fun k => (getAt x.slots k).isNone

/-- R103: the slot of the least urgent occupant, of several the one presented most recently. -/
def Part.leastUrgent (s : Part) (d : Nat) : Option Nat :=
  (s.desk d).order.foldl (fun best k =>
    match best with
    | none => some k
    | some b => if s.slotPriority d b ≤ s.slotPriority d k then some k else some b) none

/-- R119: the slot of the most urgent occupant, of several the one presented earliest. -/
def Part.mostUrgent (s : Part) (d : Nat) : Option Nat :=
  (s.desk d).order.foldl (fun best k =>
    match best with
    | none => some k
    | some b => if s.slotPriority d k < s.slotPriority d b then some k else some b) none

/-- R102: the candidate leaves the head of its queue and takes slot `k`; its area moves to the end of the rotation. -/
def Part.placeInSlot (s : Part) (d k a pr p : Nat) : Part :=
  let occupant : Slot := { point := p, view := (s.point p).view, presentedAt := s.now, silenced := false }
  ((s.modArea a fun x => { x with pend := modAt x.pend pr List.tail }).modDesk d fun x =>
    { x with
      slots := setAt x.slots k (some occupant)
      order := x.order ++ [k]
      rotation := x.rotation.filter (· != a) ++ [a] }).modPoint p fun x => { x with placement := .presented d k }

/-- One selection of a fill and what follows it (R101 to R103); none when the fill ends. -/
def Part.fillStep (s : Part) (d : Nat) : Option Part :=
  match s.candidate d with
  | none => none
  | some (a, pr, p) =>
    match (s.desk d).emptySlotNo with
    | some k => some (s.placeInSlot d k a pr p)
    | none =>
      match s.leastUrgent d with
      | none => none
      | some k => if pr < s.slotPriority d k then some ((s.returnSlot d k).placeInSlot d k a pr p) else none

/-- Repeats selections, at most `n` of them. -/
def Part.fillLoop : Nat → Part → Nat → Part
  | 0, s, _ => s
  | n + 1, s, d =>
    match s.fillStep d with
    | none => s
    | some s' => fillLoop n s' d

/-- The bound on selections: at most 4 placements into empty slots and 12 displacements, each of which lowers the sum of
the four occupants' priorities, which lies in 4..16 (R104). -/
def fillBound : Nat := 20

/-- R101: the fill of desk `d`; desk 0 is no desk. -/
def Part.fill (s : Part) (d : Nat) : Part := if d = 0 then s else Part.fillLoop fillBound s d

/-- Fills every desk that a test names, in ascending desk number (R109). -/
def Part.fillWhere (s : Part) (f : Nat → Bool) : Part :=
  ((numbers Config.nDesks).filter f).foldl Part.fill s

/-! ### Generation and significant change (R12, R13, R144) -/

/-- R12: the generation of area `a` increases by 1. -/
def Part.bump (s : Part) (a : Nat) : Part := s.modArea a fun x => { x with generation := x.generation + 1 }

/-- R144: HOE takes the notice of a significant change in area `a`. -/
def Session.notice (x : Session) (a : Nat) : Session :=
  let hit := x.entries.any fun e => e.area == a && e.sweep == .confirmed
  let entries := x.entries.map fun e => if e.area = a ∧ e.sweep = .confirmed then { e with sweep := .swept } else e
  match x.state with
  | .idle => x
  | .offered => x
  | .reviewing => { x with entries := entries }
  | .ready =>
    if hit then { x with entries := entries, state := .reviewing, accepted := false, handedOff := false } else x

/-- R13: the notice reaches the session the area is in, if any. -/
def Part.notify (s : Part) (a : Nat) : Part :=
  if (s.area a).session = 0 then s else s.modSession (s.area a).session (·.notice a)

/-! ### Flood control (R84, R87) -/

/-- Whether an area's four deferred queues are empty. -/
def Area.nothingDeferred (x : Area) : Bool := [1, 2, 3, 4].all fun pr => (getAt x.defer pr).isEmpty

/-- R84: moves every entry of the area's pending queue of priority `pr`, head first, to the tail of its deferred queue. -/
def Part.deferQueue (s : Part) (a pr : Nat) : Part :=
  let l := getAt (s.area a).pend pr
  l.foldl (fun s p => s.modPoint p fun x => { x with placement := .deferred })
    (s.modArea a fun x =>
      { x with
        pend := setAt x.pend pr []
        defer := modAt x.defer pr (· ++ l)
        counts := { x.counts with deferred := x.counts.deferred + l.length } })

/-- R84: the area enters FLOOD, and its pending queues above the cutoff move to the deferred queues, most urgent first. -/
def Part.enterFlood (s : Part) (a : Nat) : Part :=
  ([1, 2, 3, 4].filter fun pr => (s.areaS a).cutoff < pr).foldl (fun s pr => s.deferQueue a pr)
    (s.modArea a fun x => { x with flood := .flood })

/-- The contribution of one occurrence of a priority: 64 times its weight (R80). -/
def Part.contribution (s : Part) (pr : Nat) : Nat := 64 * getAt s.live.plant.weights pr

/-- R81: the load index takes the contribution of a point, saturating, and is compared with the high threshold. -/
def Part.contribute (s : Part) (p : Nat) : Part :=
  let a := (s.pointS p).area
  let s1 := s.modArea a fun x => { x with load := min 65535 (x.load + s.contribution (s.pointS p).priority) }
  if (s1.area a).flood ≠ .flood ∧ (s.areaS a).high ≤ (s1.area a).load then s1.enterFlood a else s1

/-- R87: a RELEASING area whose deferred queues a withdrawal has emptied goes to CALM and writes its RELEASE record. -/
def Part.calmIfEmpty (s : Part) (a : Nat) (sig : Bool) : Part :=
  if (s.area a).flood = .releasing ∧ (s.area a).nothingDeferred then
    (s.modArea a fun x => { x with flood := .calm }).write sig { kind := .release, flags := flagCalmReached, area := a }
  else s

/-! ### Presentation desks (R10, R11, R108, R109) -/

/-- R10: the presentation mode and desk of area `a`. -/
def Part.presentation (s : Part) (a : Nat) : PresMode × Nat :=
  let f := (s.areaS a).fallback
  if (s.area a).responsible ≠ 0 then (.primary, getAt s.credDesk (s.area a).responsible)
  else if f ≠ 0 ∧ (s.desk f).signedOn ≠ 0 ∧ allows (s.baseLayer f) Perm.ack.set a then (.fallback, f)
  else (.unattended, 0)

/-- R108: from slot 4 down to slot 1 of desk `d`, the occupants of areas whose new desk is another return to their queues. -/
def Part.returnsAt (s : Part) (newDesk : Nat → Nat) (d : Nat) : Part :=
  [4, 3, 2, 1].foldl (fun s k =>
    match getAt (s.desk d).slots k with
    | none => s
    | some x => if newDesk (s.pointS x.point).area = d then s else s.returnSlot d k) s

/-- Sets the presentation desk and mode of every area. -/
def Part.setPresentation (s : Part) (new : Nat → PresMode × Nat) : Part :=
  (numbers Config.nAreas).foldl (fun s a => s.modArea a fun x => { x with mode := (new a).1, pdesk := (new a).2 }) s

/-- R11, R108, R109: recomputes the presentation desk and mode of all areas; first every return, desk by desk; then the
fill of every desk that lost or gained an area or had a slot emptied. -/
def Part.recompute (s : Part) : Part :=
  let new := s.presentation
  let old := fun a => (s.area a).pdesk
  let s1 := (numbers Config.nDesks).foldl (fun s d => s.returnsAt (fun a => (new a).2) d) s
  let s2 := s1.setPresentation new
  s2.fillWhere fun d =>
    (numbers Config.nAreas).any (fun a => (old a == d) != ((new a).2 == d))
      || (s1.desk d).slots != (s.desk d).slots

/-! ### Signing a desk off (R25, R37, R110) -/

/-- Steps 2 to 4 of R25: the stack is emptied with its timers, nobody is signed on, and the slots return from 4 to 1. -/
def Part.signOffDesk (s : Part) (d : Nat) : Part :=
  let c := (s.desk d).signedOn
  let s1 := { s.modDesk d fun x => { x with stack := [], signedOn := 0 } with credDesk := setAt s.credDesk c 0 }
  [4, 3, 2, 1].foldl (fun s k => s.returnSlot d k) s1

/-- R29: removes layer `n` of desk `d` and every layer above it; LAYER_END records are written from the top down, with
BELOW_REMOVED, and with `reason` for layer `n`. -/
def Part.cascade (s : Part) (d n : Nat) (reason : W16) : Part :=
  let gone := (((s.desk d).stack.zipIdx 1).drop (n - 1)).reverse
  gone.foldl (fun s x => s.write false
      { kind := .layerEnd, desk := d, credential := (x.1.elev.map (·.grantor)).getD 0
        value := if x.2 = n then reason else layerBelowRemoved })
    (s.modDesk d fun x => { x with stack := x.stack.take (n - 1) })

/-! ### Sessions (R132, R133, R149) -/

/-- The lowest-numbered configured point of an area, 1025 when it has none (R133). -/
def Part.firstPoint (s : Part) (a : Nat) : Nat := (s.areaPoints a).head?.getD 1025

/-- R133: a review entry in NOT_STARTED. -/
def Part.freshEntry (s : Part) (a : Nat) : ReviewEntry :=
  { area := a, sweep := .notStarted, cursor := s.firstPoint a, snapGen := 0, snapSeq := 0, deltaCursor := 0, confGen := 0 }

/-- The areas of a session, ascending. -/
def Session.areas (x : Session) : List Nat := x.entries.map (·.area)

/-- The review entry of an area. -/
def Session.entry (x : Session) (a : Nat) : ReviewEntry := (x.entries.find? fun e => e.area == a).getD default

/-- Changes the review entry of an area. -/
def Session.modEntry (x : Session) (a : Nat) (f : ReviewEntry → ReviewEntry) : Session :=
  { x with entries := x.entries.map fun e => if e.area = a then f e else e }

/-- The session field of every area of a list becomes 0. -/
def Part.clearSessionField (s : Part) (l : List Nat) : Part :=
  l.foldl (fun s a => s.modArea a fun x => { x with session := 0 }) s

/-- R149: session `n` is abandoned: timer cancelled, session fields cleared, record IDLE, HANDOVER_ABANDONED written. -/
def Part.abandon (s : Part) (n reason desk : Nat) : Part :=
  let x := s.session n
  ((s.clearSessionField x.areas).modSession n fun _ => Session.idle).write false
    { kind := .handoverAbandoned, desk := desk, credential := x.outgoing, value := w16 (256 * reason + n) }

/-- Abandons, in ascending session number, every non-idle session that a test names. R37 and R190 give that order for a REVOKE and
a configuration restart; for a SIGN_OFF (R25) it is the model's choice (log 45). -/
def Part.abandonWhere (s : Part) (reason desk : Nat) (f : Session → Bool) : Part :=
  (numbers Config.nSessions).foldl (fun s n =>
    if (s.session n).state ≠ .idle ∧ f (s.session n) then s.abandon n reason desk else s) s

end Sys2Proof.Machine
end

