-- ==== Sys2Proof/Machine/Flags.lean ====
section
/-! DEFINITION. What the desk outputs are worked out from: horn states and patterns, lamp source values, the output pins
(R124 to R130). -/

namespace Sys2Proof.Machine

/-! ### Patterns (R124) -/

/-- 100 on in 200. -/
def onHalf (phase : Nat) : Bool := phase < 100
/-- 25 on in 200. -/
def onEighth (phase : Nat) : Bool := phase < 25
/-- 25 on in 50. -/
def onFast (phase : Nat) : Bool := phase % 50 < 25
/-- 10 on in 200. -/
def onWink (phase : Nat) : Bool := phase < 10

/-- The horn pattern of a priority: P1 continuous, P2 100 in 200, P3 25 in 200, P4 and no pattern none. -/
def hornPatternOn (priority phase : Nat) : Bool :=
  if priority = 1 then true else if priority = 2 then onHalf phase else if priority = 3 then onEighth phase else false

/-- A lamp pattern at a phase. -/
def LampPattern.on (p : LampPattern) (phase : Nat) : Bool :=
  match p with
  | .steady => true
  | .slow => onHalf phase
  | .fast => onFast phase
  | .wink => onWink phase

/-! ### The horn (R125, R126) -/

/-- The occupied slots of a desk. -/
def Desk.occupants (x : Desk) : List Slot := x.slots.toList.filterMap id

/-- R125: OFF without an occupant, SOUNDING with an unsilenced one, SILENCED otherwise. -/
def Desk.hornFromSlots (x : Desk) : HornState :=
  if x.occupants.isEmpty then .off else if x.occupants.any (!·.silenced) then .sounding else .silenced

/-- R125: the wanted pattern, the priority of the most urgent occupant whose flag is off; 0 when there is none. -/
def Part.wantedPattern (s : Part) (d : Nat) : Nat :=
  ((((s.desk d).occupants.filter (!·.silenced)).map fun x => (s.pointS x.point).priority).min?).getD 0

/-- R125, R126: the horn of a desk after an event: on a change into SOUNDING the wanted pattern is in force at once; while
it stays SOUNDING the pattern in force is kept; OFF and SILENCED hold none. -/
def Part.hornAfter (s : Part) (d : Nat) : HornState × Nat :=
  match (s.desk d).hornFromSlots with
  | .sounding => (.sounding, if (s.desk d).horn = .sounding then (s.desk d).hornPattern else s.wantedPattern d)
  | h => (h, 0)

/-- The horns of all desks are worked out again. -/
def Part.refreshHorns (s : Part) : Part :=
  (numbers Config.nDesks).foldl (fun t d =>
    t.modDesk d fun x => { x with horn := (s.hornAfter d).1, hornPattern := (s.hornAfter d).2 }) s

/-! ### Lamp sources (R128) -/

/-- The areas of the configured points that satisfy a test, read in one pass. -/
def Part.areasHolding (s : Part) (f : PointStatic → Point → Bool) : List Nat :=
  ((s.live.points.toList.zip s.points.toList).filter fun x => x.1.configured && f x.1 x.2).map (·.1.area)

/-- Whether a point needs acknowledgement. -/
def PointState.unacked (st : PointState) : Bool := st == .unack || st == .rtnUnack

/-- The areas whose presentation desk is the desk; none for desk 0 (R128). -/
def Part.deskAreas (s : Part) (d : Nat) : List Nat :=
  if d = 0 then [] else (numbers Config.nAreas).filter fun a => (s.area a).pdesk == d

/-- R128: the value of lamp source `k` at desk `d`. -/
def Part.lampSource (s : Part) (d k : Nat) : Bool :=
  let here := s.deskAreas d
  match k with
  | 0 => false
  | 1 => true
  | 2 => !here.isEmpty && (s.areasHolding fun x y => x.priority == 1 && y.state.unacked).any here.contains
  | 3 => here.any fun a => 0 < (s.area a).counts.unack
  | 4 => !here.isEmpty && (s.areasHolding fun _ y => y.state == .rtnUnack).any here.contains
  | 5 => (s.desk d).horn == .silenced
  | 6 => here.any fun a => (s.area a).flood == .flood
  | 7 => (numbers Config.nAreas).any fun a => (s.area a).flood == .flood
  | 8 => here.any fun a => 0 < (s.area a).counts.deferred
  | 9 => here.any fun a => 0 < (s.area a).counts.shelved || 0 < (s.area a).counts.removed
  | 10 => here.any fun a => 0 < (s.area a).counts.suppressed
  | 11 => (s.desk d).signedOn != 0 && (numbers Config.nSessions).any fun n =>
      (s.session n).state != .idle
        && ((s.session n).outgoing == (s.desk d).signedOn || (s.session n).incoming == (s.desk d).signedOn)
  | 12 => 1 < (s.desk d).stack.length
  | 13 => (numbers Config.nAreas).any fun a => (s.area a).mode == .unattended && 0 < (s.area a).counts.unack
  | 14 => s.lif.link == .quiet
  | 15 => (s.desk d).signedOn != 0
  | _ => false

/-- The values of all sixteen sources at a desk. -/
def Part.lampSources (s : Part) (d : Nat) : List Bool := (List.range 16).map (s.lampSource d)

/-! ### Output pins (R125, R127, R129, R130, R191) -/

/-- Whether a lamp test runs at a desk (R129). -/
def Desk.testing (x : Desk) : Bool := x.lampTest.remaining != 0

/-- HORNn is on (R125, R129, R130, R191). -/
def Part.hornOut (s : Part) (d : Nat) : Bool :=
  if s.resetLow || s.phase != .running then false
  else if (s.desk d).testing then onEighth (s.desk d).phase
  else (s.desk d).horn == .sounding && hornPatternOn (s.desk d).hornPattern (s.desk d).phase

/-- LAMPnk is on (R127, R129, R130, R191). A lamp test
lights the lamps also before the first frame boundary after a commit, which is the model's choice (log 37). -/
def Part.lampOut (s : Part) (d k : Nat) : Bool :=
  if s.resetLow || s.phase != .running then false
  else if (s.desk d).testing then true
  else
    let l := getAt (s.desk d).lamps k
    (s.desk d).lampsFollow && (s.lampSource d l.source != l.invert) && l.pattern.on (s.desk d).phase

/-- TXD is held high: no frame is being sent, or RESET# is low (R167, R191). -/
def Part.txdIdleHigh (s : Part) : Bool := s.resetLow || s.lif.sending.isNone

/-- The bit rate that the sampled straps set (R167). -/
def Part.bitRate (s : Part) : Nat :=
  match s.lif.baud1, s.lif.baud0 with
  | false, false => 19200
  | false, true => 38400
  | true, false => 115200
  | true, true => 230400

end Sys2Proof.Machine
end

