-- ==== Sys2Proof/Machine/Events.lean ====
section
/-! DEFINITION. What frames every event: the reports that its changes queue (R3, R6, R40, R114, R131, R152, R160, R162),
the taking of a request and its reply (R172), and the part held in reset. -/

namespace Sys2Proof.Machine

/-! ### The reports of one event -/

/-- R3: the fields of a point whose change queues a POINT report. -/
def pointReported (x y : Point) : Bool :=
  x.state != y.state || x.shadow != y.shadow || x.view != y.view || x.occurrences != y.occurrences
    || x.placement != y.placement

/-- R6: the fields of an area whose change queues an AREA report. -/
def areaReported (x y : Area) : Bool :=
  x.counts != y.counts || x.generation != y.generation || x.pdesk != y.pdesk || x.mode != y.mode || x.flood != y.flood
    || x.responsible != y.responsible || x.session != y.session

/-- R114, R131: slots and silenced flags, the set of areas presented, the horn state and pattern in force, and while
RUNNING the lamp sources. -/
def deskReported (s t : Part) (d : Nat) : Bool :=
  (s.desk d).slots != (t.desk d).slots || s.deskAreas d != t.deskAreas d || (s.desk d).horn != (t.desk d).horn
    || (s.desk d).hornPattern != (t.desk d).hornPattern || (t.phase == .running && s.lampSources d != t.lampSources d)

/-- R152: state, flags, area set, and each entry's sweep state and snapshot. -/
def sessionReported (x y : Session) : Bool :=
  x.state != y.state || x.accepted != y.accepted || x.handedOff != y.handedOff
    || x.entries.map (fun e => (e.area, e.sweep, e.snapGen, e.snapSeq))
        != y.entries.map (fun e => (e.area, e.sweep, e.snapGen, e.snapSeq))

/-- The contents of a layer apart from its timer. -/
def Layer.contents (l : Layer) : PermSet × AreaSet × Option (Nat × PermSet × AreaSet × Nat) :=
  (l.perms, l.scope, l.elev.map fun e => (e.grantor, e.grantPerms, e.grantScope, e.minutes))

/-- R40: the signed-on credential and the stack. -/
def authorityReported (x y : Desk) : Bool :=
  x.signedOn != y.signedOn || x.stack.map Layer.contents != y.stack.map Layer.contents

/-- The entries of kind `k` for the records that changed, or that the event's rule reports in any case, ascending. -/
def changedEntries {α : Type} (k : ReportKind) (extra : List ReportEntry) (f : α → α → Bool) (u v : List α) :
    List ReportEntry :=
  (((u.zip v).zipIdx 1).filter fun x => f x.1.1 x.1.2 || extra.contains { kind := k, subject := x.2 }).map
    fun x => { kind := k, subject := x.2 }

/-- R162: the reports of the event that led from `s` to `t`, in the order of their kind codes and subjects. `extra` are the
reports that its rule queues whatever has changed. -/
def eventReports (s t : Part) (extra : List ReportEntry) : List ReportEntry :=
  changedEntries .point extra pointReported s.points.toList t.points.toList
    ++ changedEntries .area extra areaReported s.areas.toList t.areas.toList
    ++ (((numbers Config.nDesks).filter fun d =>
          deskReported s t d || extra.contains { kind := .desk, subject := d }).map
        fun d => { kind := .desk, subject := d })
    ++ changedEntries .session extra sessionReported s.sessions.toList t.sessions.toList
    ++ changedEntries .authority extra authorityReported s.desks.toList t.desks.toList
    ++ (if s.rst.nearFull = .armed ∧ t.rst.nearFull = .fired then [{ kind := .journalNearFull, subject := 0 }] else [])

/-- The end of the event that led from `s` to `t`: the horns are worked out and the reports are queued. -/
def closeEvent (s : Part) (extra : List ReportEntry) (t : Part) : Part :=
  t.refreshHorns.queueReports (eventReports s t.refreshHorns extra)

/-- The JOURNAL_NEAR_FULL report of an event that queues no other report (R160, R190). -/
def closeJournal (s t : Part) : Part :=
  t.queueReports
    (if s.rst.nearFull = .armed ∧ t.rst.nearFull = .fired then [{ kind := .journalNearFull, subject := 0 }] else [])

/-- A POINT entry. -/
def pointEntry (p : Nat) : ReportEntry := { kind := .point, subject := p }
/-- A DESK entry. -/
def deskEntry (d : Nat) : ReportEntry := { kind := .desk, subject := d }
/-- An AUTHORITY entry. -/
def authorityEntry (d : Nat) : ReportEntry := { kind := .authority, subject := d }

/-! ### Requests and replies (R172) -/

/-- A reply body of the result code alone. -/
def result (r : ResultCode) : List Byte := [r.byte]

/-- The KIND of a reply: the request's kind plus 80h, or FFh for a kind of 80h or above (R171, R172). -/
def replyKind (k : Byte) : Byte := if k.toNat < 0x80 then k + 0x80 else 0xFF

/-- R172: a reply is built into the reply slot; the busy entries made before it go first (R173). -/
def Part.reply (s : Part) (tag kind : Byte) (body : List Byte) : Part :=
  s.modLif fun l =>
    { l with replySlot := some { tag := tag, kind := replyKind kind, body := body, busyAhead := l.busyList.length } }

/-- A request's owning block: the body and the part give the part after the event and the reply body. -/
abbrev Handler := List Byte → Part → Part × List Byte

/-- R172, checks 2 and 3, and then the owning block. -/
def Part.handle (s : Part) (k : ReqKind) (h : Handler) (body : List Byte) : Part × List Byte :=
  if !k.lengthOk body.length then (s, result .badLength)
  else if !k.acceptedIn s.phase then (s, result .wrongPhase)
  else h body s

/-- R172: with the reply slot empty, the oldest frame of the input queue, when it is a request of kind `k`, is taken and
handled whole. Otherwise no request of this kind is taken and nothing changes. -/
def Part.serve (s : Part) (k : ReqKind) (h : Handler) : Part :=
  match s.lif.replySlot, s.lif.inputQueue with
  | none, f :: rest =>
    if f.kind.toNat = k.code then
      let out := (s.modLif fun l => { l with inputQueue := rest }).handle k h f.body
      out.1.reply f.tag f.kind out.2
    else s
  | _, _ => s

/-! ### The machine around the part -/

/-- A step's outcome: the part changes by `f`; the queue does not change. While RESET# is low no event is taken (R191). -/
def onPart (f : Part → Part) (s : State) : Host.Outcome State Fault Refusal :=
  .next { s with part := if s.part.resetLow then s.part else f s.part }

/-- A request row: the taking of a request of kind `k` by its owning block. -/
def onRequest (k : ReqKind) (h : Handler) (s : State) : Host.Outcome State Fault Refusal :=
  onPart (fun p => p.serve k h) s

end Sys2Proof.Machine
end

