-- ==== Sys2Proof/Machine/Operands.lean ====
section
/-! DEFINITION. The operand forms of requests and the layouts of replies and report items (R179 to R183), and the frame with
its CRC (R168, R169). -/

namespace Sys2Proof.Machine

/-! ### The frame (R168, R169) -/

/-- One bit of the CRC division by x^16 + x^12 + x^5 + 1. -/
def crcBit (c : W16) : W16 := if c.getLsbD 15 then (c <<< 1) ^^^ 0x1021 else c <<< 1

/-- One byte of the CRC, most significant bit first. -/
def crcByte (c : W16) (b : Byte) : W16 :=
  crcBit (crcBit (crcBit (crcBit (crcBit (crcBit (crcBit (crcBit (c ^^^ (b.zeroExtend 16 <<< 8)))))))))

/-- The CRC-16 of R169: the register starts at FFFFh and is sent as it stands. -/
def crc16 (l : List Byte) : W16 := l.foldl crcByte 0xFFFF

/-- The bytes of a frame: SYNC, LENGTH, TAG, KIND, BODY, CRC (R168). -/
def frameBytes (tag kind : Byte) (body : List Byte) : List Byte :=
  let inner := byteOf (body.length + 2) :: tag :: kind :: body
  0xA5 :: inner ++ be16 (crc16 inner).toNat

/-! ### Items of requests -/

/-- A 32-bit field of a body, as a word. -/
def word32 (body : List Byte) (i : Nat) : W32 := BitVec.ofNat 32 (field32 body i)

/-- A 16-bit field of a body, as a word. -/
def word16 (body : List Byte) (i : Nat) : W16 := w16 (field16 body i)

/-- The bytes of a body from offset `i`, as numbers: a list of areas or report kinds. -/
def byteList (body : List Byte) (i : Nat) : List Nat := (body.drop i).map (·.toNat)

/-- The items of a body: offsets `head`, `head + size`, … up to its end. -/
def itemOffsets (head size len : Nat) : List Nat := (List.range ((len - head) / size)).map fun i => head + size * i

/-! ### Items of replies and reports -/

/-- The 20-byte point item of R183. Bit 1 of its first byte, which no field takes, is 0 (log 43). -/
def Part.pointItem (s : Part) (p : Nat) : List Byte :=
  let x := s.pointS p
  let y := s.point p
  let shelf := match y.shelfSlot with
    | none => [0, 0, 0, 0, 0]
    | some k =>
      match getAt s.shelf k with
      | none => [0, 0, 0, 0, 0]
      | some u => byteOf k :: byteOf u.desk :: be24 u.timer.remaining
  byteOf (16 * (x.area - 1) + 4 * (x.priority - 1) + (if y.shadow then 1 else 0)) :: byteOf x.group
    :: byteOf y.state.code :: be16 y.view.toNat ++ [byteOf y.occurrences] ++ be32 ((y.firstActive.getD 0).toNat)
    ++ be32 y.lastChange.toNat ++ [byteOf y.placement.code] ++ shelf

/-- The 45 bytes of an AREA item and of the AREA_STATUS reply (R182). -/
def Part.areaItem (s : Part) (a : Nat) : List Byte :=
  let x := s.areaS a
  let y := s.area a
  [byteOf x.fallback] ++ be16 x.high ++ be16 x.low ++ [byteOf x.cutoff, byteOf x.review, byteOf x.releaseRate]
    ++ [byteOf y.responsible, byteOf y.pdesk, byteOf y.mode.code] ++ be16 y.load ++ [byteOf y.flood.code]
    ++ be16 y.counts.unack ++ be16 y.counts.acked ++ be16 y.counts.shelved ++ be16 y.counts.removed
    ++ be16 y.counts.suppressed ++ be16 y.counts.deferred ++ be16 y.generation.toNat ++ [byteOf y.session]
    ++ [1, 2, 3, 4].flatMap (fun pr => be16 (getAt y.pend pr).length)
    ++ [1, 2, 3, 4].flatMap (fun pr => be16 (getAt y.defer pr).length)

/-- The 9 bytes of a layer record; all 0 for a layer not present (R182). -/
def layerBytes (l : Option Layer) : List Byte :=
  match l with
  | none => List.replicate 9 0
  | some x => be16 x.perms.toNat ++ be16 x.scope.toNat ++
    (match x.elev with
      | none => [0, 0, 0, 0, 0]
      | some e => byteOf e.grantor :: be16 e.minutes ++ be16 e.timer.remaining)

/-- The 38 bytes of an AUTHORITY item (R182). -/
def Part.authorityItem (s : Part) (d : Nat) : List Byte :=
  let x := s.desk d
  byteOf x.signedOn :: byteOf x.stack.length :: (List.range Config.stackDepth).flatMap fun i => layerBytes x.stack[i]?

/-- The 9 bytes of a slot (R182). R182 gives 0 as the point of an empty slot; that the view, the presented-at time and the
silenced flag of an empty slot read as 0 too is the model's choice (log 42). -/
def slotBytes (x : Option Slot) : List Byte :=
  match x with
  | none => List.replicate 9 0
  | some y => be16 y.point ++ be16 y.view.toNat ++ be32 y.presentedAt.toNat ++ [flagByte y.silenced]

/-- The two bytes of lamp `k` of desk `d`: the configuration in force and the source value (R182). Bits
5..2 of the second, which no field takes, are 0 (log 43). -/
def Part.lampBytes (s : Part) (d k : Nat) : List Byte :=
  let l := getAt (s.desk d).lamps k
  [byteOf l.source,
    byteOf ((if l.invert then 128 else 0) + (if s.lampSource d l.source then 64 else 0) + l.pattern.code)]

/-- The 93 bytes of a DESK item (R182). -/
def Part.deskItem (s : Part) (d : Nat) : List Byte :=
  let x := s.desk d
  s.authorityItem d ++ [1, 2, 3, 4].flatMap (fun k => slotBytes (getAt x.slots k))
    ++ (List.range 4).map (fun i => byteOf (x.order.getD i 0)) ++ be16 (areaSetOf (s.deskAreas d)).toNat
    ++ [byteOf x.horn.code, byteOf x.hornPattern] ++ [1, 2, 3, 4].flatMap (s.lampBytes d) ++ be16 x.hold.remaining
    ++ [byteOf x.lampTest.remaining]

/-- The header of a SESSION item: 11 bytes, for an IDLE session its first byte alone (R182). Bits 7..4 of the
first byte, which no field takes, are 0 (log 43). -/
def Session.header (x : Session) : List Byte :=
  if x.state = .idle then [0]
  else byteOf (x.state.code + (if x.accepted then 4 else 0) + (if x.handedOff then 8 else 0))
    :: byteOf x.outgoing :: byteOf x.incoming :: be16 (areaSetOf x.areas).toNat ++ be32 x.started.toNat
    ++ be16 x.timer.remaining

/-- The 15 bytes of a review entry in a SESSION item (R182). Bits 3..2 of the first, which no field takes, are 0 (log 43). -/
def entryBytes (e : ReviewEntry) : List Byte :=
  byteOf (16 * (e.area - 1) + e.sweep.code) :: be16 e.cursor ++ be16 e.snapGen.toNat ++ be32 e.snapSeq.toNat
    ++ be32 e.deltaCursor.toNat ++ be16 e.confGen.toNat

/-- The 20 bytes of a journal record (R180). -/
def recordBytes (x : JournalRecord) : List Byte :=
  be32 x.seq.toNat ++ be32 x.time.toNat ++ [byteOf x.kind.code, x.flags, byteOf x.area, byteOf x.desk, byteOf x.credential]
    ++ be16 x.point ++ [byteOf x.priority] ++ be16 x.value.toNat ++ be16 x.generation.toNat

/-- The 11 bytes of a standing point in a REVIEW_NEXT reply (R181). -/
def Part.standingBytes (s : Part) (p : Nat) : List Byte :=
  let y := s.point p
  be16 p ++ [byteOf (16 * y.state.code + (s.pointS p).priority), byteOf y.occurrences, byteOf y.placement.code]
    ++ be16 y.view.toNat ++ be32 ((y.firstActive.getD 0).toNat)

/-- The number of shelf slots in use (R69, R177). -/
def Part.shelfInUse (s : Part) : Nat := (s.shelf.toList.filter (·.isSome)).length

/-- The 34 bytes of the PART_STATUS reply (R182). Bits 7..2 of the strap value, which no field takes, are 0 (log 43). -/
def Part.statusBytes (s : Part) : List Byte :=
  let r := s.rst
  byteOf s.phase.code :: be32 s.now.toNat ++ [byteOf s.live.plant.jField] ++ be32 r.nextSeq.toNat ++ be32 r.oldest.toNat
    ++ be32 r.mark.toNat ++ be16 r.unarchived ++ [byteOf r.nearFull.code] ++ be16 r.reports.length
    ++ be16 (Config.storeSlots - s.journalSize) ++ be16 r.dropped
    ++ [byteOf ((numbers 8).foldl (fun n k => n + (if k ≤ 6 && !getAt r.enabled k then 0 else 2 ^ (k - 1))) 0)]
    ++ [byteOf s.shelfInUse, byteOf s.lif.link.code, byteOf s.lif.quietTimer.remaining]
    ++ [byteOf ((if s.lif.baud1 then 2 else 0) + (if s.lif.baud0 then 1 else 0))] ++ be16 s.lif.badFrames

end Sys2Proof.Machine
end

