-- ==== Sys2Proof/Machine/Alarm.lean ====
section
/-! DEFINITION. The alarm life cycle: CONDITIONS, GROUP and ACK (R14 to R18, R41 to R59), and the refusals that are
journaled. -/

namespace Sys2Proof.Machine

/-! ### Answers that change nothing but the journal -/

/-- Whether an answer writes a REFUSAL record: DENIED, NOT_YOUR_AREA and STALE_VIEW do (spec 09, R39, R59, R79, R91, R151). -/
def ResultCode.journaled (r : ResultCode) : Bool := r == .denied || r == .notYourArea || r == .staleView

/-- A refused act of desk `d`: its REFUSAL record, when the answer writes one. -/
def Part.refuse (s : Part) (d a p pr : Nat) (r : ResultCode) : Part :=
  if r.journaled then closeEvent s [] (s.writeRefusal d a p pr r) else s

/-- A refused act upon a point: the record names the point, its area and priority. -/
def Part.refusePoint (s : Part) (d p : Nat) (r : ResultCode) : Part :=
  s.refuse d (s.pointS p).area p (s.pointS p).priority r

/-! ### States entered in several ways -/

/-- R43, R16, R73: point `p` enters UNACK from a state other than RTN_UNACK: view + 1, occurrences 1, first-active now, and
it is placed by R51. -/
def Part.enterUnack (s : Part) (p : Nat) : Part :=
  ((s.changeState p .unack).modPoint p fun x =>
    { x with view := x.view + 1, occurrences := 1, firstActive := some s.now }).place p

/-- R2: point `p` enters NORMAL: occurrences 0, first-active time absent. -/
def Part.enterNormal (s : Part) (p : Nat) : Part :=
  (s.changeState p .normal).modPoint p fun x => { x with occurrences := 0, firstActive := none }

/-- The record that names point `p`, its area and priority. -/
def Part.pointRecord (s : Part) (k : JKind) (p : Nat) : RecordFields :=
  { kind := k, area := (s.pointS p).area, point := p, priority := (s.pointS p).priority }

/-- Whether a change of state of point `p` is significant by its priority (R12). -/
def Part.reviewed (s : Part) (p : Nat) : Bool := (s.pointS p).priority ≤ (s.areaS (s.pointS p).area).review

/-- Fills the desk at which area `a` is presented. -/
def Part.fillAreaDesk (s : Part) (a : Nat) : Part := s.fill (s.area a).pdesk

/-! ### CONDITIONS (R41 to R54) -/

/-- Whether a condition is a REPEAT for point `p` (R43 to R47). -/
def Part.conditionHeld (s : Part) (p : Nat) (active : Bool) : Bool :=
  match (s.point p).state with
  | .normal | .rtnUnack => !active
  | .unack | .acked => active
  | .shelved | .removed | .suppressed => (s.point p).shadow == active

/-- R52, steps 1 to 3: the point's change, its placement, and the contribution to the load index. -/
def Part.conditionChange (s : Part) (p : Nat) : Part :=
  match (s.point p).state with
  | .normal => ((s.modPoint p fun x => { x with shadow := true }).enterUnack p).contribute p
  | .unack =>
    (s.changeState p .rtnUnack).modPoint p fun x => { x with shadow := false, view := x.view + 1 }
  | .acked => (s.modPoint p fun x => { x with shadow := false }).enterNormal p
  | .rtnUnack =>
    ((s.changeState p .unack).modPoint p fun x =>
      { x with shadow := true, view := x.view + 1, occurrences := min 255 (x.occurrences + 1) }).contribute p
  | .shelved | .removed | .suppressed =>
    s.modPoint p fun x => { x with shadow := !x.shadow, lastChange := s.now }

/-- R52: one condition event, of a condition that is not a REPEAT. -/
def Part.conditionEvent (s : Part) (p : Nat) (active : Bool) : Part :=
  let a := (s.pointS p).area
  let s1 := s.conditionChange p
  let entered := (s.area a).flood != .flood && (s1.area a).flood == .flood
  let sig := ((s1.point p).state != (s.point p).state && s.reviewed p) || entered
  let s2 := if sig then s1.bump a else s1
  let value := 256 * (if active then 1 else 0) + (s2.point p).state.code
  let s3 := s2.write sig { s.pointRecord .condition p with value := w16 value }
  let s4 :=
    if entered then
      s3.write true
        { s.pointRecord .floodEnter p with
          value := w16 (s3.area a).load, flags := flagIf ((s.area a).flood == .releasing) flagReflood }
    else s3
  let s5 := if (s.point p).state = .normal ∧ (s4.point p).placement = .queued then s4.fillAreaDesk a else s4
  closeEvent s [] (if sig then s5.notify a else s5)

/-- R42, R48: one item of a CONDITIONS request. That a condition code other than clear and active is answered BAD_FIELD also
for an unconfigured point is the model's choice (log 41). -/
def Part.conditionItem (s : Part) (p c : Nat) : Part × ResultCode :=
  if !isPoint p || 1 < c then (s, .badField)
  else if !(s.pointS p).configured then (s, .badPoint)
  else if s.conditionHeld p (c == 1) then (s, .repeated)
  else (s.conditionEvent p (c == 1), .ok)

/-- Items taken in order, each from the part that the one before it left (R41, R55, R32): the answers follow each other. -/
def takeItemsInOrder (f : Part → Nat → Part × List Byte) (items : List Nat) (s : Part) : Part × List Byte :=
  items.foldl (fun acc i => ((f acc.1 i).1, acc.2 ++ (f acc.1 i).2)) (s, [])

/-- R41: the items of a CONDITIONS request, at the offsets of R179. -/
def conditionsHandler : Handler := fun body s =>
  let out := takeItemsInOrder (fun s i =>
    let r := s.conditionItem (field16 body i) (byteAt body (i + 2))
    (r.1, [r.2.byte])) (itemOffsets 0 3 body.length) s
  (out.1, ResultCode.ok.byte :: out.2)

/-- CONDITIONS (R41). -/
def execConditions (s : State) : Host.Outcome State Fault Refusal := onRequest .conditions conditionsHandler s

/-! ### GROUP (R14 to R18) -/

/-- R15, R16: whether a group event changes the state of point `p`. -/
def Part.groupChanges (s : Part) (on : Bool) (p : Nat) : Bool :=
  match (s.point p).state with
  | .normal | .unack | .acked | .rtnUnack => on
  | .suppressed => !on
  | .shelved | .removed => false

/-- R15, R16: the change of one member. -/
def Part.groupMember (s : Part) (on : Bool) (p : Nat) : Part :=
  if on then (s.withdraw p).changeState p .suppressed
  else if (s.point p).shadow then s.enterUnack p
  else s.enterNormal p

/-- R15, R16: the STATE record of a member, with its state after the event; `s` is the part before it. -/
def Part.writeMember (s t : Part) (p : Nat) : Part :=
  t.write true
    { s.pointRecord .state p with
      value := w16 (t.point p).state.code, flags := flagIf (s.point p).state.unacked flagAckDropped }

/-- The areas of a list of points, ascending. -/
def Part.areasOf (s : Part) (l : List Nat) : List Nat :=
  (numbers Config.nAreas).filter fun a => l.any fun p => (s.pointS p).area == a

/-- R14: the event of a GROUP request that changes the vector. The RELEASE records of R87 stand after all STATE records, in
ascending area number, which is the model's choice (log 36). -/
def Part.groupEvent (s : Part) (g : Nat) (on : Bool) : Part :=
  let changed := (s.groupMembers g).filter (s.groupChanges on)
  let touched := s.areasOf changed
  let s1 := changed.foldl (fun t p => t.groupMember on p) { s with groups := setAt s.groups g on }
  let s2 := touched.foldl Part.bump s1
  let s3 := s2.write false { kind := .group, value := w16 (256 * g + (if on then 1 else 0)) }
  let s4 := changed.foldl (fun t p => s.writeMember t p) s3
  let s5 := touched.foldl (fun t a => t.calmIfEmpty a true) s4
  let s6 := s5.fillWhere fun d =>
    touched.any (fun a => (s5.area a).pdesk == d) || (s5.desk d).slots != (s.desk d).slots
  closeEvent s [] (touched.foldl Part.notify s6)

/-- R14: a GROUP request. -/
def groupHandler : Handler := fun body s =>
  let g := byteAt body 0
  let v := byteAt body 1
  if !(1 ≤ g && g ≤ Config.nGroups) || 1 < v then (s, result .badField)
  else if getAt s.groups g = (v == 1) then (s, result .repeated)
  else (s.groupEvent g (v == 1), result .ok)

/-- GROUP (R14). -/
def execGroup (s : State) : Host.Outcome State Fault Refusal := onRequest .group groupHandler s

/-! ### Acknowledgement (R55 to R59) -/

/-- R56: the checks of one ACK item; none when it passes. -/
def Part.ackCheck (s : Part) (d p : Nat) (view : W16) : Option ResultCode :=
  if !isPoint p then some .badField
  else if !(s.pointS p).configured then some .badPoint
  else if (s.desk d).signedOn = 0 then some .notSignedOn
  else if !allows (s.topLayer d) Perm.ack.set (s.pointS p).area then some .denied
  else if (s.area (s.pointS p).area).pdesk ≠ d then some .notYourArea
  else if !(s.point p).state.unacked then some .nothingToAck
  else if view ≠ (s.point p).view then some .staleView
  else none

/-- R57: the state an acknowledged point goes to. -/
def ackTarget (st : PointState) : PointState := if st = .unack then .acked else .normal

/-- R57: the point leaves its placement and its unacknowledged state. -/
def Part.ackPoint (s : Part) (p : Nat) : Part :=
  ((s.withdraw p).changeState p (ackTarget (s.point p).state)).modPoint p fun x =>
    { x with occurrences := 0, firstActive := if x.state = .normal then none else x.firstActive }

/-- R57 to R59: the acknowledgement of point `p` through desk `d`, by a request or by the button. -/
def Part.acknowledge (s : Part) (d p : Nat) (button : Bool) : Part :=
  let a := (s.pointS p).area
  let sig := s.reviewed p
  let s1 := s.ackPoint p
  let s2 := if sig then s1.bump a else s1
  let s3 := s2.write sig
    { s.pointRecord .ack p with
      desk := d, credential := (s.desk d).signedOn
      value := w16 (256 * (if button then 1 else 0) + (s2.point p).state.code) }
  let s4 := (s3.calmIfEmpty a sig).fill (s.shownAt p)
  closeEvent s [] (if sig then s4.notify a else s4)

/-- R55: one item of an ACK request: its result and the point's view number after it. -/
def Part.ackItem (s : Part) (d p : Nat) (view : W16) : Part × List Byte :=
  match s.ackCheck d p view with
  | none => let t := s.acknowledge d p false; (t, ResultCode.ok.byte :: be16 (t.point p).view.toNat)
  | some .badField => (s, ResultCode.badField.byte :: be16 0)
  | some .badPoint => (s, ResultCode.badPoint.byte :: be16 0)
  | some r => (s.refusePoint d p r, r.byte :: be16 (s.point p).view.toNat)

/-- R55: the items of an ACK request; with no such desk every item is BAD_FIELD. -/
def ackHandler : Handler := fun body s =>
  let d := byteAt body 0
  let out := takeItemsInOrder (fun s i =>
    if isDesk d then s.ackItem d (field16 body i) (word16 body (i + 2)) else (s, ResultCode.badField.byte :: be16 0))
    (itemOffsets 1 4 body.length) s
  (out.1, ResultCode.ok.byte :: out.2)

/-- ACK (R55). -/
def execAck (s : State) : Host.Outcome State Fault Refusal := onRequest .ack ackHandler s

end Sys2Proof.Machine
end

