-- ==== Sys2Proof/Machine/Authority.lean ====
section
/-! DEFINITION. Credentials, sign-on and the authority stack: SIGN_ON, SIGN_OFF, ELEVATE, DROP, LAYER_EXPIRY, ASSUME, REVOKE
and the edit of a credential while RUNNING (R19 to R39). -/

namespace Sys2Proof.Machine

/-! ### SIGN_ON (R24) -/

/-- R23: the base layer of a credential. -/
def Part.baseOf (s : Part) (c : Nat) : Layer := { perms := s.effPerms c, scope := (s.cred c).scope, elev := none }

/-- R24: its checks, after the desk's number; the credential that signs on when they pass. -/
def Part.signOnCheck (s : Part) (d badge : Nat) : Except ResultCode Nat :=
  if !isDesk d then .error .badField
  else
    match s.findBadge badge with
    | none => .error .unknownBadge
    | some c =>
      if getAt s.credDesk c = d then .error .repeated
      else if getAt s.credDesk c ≠ 0 then .error .signedOnElsewhere
      else if (s.desk d).signedOn ≠ 0 then .error .deskOccupied
      else if !permsWithin Perm.view.set (s.effPerms c) then .error .denied
      else .ok c

/-- R24: credential `c` signs on at desk `d`. -/
def Part.signOn (s : Part) (d c : Nat) : Part :=
  let s1 :=
    { s.modDesk d fun x => { x with signedOn := c, stack := [s.baseOf c] } with credDesk := setAt s.credDesk c d }
  closeEvent s [] (s1.recompute.write false { kind := .signOn, desk := d, credential := c })

/-- R24: a SIGN_ON request. -/
def signOnHandler : Handler := fun body s =>
  let d := byteAt body 0
  match s.signOnCheck d (field32 body 1) with
  | .error r => (s.refuse d 0 0 0 r, result r)
  | .ok c => (s.signOn d c, [ResultCode.ok.byte, byteOf c])

/-- SIGN_ON (R24). -/
def execSignOn (s : State) : Host.Outcome State Fault Refusal := onRequest .signOn signOnHandler s

/-! ### SIGN_OFF (R25) -/

/-- The areas whose responsible credential is `c`, ascending. -/
def Part.heldBy (s : Part) (c : Nat) : List Nat := (numbers Config.nAreas).filter fun a => (s.area a).responsible == c

/-- R25: its checks; none when it passes. -/
def Part.signOffCheck (s : Part) (d : Nat) : Option ResultCode :=
  if !isDesk d then some .badField
  else if (s.desk d).signedOn = 0 then some .notSignedOn
  else if !(s.heldBy (s.desk d).signedOn).isEmpty then some .holdsAreas
  else none

/-- R25: the sign-off of desk `d`. -/
def Part.signOff (s : Part) (d : Nat) : Part :=
  let c := (s.desk d).signedOn
  let s1 := s.abandonWhere abandonIncomingSignedOff d fun x => x.incoming == c
  closeEvent s []
    (((s1.signOffDesk d).recompute).write false
      { kind := .signOff, desk := d, credential := c, value := reasonRequested })

/-- R25: a SIGN_OFF request. -/
def signOffHandler : Handler := fun body s =>
  let d := byteAt body 0
  match s.signOffCheck d with
  | some r => (s, result r)
  | none => (s.signOff d, result .ok)

/-- SIGN_OFF (R25). -/
def execSignOff (s : State) : Host.Outcome State Fault Refusal := onRequest .signOff signOffHandler s

/-! ### ELEVATE (R26, R27) -/

/-- The areas of an area set, ascending. -/
def areasIn (sc : AreaSet) : List Nat := (numbers Config.nAreas).filter fun a => inScope sc a

/-- R26, check 4: ELEVATE and every permission granted, in the grantor's effective set, and the area in its scope. -/
def Part.grantorPasses (s : Part) (c : Nat) (perms : PermSet) (a : Nat) : Bool :=
  allows (some (s.baseOf c)) (Perm.elevate.set ||| perms) a

/-- R26, check 4 over the whole granted scope. -/
def Part.grantPasses (s : Part) (c : Nat) (perms : PermSet) (sc : AreaSet) : Bool :=
  permsWithin (Perm.elevate.set ||| perms) (s.effPerms c) && (areasIn sc).all (s.grantorPasses c perms)

/-- R26: its checks; the grantor when they pass. -/
def Part.elevateCheck (s : Part) (d badge : Nat) (perms : PermSet) (sc : AreaSet) (minutes : Nat) :
    Except ResultCode Nat :=
  if !isDesk d || !permBitsOk perms || minutes == 0 then .error .badField
  else
    match s.findBadge badge with
    | none => .error .unknownBadge
    | some c =>
      if (s.desk d).signedOn = 0 then .error .notSignedOn
      else if !s.grantPasses c perms sc then .error .denied
      else if Config.stackDepth ≤ (s.desk d).stack.length then .error .stackFull
      else .ok c

/-- R27: the layer pushed over `below`. -/
def Layer.over (below : Layer) (c : Nat) (perms : PermSet) (sc : AreaSet) (minutes : Nat) : Layer :=
  { perms := below.perms ||| perms
    scope := below.scope ||| sc
    elev := some
      { grantor := c, grantPerms := perms, grantScope := sc, minutes := minutes, timer := Timer.load (minutes * 60) } }

/-- R27: the push of an elevation layer of `minutes` granted. -/
def Part.elevate (s : Part) (d c : Nat) (perms : PermSet) (sc : AreaSet) (minutes : Nat) : Part :=
  let below := (s.topLayer d).getD default
  closeEvent s []
    ((s.modDesk d fun x => { x with stack := x.stack ++ [below.over c perms sc minutes] }).write false
      { kind := .elevate, desk := d, credential := c, value := w16 minutes })

/-- R26: an ELEVATE request. The area of a refusal's record is that of R39 (log 11). -/
def elevateHandler : Handler := fun body s =>
  let d := byteAt body 0
  let badge := field32 body 1
  let perms := word16 body 5
  let sc := word16 body 7
  match s.elevateCheck d badge perms sc (field16 body 9) with
  | .error r =>
    let c := (s.findBadge badge).getD 0
    (s.refuse d (lowestFailing (areasIn sc) (s.grantorPasses c perms)) 0 0 r, result r)
  | .ok c =>
    let minutes := min (field16 body 9) 480
    let t := s.elevate d c perms sc minutes
    (t, ResultCode.ok.byte :: be16 minutes ++ [byteOf (t.desk d).stack.length])

/-- ELEVATE (R27). -/
def execElevate (s : State) : Host.Outcome State Fault Refusal := onRequest .elevate elevateHandler s

/-! ### DROP and the expiry of a layer (R28, R29) -/

/-- R28: its checks; none when it passes. -/
def Part.dropCheck (s : Part) (d : Nat) : Option ResultCode :=
  if !isDesk d then some .badField
  else if (s.desk d).signedOn = 0 then some .notSignedOn
  else if (s.desk d).stack.length ≤ 1 then some .wrongState
  else none

/-- R28: the top elevation layer of desk `d` goes. -/
def Part.dropLayer (s : Part) (d : Nat) : Part :=
  closeEvent s [] (s.cascade d (s.desk d).stack.length layerDropped)

/-- R28: a DROP request. -/
def dropHandler : Handler := fun body s =>
  let d := byteAt body 0
  match s.dropCheck d with
  | some r => (s, result r)
  | none =>
    let t := s.dropLayer d
    (t, [ResultCode.ok.byte, byteOf (t.desk d).stack.length])

/-- DROP (R28). -/
def execDrop (s : State) : Host.Outcome State Fault Refusal := onRequest .drop dropHandler s

/-- Whether the expiry of layer `n` of desk `d` is due. -/
def Part.layerDue (s : Part) (d n : Nat) : Bool :=
  match (s.desk d).stack[n - 1]? with
  | none => false
  | some l =>
    match l.elev with
    | none => false
    | some e => e.timer.due

/-- R29: layer `n` of desk `d` has expired. -/
def Part.layerExpires (s : Part) (d n : Nat) : Part := closeEvent s [] (s.cascade d n layerExpired)

/-- LAYER_EXPIRY (R29): taken when the expiry is due. -/
def execLayerExpiry (d layer : Nat) (s : State) : Host.Outcome State Fault Refusal :=
  onPart (fun p => if isDesk d && 2 ≤ layer && p.layerDue d layer then p.layerExpires d layer else p) s

/-! ### ASSUME (R32, R33) -/

/-- R32: the checks of one area; none when it passes. -/
def Part.assumeCheck (s : Part) (d a : Nat) : Option ResultCode :=
  if !isArea a then some .badField
  else if !allows (s.baseLayer d) permTakeAck a then some .denied
  else if (s.area a).responsible = (s.desk d).signedOn then some .repeated
  else if (s.area a).responsible ≠ 0 ∨ (s.area a).session ≠ 0 then some .areaBusy
  else none

/-- R33: the desk's credential becomes responsible for area `a`; `first` says that it is the request's first success, whose
event queues the AUTHORITY report (log 15). -/
def Part.assumeArea (s : Part) (d a : Nat) (first : Bool) : Part :=
  let c := (s.desk d).signedOn
  let s1 := ((s.modArea a fun x => { x with responsible := c }).bump a).recompute
  closeEvent s (if first then [authorityEntry d] else [])
    (s1.write true { kind := .assume, area := a, desk := d, credential := c })

/-- R32: the items of an ASSUME request at a desk with a credential. -/
def Part.assumeItems (s : Part) (d : Nat) : List Nat → Bool → Part × List Byte
  | [], _ => (s, [])
  | a :: rest, first =>
    match s.assumeCheck d a with
    | some r => let o := (s.refuse d a 0 0 r).assumeItems d rest first; (o.1, r.byte :: o.2)
    | none => let o := (s.assumeArea d a first).assumeItems d rest false; (o.1, ResultCode.ok.byte :: o.2)

/-- R32: an ASSUME request. -/
def assumeHandler : Handler := fun body s =>
  let d := byteAt body 0
  let l := byteList body 1
  if !isDesk d then (s, ResultCode.ok.byte :: l.map fun _ => ResultCode.badField.byte)
  else if (s.desk d).signedOn = 0 then (s, ResultCode.ok.byte :: l.map fun _ => ResultCode.notSignedOn.byte)
  else let o := s.assumeItems d l true; (o.1, ResultCode.ok.byte :: o.2)

/-- ASSUME (R32). -/
def execAssume (s : State) : Host.Outcome State Fault Refusal := onRequest .assume assumeHandler s

/-! ### CONFIGURE authority and credential edits while RUNNING (R34, R35) -/

/-- The desk part of the checks of R34, R36 and R189: the desk, its credential, and CONFIGURE plant-wide. -/
def Part.configureCheck (s : Part) (d : Nat) (badField : Bool) : Option ResultCode :=
  if !isDesk d || badField then some .badField
  else if (s.desk d).signedOn = 0 then some .notSignedOn
  else if !allowsPlantWide (s.topLayer d) Perm.configure.set then some .denied
  else none

/-- The status byte and the credential that a CONFIG_CREDENTIAL body carries (R183). -/
def credentialOf (body : List Byte) : Credential :=
  { valid := byteAt body 2 == 1, badge := word32 body 3, role := byteAt body 7, grant := word16 body 8
    deny := word16 body 10, scope := word16 body 12 }

/-- R34, check 3: what makes an edit BAD_FIELD. That the permission bits 12 to 15 and a status of 2..255, which R178 makes
BAD_FIELD, are judged in this check is the model's reading (log 16). -/
def Part.editBadField (s : Part) (c : Nat) (status : Nat) (x : Credential) : Bool :=
  !(1 ≤ c && c ≤ Config.nCreds) || status != 1 || x.badge == 0 || !(1 ≤ x.role && x.role ≤ Config.nRoles)
    || !permBitsOk x.grant || !permBitsOk x.deny
    || (numbers Config.nCreds).any fun k => k != c && (s.cred k).valid && (s.cred k).badge == x.badge

/-- R34, check 4: an area held by credential `c` that the edit would leave without ACK or out of scope. -/
def Part.editLosesArea (s : Part) (c : Nat) (x : Credential) : Bool :=
  (s.heldBy c).any fun a =>
    !permsWithin Perm.ack.set (effectivePerms (getAt s.live.roles x.role) x) || !inScope x.scope a

/-- R34: its checks; none when the edit passes. -/
def Part.editCheck (s : Part) (d c status : Nat) (x : Credential) : Option ResultCode :=
  match s.configureCheck d false with
  | some r => some r
  | none =>
    if s.editBadField c status x then some .badField
    else if s.editLosesArea c x then some .holdsAreas
    else none

/-- R35: the elevation layers over `below`, built again from the bottom up. -/
def rebuildOver (below : Layer) : List Layer → List Layer
  | [] => []
  | l :: rest =>
    match l.elev with
    | none => l :: rebuildOver l rest
    | some e =>
      let x : Layer := { l with perms := below.perms ||| e.grantPerms, scope := below.scope ||| e.grantScope }
      x :: rebuildOver x rest

/-- R185: writes a credential into the live and the staged copy. -/
def Part.setCred (s : Part) (c : Nat) (x : Credential) : Part :=
  { s with
    live := { s.live with creds := setAt s.live.creds c x }
    staged := { s.staged with creds := setAt s.staged.creds c x } }

/-- R35: an edit that passes. -/
def Part.editCredential (s : Part) (c : Nat) (x : Credential) : Part :=
  let d := getAt s.credDesk c
  let s1 := s.setCred c x
  let s2 :=
    if d = 0 then s1
    else s1.modDesk d fun y => { y with stack := s1.baseOf c :: rebuildOver (s1.baseOf c) y.stack.tail }
  closeEvent s (if d = 0 then [] else [authorityEntry d]) s2.recompute

/-- R34: CONFIG_CREDENTIAL in RUNNING. -/
def Part.runningEdit (s : Part) (body : List Byte) : Part × List Byte :=
  let d := byteAt body 0
  let c := byteAt body 1
  match s.editCheck d c (byteAt body 2) (credentialOf body) with
  | some r => (s.refuse d 0 0 0 r, result r)
  | none => (s.editCredential c (credentialOf body), result .ok)

/-! ### REVOKE (R36, R37) -/

/-- R36: its checks; none when it passes. -/
def Part.revokeCheck (s : Part) (d c : Nat) : Option ResultCode :=
  match s.configureCheck d (!(1 ≤ c && c ≤ Config.nCreds)) with
  | some r => some r
  | none => if (s.cred c).valid then none else some .repeated

/-- R37, step 2: area `a` loses its responsible credential. -/
def Part.releaseResponsibility (s : Part) (d a : Nat) : Part :=
  ((s.modArea a fun x => { x with responsible := 0 }).bump a).write true
    { kind := .assume, area := a, desk := d, credential := 0, value := reasonRevoked }

/-- The number of the lowest layer of desk `d` granted by `c`, if any. -/
def Part.grantedLayer (s : Part) (d c : Nat) : Option Nat :=
  (((s.desk d).stack.zipIdx 1).find? fun x => (x.1.elev.map (·.grantor)) == some c).map (·.2)

/-- R37, step 3: the layers that `c` granted at desk `d` go, with those above. -/
def Part.revokeGrants (s : Part) (c d : Nat) : Part :=
  match s.grantedLayer d c with
  | none => s
  | some n => s.cascade d n layerGrantorRevoked

/-- R37, step 4: the desk at which `c` is signed on is signed off. -/
def Part.forceOff (s : Part) (c : Nat) : Part :=
  if getAt s.credDesk c = 0 then s
  else
    (s.signOffDesk (getAt s.credDesk c)).write false
      { kind := .signOff, desk := getAt s.credDesk c, credential := c, value := reasonRevoked }

/-- R37: the revocation of credential `c` from desk `d`, in the order of its steps. -/
def Part.revoke (s : Part) (d c : Nat) : Part :=
  let s1 := s.abandonWhere abandonRevoked d fun x => x.outgoing == c || x.incoming == c
  let s2 := (s.heldBy c).foldl (fun t a => t.releaseResponsibility d a) s1
  let s3 := (numbers Config.nDesks).foldl (fun t e => t.revokeGrants c e) s2
  closeEvent s [] (((s3.forceOff c).setCred c Credential.vacant).recompute)

/-- R36: a REVOKE request. -/
def revokeHandler : Handler := fun body s =>
  let d := byteAt body 0
  let c := byteAt body 1
  match s.revokeCheck d c with
  | some r => (s.refuse d 0 0 0 r, result r)
  | none => (s.revoke d c, result .ok)

/-- REVOKE (R37). -/
def execRevoke (s : State) : Host.Outcome State Fault Refusal := onRequest .revoke revokeHandler s

end Sys2Proof.Machine
end

