-- ==== Sys2Proof/Machine/Configuration.lean ====
section
/-! DEFINITION. The Configuration Controller: CONFIG_BEGIN, CONFIG_PLANT, CONFIG_AREA, CONFIG_POINTS, CONFIG_ROLE,
CONFIG_CREDENTIAL, CONFIG_DESK and CONFIG_COMMIT (R184 to R190). -/

namespace Sys2Proof.Machine

/-- Whether a number lies in a range. -/
def within (lo hi n : Nat) : Bool := lo ≤ n && n ≤ hi

/-- Changes the staged copy. -/
def Part.modStaged (s : Part) (f : Cfg → Cfg) : Part := { s with staged := f s.staged }

/-- R186: a request that writes the staged copy when its checks pass. -/
def Part.stage (s : Part) (ok : Bool) (f : Cfg → Cfg) : Part × List Byte :=
  if ok then (s.modStaged f, result .ok) else (s, result .badField)

/-! ### The writes of LOADING (R19, R186) -/

/-- R186: the plant record of a CONFIG_PLANT body. -/
def plantOf (body : List Byte) : PlantRecord :=
  { weights := #v[byteAt body 0, byteAt body 1, byteAt body 2, byteAt body 3], jField := byteAt body 4
    offerTime := field16 body 5, reviewTime := field16 body 7, pacing := byteAt body 9, quietTime := byteAt body 10 }

/-- R186: the fields CONFIG_PLANT checks; the J field is left to the commit. -/
def plantOk (x : PlantRecord) : Bool :=
  x.weights.all (· ≤ 15) && within 30 3600 x.offerTime && within 60 7200 x.reviewTime && within 1 60 x.quietTime

/-- R186: a CONFIG_PLANT request. -/
def configPlantHandler : Handler := fun body s => s.stage (plantOk (plantOf body)) fun c => { c with plant := plantOf body }

/-- CONFIG_PLANT (R186). -/
def execConfigPlant (s : State) : Host.Outcome State Fault Refusal := onRequest .configPlant configPlantHandler s

/-- R186: the area fields of a CONFIG_AREA body. -/
def areaOf (body : List Byte) : AreaStatic :=
  { fallback := byteAt body 1, high := field16 body 2, low := field16 body 4, cutoff := byteAt body 6
    review := byteAt body 7, releaseRate := byteAt body 8 }

/-- R186: a CONFIG_AREA request. -/
def configAreaHandler : Handler := fun body s =>
  s.stage (isArea (byteAt body 0)) fun c => { c with areas := setAt c.areas (byteAt body 0) (areaOf body) }

/-- CONFIG_AREA (R186). -/
def execConfigArea (s : State) : Host.Outcome State Fault Refusal := onRequest .configArea configAreaHandler s

/-- R186: the static fields of the CONFIG_POINTS item at offset `i`; with configured 0, those of an unconfigured point. -/
def pointOf (body : List Byte) (i : Nat) : PointStatic :=
  if byteAt body (i + 2) = 0 then PointStatic.initial
  else
    { configured := true, area := byteAt body (i + 3), priority := byteAt body (i + 4), group := byteAt body (i + 5)
      shelfLimit := field16 body (i + 6) }

/-- R186: the fields CONFIG_POINTS checks per item; with configured 0 the others are not read. -/
def pointOk (body : List Byte) (i : Nat) : Bool :=
  isPoint (field16 body i)
    && (byteAt body (i + 2) == 0
      || (byteAt body (i + 2) == 1 && byteAt body (i + 5) ≤ Config.nGroups && field16 body (i + 6) ≤ 1440))

/-- R186: one item of a CONFIG_POINTS request. -/
def Part.configPoint (s : Part) (body : List Byte) (i : Nat) : Part × List Byte :=
  s.stage (pointOk body i) fun c => { c with points := setAt c.points (field16 body i) (pointOf body i) }

/-- R186: a CONFIG_POINTS request, its items in order. -/
def configPointsHandler : Handler := fun body s =>
  let out := (itemOffsets 0 8 body.length).foldl
    (fun (acc : Part × List Byte) i => ((acc.1.configPoint body i).1, acc.2 ++ (acc.1.configPoint body i).2)) (s, [])
  (out.1, ResultCode.ok.byte :: out.2)

/-- CONFIG_POINTS (R186). -/
def execConfigPoints (s : State) : Host.Outcome State Fault Refusal := onRequest .configPoints configPointsHandler s

/-- R19, R186: a CONFIG_ROLE request. -/
def configRoleHandler : Handler := fun body s =>
  s.stage (within 1 Config.nRoles (byteAt body 0) && permBitsOk (word16 body 1))
    fun c => { c with roles := setAt c.roles (byteAt body 0) (word16 body 1) }

/-- CONFIG_ROLE (R19). -/
def execConfigRole (s : State) : Host.Outcome State Fault Refusal := onRequest .configRole configRoleHandler s

/-- R186: the fields CONFIG_CREDENTIAL checks in LOADING. -/
def stagedCredentialOk (body : List Byte) : Bool :=
  byteAt body 0 == 0 && within 1 Config.nCreds (byteAt body 1) && byteAt body 2 ≤ 1
    && permBitsOk (word16 body 8) && permBitsOk (word16 body 10)

/-- R186: a CONFIG_CREDENTIAL request in LOADING; status VACANT stages a VACANT slot. -/
def Part.stageCredential (s : Part) (body : List Byte) : Part × List Byte :=
  s.stage (stagedCredentialOk body) fun c =>
    { c with
      creds := setAt c.creds (byteAt body 1)
        (if byteAt body 2 = 0 then Credential.vacant else credentialOf body) }

/-- R34, R186: a CONFIG_CREDENTIAL request. -/
def configCredentialHandler : Handler := fun body s =>
  if s.phase = .running then s.runningEdit body else s.stageCredential body

/-- CONFIG_CREDENTIAL (R34). -/
def execConfigCredential (s : State) : Host.Outcome State Fault Refusal :=
  onRequest .configCredential configCredentialHandler s

/-- R186: the lamp at offset `i` of a CONFIG_DESK body: the source, then invert in bit 7 and the pattern in bits 1..0. -/
def lampOf (body : List Byte) (i : Nat) : LampCfg :=
  { source := byteAt body i, invert := 128 ≤ byteAt body (i + 1), pattern := LampPattern.ofCode (byteAt body (i + 1) % 4) }

/-- R186: what a lamp's two bytes may hold. -/
def lampOk (body : List Byte) (i : Nat) : Bool := byteAt body i ≤ 15 && byteAt body (i + 1) % 128 < 4

/-- R186: the desk fields of a CONFIG_DESK body. -/
def deskOf (body : List Byte) : DeskCfg :=
  { holdTime := field16 body 1, lamps := #v[lampOf body 3, lampOf body 5, lampOf body 7, lampOf body 9] }

/-- R186: a CONFIG_DESK request. -/
def configDeskHandler : Handler := fun body s =>
  s.stage (isDesk (byteAt body 0) && within 10 600 (field16 body 1) && [3, 5, 7, 9].all (lampOk body))
    fun c => { c with desks := setAt c.desks (byteAt body 0) (deskOf body) }

/-- CONFIG_DESK (R186). -/
def execConfigDesk (s : State) : Host.Outcome State Fault Refusal := onRequest .configDesk configDeskHandler s

/-! ### The commit (R157, R187, R188) -/

/-- R187, class 1: what fails a point. -/
def pointFails (x : PointStatic) : Bool := x.configured && !(isArea x.area && within 1 4 x.priority)

/-- R187, class 2: what fails an area. -/
def areaFails (x : AreaStatic) : Bool :=
  x.high == 0 || x.high ≤ x.low || 6 < x.fallback || !within 1 4 x.cutoff || !within 1 4 x.review
    || !within 1 16 x.releaseRate

/-- R187, class 3: what fails the badge of slot `k`. -/
def badgeFails (c : Cfg) (k : Nat) : Bool :=
  let x := getAt c.creds k
  x.valid && (x.badge == 0
    || (numbers (k - 1)).any fun j => (getAt c.creds j).valid && (getAt c.creds j).badge == x.badge)

/-- R187, class 4: what fails the role of slot `k`. -/
def roleFails (c : Cfg) (k : Nat) : Bool :=
  (getAt c.creds k).valid && !within 1 Config.nRoles (getAt c.creds k).role

/-- The number of the first record of a list that a test picks, counted from 1. -/
def firstFailing {α : Type} (f : α → Bool) (l : List α) : Option Nat := (l.findIdx? f).map (· + 1)

/-- R187: the class and index of the first failing item; none when the staged copy passes. -/
def Cfg.failing (c : Cfg) : Option (Nat × Nat) :=
  match firstFailing pointFails c.points.toList with
  | some p => some (1, p)
  | none =>
    match firstFailing areaFails c.areas.toList with
    | some a => some (2, a)
    | none =>
      match (numbers Config.nCreds).find? (badgeFails c) with
      | some k => some (3, k)
      | none =>
        match (numbers Config.nCreds).find? (roleFails c) with
        | some k => some (4, k)
        | none => if within 4 15 c.plant.jField then none else some (5, 0)

/-- R188, R190: a desk with nobody signed on, empty slots, rotation order 1..16, its horn OFF and its timers IDLE. The
pattern clock, the lamps in force and the debouncers are kept, and a press delivered before and not yet taken is discarded
(R118); the lamps are off until the next frame boundary (R130). -/
def Desk.cleared (x : Desk) : Desk :=
  { x with
    signedOn := 0, stack := [], slots := Vector.replicate 4 none, order := [], rotation := rotationInitial
    horn := .off, hornPattern := 0, lampsFollow := false, ackPresses := 0, silPresses := 0, hold := Timer.idle
    lampTest := Timer.idle }

/-- R127, R130: a frame boundary that was due before a commit or a restart adopts the lamps then live, and is no boundary
after it (log 4). -/
def Desk.settled (x : Desk) (live : DeskCfg) : Desk :=
  if x.boundaryDue then { x with boundaryDue := false, lamps := live.lamps } else x

/-- The frame boundaries due are settled at every desk. -/
def Part.settleBoundaries (s : Part) : Part := { s with desks := s.desks.zipWith Desk.settled s.live.desks }

/-- R188, R190: the dynamic state of points, areas, groups, shelf slots, sign-ons and desks returns to rest. With nobody
signed on and nobody responsible every area is UNATTENDED (R10). -/
def Part.restDynamic (s : Part) : Part :=
  { s with
    points := Vector.replicate 1024 (Point.resting s.now)
    areas := Vector.replicate 16 Area.resting
    groups := Vector.replicate 64 false
    shelf := Vector.replicate 96 none
    credDesk := Vector.replicate 64 0
    desks := s.desks.map Desk.cleared }

/-- R157: a change of J empties the journal, keeps the next sequence number and the mark, and re-arms the near-full report. -/
def Rst.resize (r : Rst) : Rst := { r with journal := [], unarchived := 0, nearFull := .armed }

/-- R188, step 1: the staged copy becomes the live copy, and a changed J takes effect by R157. -/
def Part.adoptStaged (s : Part) : Part :=
  let s1 := { s with live := s.staged }
  if s.staged.plant.jField = s.live.plant.jField then s1 else s1.modRst Rst.resize

/-- R184: the phase changes, and the PHASE record is written. -/
def Part.enterPhase (s : Part) (p : Phase) : Part :=
  { s with phase := p }.write false { kind := .phase, value := w16 p.code }

/-- R188: a commit whose checks pass. -/
def Part.commit (s : Part) : Part :=
  let s1 := { s.settleBoundaries.adoptStaged.restDynamic with sessions := Vector.replicate 4 Session.idle }
  let s2 := s1.resync .commit
  closeJournal s2 (s2.enterPhase .running)

/-- R187, R188: a CONFIG_COMMIT request. -/
def configCommitHandler : Handler := fun _ s =>
  match s.staged.failing with
  | some x => (s, ResultCode.commitFailed.byte :: byteOf x.1 :: be16 x.2)
  | none => (s.commit, result .ok)

/-- CONFIG_COMMIT (R188). -/
def execConfigCommit (s : State) : Host.Outcome State Fault Refusal := onRequest .configCommit configCommitHandler s

/-! ### CONFIG_BEGIN (R189, R190) -/

/-- R190: a configuration restart from desk `d`. -/
def Part.restart (s : Part) (d : Nat) : Part :=
  let c := (s.desk d).signedOn
  let s1 := ((s.abandonWhere abandonRestart 0 fun _ => true).settleBoundaries.restDynamic).emptyReports
  closeJournal s1 ((s1.write false { kind := .configRestart, desk := d, credential := c }).enterPhase .loading)

/-- R189: CONFIG_BEGIN in RUNNING. -/
def Part.beginRunning (s : Part) (d : Nat) : Part × List Byte :=
  match s.configureCheck d false with
  | some r => (s.refuse d 0 0 0 r, result r)
  | none => (s.restart d, result .ok)

/-- R189: CONFIG_BEGIN in BLANK. -/
def Part.beginBlank (s : Part) : Part := closeJournal s (s.enterPhase .loading)

/-- R189: a CONFIG_BEGIN request. -/
def configBeginHandler : Handler := fun body s =>
  match s.phase with
  | .blank => (s.beginBlank, result .ok)
  | .loading => (s, result .repeated)
  | .running => s.beginRunning (byteAt body 0)

/-- CONFIG_BEGIN (R189). -/
def execConfigBegin (s : State) : Host.Outcome State Fault Refusal := onRequest .configBegin configBeginHandler s

end Sys2Proof.Machine
end

