-- ==== Sys2Proof/Machine/DeskIf.lean ====
section
/-! DEFINITION. The Desk Interface: ACKNOWLEDGE_PRESS, SILENCE_PRESS, SILENCE, SILENCE_HOLD_EXPIRY, LAMP_TEST and
LAMP_TEST_EXPIRY (R118 to R123, R129). -/

namespace Sys2Proof.Machine

/-! ### The ACKNOWLEDGE press (R118 to R120) -/

/-- R106: slot `k` of desk `d` takes its point's current view number, and its silenced flag goes off. -/
def Part.refreshSlot (s : Part) (d k : Nat) : Part :=
  s.modDesk d fun x =>
    { x with slots := modAt x.slots k fun o => o.map fun y => { y with view := (s.point y.point).view, silenced := false } }

/-- R120: a press whose slot view is not the point's current view refreshes the slot. -/
def Part.stalePress (s : Part) (d k p : Nat) : Part :=
  closeEvent s []
    ((s.refreshSlot d k).write false
      { s.pointRecord .stalePress p with
        desk := d, credential := (s.desk d).signedOn, value := (s.point p).view })

/-- R119, R122: the BUTTON_IDLE record; the value is 1 for ACKNOWLEDGE and 2 for SILENCE (R180). -/
def Part.buttonIdle (s : Part) (d value : Nat) : Part :=
  closeEvent s []
    (s.write false { kind := .buttonIdle, desk := d, credential := (s.desk d).signedOn, value := w16 value })

/-- R119, R120: an ACKNOWLEDGE press in RUNNING. -/
def Part.acknowledgePress (s : Part) (d : Nat) : Part :=
  match s.mostUrgent d with
  | none => s.buttonIdle d 1
  | some k =>
    match getAt (s.desk d).slots k with
    | none => s.buttonIdle d 1
    | some x =>
      if !allows (s.topLayer d) Perm.ack.set (s.pointS x.point).area then s.refusePoint d x.point .denied
      else if x.view = (s.point x.point).view then s.acknowledge d x.point true
      else s.stalePress d k x.point

/-- R118: a press is acted upon in RUNNING and discarded in the other phases. -/
def Part.inRunning (s : Part) (f : Part → Part) : Part := if s.phase = .running then f s else s

/-- ACKNOWLEDGE_PRESS (R119): taken when a press is due at the desk. -/
def execAcknowledgePress (d : Nat) (s : State) : Host.Outcome State Fault Refusal :=
  onPart (fun p =>
    if isDesk d && 0 < (p.desk d).ackPresses then
      (p.modDesk d fun x => { x with ackPresses := x.ackPresses - 1 }).inRunning fun q => q.acknowledgePress d
    else p) s

/-! ### Silencing (R122, R123) -/

/-- Sets the silenced flag of every occupied slot of desk `d`. -/
def Part.setSilenced (s : Part) (d : Nat) (v : Bool) : Part :=
  s.modDesk d fun x => { x with slots := x.slots.map fun o => o.map fun y => { y with silenced := v } }

/-- R122: whether the desk's top layer passes SILENCE in an area presented at the desk. -/
def Part.maySilence (s : Part) (d : Nat) : Bool :=
  (s.deskAreas d).any fun a => allows (s.topLayer d) Perm.silence.set a

/-- The hold time of a desk, from the live configuration (R123). -/
def Part.holdTime (s : Part) (d : Nat) : Nat := (getAt s.live.desks d).holdTime

/-- R122: a silence that passes. -/
def Part.silenceDesk (s : Part) (d : Nat) : Part :=
  closeEvent s [deskEntry d]
    ((s.setSilenced d true).modDesk d fun x => { x with hold := Timer.load (s.holdTime d) })

/-- R122: the checks of a silence at a desk of the part; none when it passes. -/
def Part.silenceCheck (s : Part) (d : Nat) : Option ResultCode :=
  if (s.desk d).signedOn = 0 then some .notSignedOn
  else if (s.desk d).occupants.isEmpty then some .repeated
  else if !s.maySilence d then some .denied
  else none

/-- R122: a SILENCE request. -/
def silenceHandler : Handler := fun body s =>
  let d := byteAt body 0
  if !isDesk d then (s, result .badField)
  else
    match s.silenceCheck d with
    | some r => (s.refuse d 0 0 0 r, result r)
    | none => (s.silenceDesk d, ResultCode.ok.byte :: be16 (s.holdTime d))

/-- SILENCE (R122). -/
def execSilence (s : State) : Host.Outcome State Fault Refusal := onRequest .silence silenceHandler s

/-- R122: a SILENCE press in RUNNING, checked in the same order: a desk with nobody signed on and a desk without the
permission write a REFUSAL with DENIED, a desk without an occupied slot writes BUTTON_IDLE (log 12). -/
def Part.silencePress (s : Part) (d : Nat) : Part :=
  match s.silenceCheck d with
  | none => s.silenceDesk d
  | some .repeated => s.buttonIdle d 2
  | some _ => s.refuse d 0 0 0 .denied

/-- SILENCE_PRESS (R122): taken when a press is due at the desk. -/
def execSilencePress (d : Nat) (s : State) : Host.Outcome State Fault Refusal :=
  onPart (fun p =>
    if isDesk d && 0 < (p.desk d).silPresses then
      (p.modDesk d fun x => { x with silPresses := x.silPresses - 1 }).inRunning fun q => q.silencePress d
    else p) s

/-- R123: the silence hold of desk `d` has run out: with an occupant in UNACK every flag goes off. -/
def Part.holdExpires (s : Part) (d : Nat) : Part :=
  let s1 := s.modDesk d fun x => { x with hold := Timer.idle }
  if (s.desk d).occupants.any fun y => (s.point y.point).state == .unack then
    closeEvent s [deskEntry d] (s1.setSilenced d false)
  else s1

/-- SILENCE_HOLD_EXPIRY (R123): taken when the expiry is due. -/
def execSilenceHoldExpiry (d : Nat) (s : State) : Host.Outcome State Fault Refusal :=
  onPart (fun p => if isDesk d && (p.desk d).hold.due then p.holdExpires d else p) s

/-! ### Lamp test (R129) -/

/-- R129: the seconds applied. -/
def lampTestSeconds (n : Nat) : Nat := if n = 0 then 1 else min n 60

/-- R129: the lamp-test timer is loaded, and the DESK report of the start is queued (log 9). -/
def Part.startLampTest (s : Part) (d n : Nat) : Part :=
  closeEvent s [deskEntry d] (s.modDesk d fun x => { x with lampTest := Timer.load n })

/-- R129: a LAMP_TEST request. -/
def lampTestHandler : Handler := fun body s =>
  let d := byteAt body 0
  let n := lampTestSeconds (byteAt body 1)
  if !isDesk d then (s, result .badField) else (s.startLampTest d n, [ResultCode.ok.byte, byteOf n])

/-- LAMP_TEST (R129). -/
def execLampTest (s : State) : Host.Outcome State Fault Refusal := onRequest .lampTest lampTestHandler s

/-- R129: the end of a lamp test queues a DESK report. -/
def Part.lampTestExpires (s : Part) (d : Nat) : Part :=
  closeEvent s [deskEntry d] (s.modDesk d fun x => { x with lampTest := Timer.idle })

/-- LAMP_TEST_EXPIRY (R129): taken when the expiry is due. -/
def execLampTestExpiry (d : Nat) (s : State) : Host.Outcome State Fault Refusal :=
  onPart (fun p => if isDesk d && (p.desk d).lampTest.due then p.lampTestExpires d else p) s

end Sys2Proof.Machine
end

