-- ==== Sys2Proof/Machine/Flood.lean ====
section
/-! DEFINITION. Load and flood control: LOAD_MONITOR_TICK and RELEASE_DEFERRED (R80 to R94). -/

namespace Sys2Proof.Machine

/-! ### Moving deferred points (R86, R92) -/

/-- The most urgent priority whose deferred queue is not empty (R86). -/
def Area.deferredPriority (x : Area) : Option Nat := [1, 2, 3, 4].find? fun pr => !(getAt x.defer pr).isEmpty

/-- R86: the head of the most urgent non-empty deferred queue moves to the tail of its pending queue; none when the deferred
queues are empty. -/
def Part.releaseOne (s : Part) (a : Nat) : Option Part :=
  match (s.area a).deferredPriority with
  | none => none
  | some pr =>
    match getAt (s.area a).defer pr with
    | [] => none
    | p :: rest =>
      some ((s.modArea a fun x =>
        { x with
          defer := setAt x.defer pr rest
          pend := modAt x.pend pr (· ++ [p])
          counts := { x.counts with deferred := x.counts.deferred - 1 } }).modPoint p
        fun x => { x with placement := .queued })

/-- R86, R92: up to `n` points are released; the second result counts them. -/
def Part.releaseUpTo : Nat → Part → Nat → Part × Nat
  | 0, s, _ => (s, 0)
  | n + 1, s, a =>
    match s.releaseOne a with
    | none => (s, 0)
    | some t => let r := releaseUpTo n t a; (r.1, r.2 + 1)

/-- R87: whether the area is RELEASING with nothing deferred any more. -/
def Part.calmReached (s : Part) (a : Nat) : Bool := (s.area a).flood == .releasing && (s.area a).nothingDeferred

/-- R87: the area goes to CALM when it is RELEASING with nothing deferred. -/
def Part.calmNow (s : Part) (a : Nat) : Part :=
  if s.calmReached a then s.modArea a fun x => { x with flood := .calm } else s

/-! ### LOAD_MONITOR_TICK (R82, R83, R86) -/

/-- R82: the load index after one decay. -/
def decay (l : Nat) : Nat := l - (l + 15) / 16

/-- R83: whether the decayed load index ends the flood. -/
def Part.floodEnds (s : Part) (a : Nat) : Bool := (s.area a).flood == .flood && (s.area a).load ≤ (s.areaS a).low

/-- R83: the area leaves FLOOD for RELEASING or CALM, and FLOOD_EXIT is written. -/
def Part.exitFlood (s : Part) (a : Nat) : Part :=
  let calm := (s.area a).nothingDeferred
  ((s.modArea a fun x => { x with flood := if calm then .calm else .releasing }).bump a).write true
    { kind := .floodExit, area := a, value := w16 (s.area a).load, flags := flagIf (!calm) flagReleasing }

/-- R86: the paced release of a RELEASING area; `sig` says that the event was also a flood exit (R13). -/
def Part.pacedRelease (s : Part) (a : Nat) (sig : Bool) : Part :=
  let r := s.releaseUpTo (s.areaS a).releaseRate a
  if r.2 = 0 then s
  else
    ((r.1.calmNow a).write sig
      { kind := .release, area := a, value := w16 r.2, flags := flagIf (r.1.calmReached a) flagCalmReached }).fillAreaDesk a

/-- R82: the 1 s tick of area `a`: decay, then the flood-exit test, then the paced release. -/
def Part.loadTick (s : Part) (a : Nat) : Part :=
  let s1 := s.modArea a fun x => { x with load := decay x.load }
  let exits := s1.floodEnds a
  let s2 := if exits then s1.exitFlood a else s1
  let s3 := if (s2.area a).flood = .releasing then s2.pacedRelease a exits else s2
  closeEvent s [] (if exits then s3.notify a else s3)

/-- LOAD_MONITOR_TICK (R82): taken when a 1 s tick is due for the area. -/
def execLoadMonitorTick (a : Nat) (s : State) : Host.Outcome State Fault Refusal :=
  onPart (fun p =>
    if isArea a && 0 < getAt p.tset.loadDue a then
      ({ p with tset := { p.tset with loadDue := modAt p.tset.loadDue a (· - 1) } }).loadTick a
    else p) s

/-! ### RELEASE_DEFERRED (R91, R92) -/

/-- R91: its checks; none when it passes. -/
def Part.releaseCheck (s : Part) (d a : Nat) : Option ResultCode :=
  if !isDesk d || !isArea a then some .badField
  else if (s.desk d).signedOn = 0 then some .notSignedOn
  else if !allows (s.topLayer d) Perm.release.set a then some .denied
  else if (s.area a).pdesk ≠ d then some .notYourArea
  else if (s.area a).nothingDeferred then some .repeated
  else none

/-- The number of points an area's deferred queues hold. -/
def Area.deferredTotal (x : Area) : Nat := ([1, 2, 3, 4].map fun pr => (getAt x.defer pr).length).sum

/-- R92: every deferred point of the area is released. -/
def Part.forcedRelease (s : Part) (d a : Nat) : Part :=
  let r := s.releaseUpTo (s.area a).deferredTotal a
  closeEvent s []
    (((r.1.calmNow a).write false
      { kind := .release, area := a, desk := d, credential := (s.desk d).signedOn, value := w16 r.2
        flags := flagForced ||| flagIf (r.1.calmReached a) flagCalmReached }).fillAreaDesk a)

/-- R91: a RELEASE_DEFERRED request; the reply carries the number of points moved. -/
def releaseHandler : Handler := fun body s =>
  let d := byteAt body 0
  let a := byteAt body 1
  match s.releaseCheck d a with
  | some r => (s.refuse d a 0 0 r, result r)
  | none => (s.forcedRelease d a, ResultCode.ok.byte :: be16 (s.area a).deferredTotal)

/-- RELEASE_DEFERRED (R91). -/
def execReleaseDeferred (s : State) : Host.Outcome State Fault Refusal := onRequest .releaseDeferred releaseHandler s

end Sys2Proof.Machine
end

