-- ==== Sys2Proof/Machine/Handover.lean ====
section
/-! DEFINITION. Shift handover: OFFER, TAKE_UP, REVIEW_NEXT, REVIEW_DELTA, CONFIRM_AREA, ACCEPT, HAND_OFF, WITHDRAW and
SESSION_TIMER_EXPIRY (R132 to R151). -/

namespace Sys2Proof.Machine

/-! ### OFFER (R135, R136) -/

/-- Whether a list names an area twice. -/
def hasTwice : List Nat → Bool
  | [] => false
  | a :: rest => rest.contains a || hasTwice rest

/-- R135, check 3, in area `a`: GIVE at the desk's base layer, and the desk's credential is responsible. -/
def Part.mayGive (s : Part) (d a : Nat) : Bool :=
  allows (s.baseLayer d) Perm.give.set a && (s.area a).responsible == (s.desk d).signedOn

/-- R135, check 5, in area `a`: TAKE and ACK at the base layer of the incoming credential's desk. -/
def Part.mayTake (s : Part) (c a : Nat) : Bool := allows (s.baseLayer (getAt s.credDesk c)) permTakeAck a

/-- The lowest-numbered IDLE session (R136). -/
def Part.idleSession (s : Part) : Option Nat :=
  (numbers Config.nSessions).find? fun n => (s.session n).state == .idle

/-- R135: its checks; the incoming credential and the session number when they pass. A refusal comes with the area that its
REFUSAL record names (R151). An offer to the desk's own credential names area 0, also when that credential fails TAKE and ACK
in a listed area, which is the model's choice (log 38). -/
def Part.offerCheck (s : Part) (d badge : Nat) (l : List Nat) : Except (ResultCode × Nat) (Nat × Nat) :=
  if !isDesk d || l.any (fun a => !isArea a) || hasTwice l then .error (.badField, 0)
  else if (s.desk d).signedOn = 0 then .error (.notSignedOn, 0)
  else if l.any (fun a => !s.mayGive d a) then .error (.denied, lowestFailing l (s.mayGive d))
  else
    match s.findBadge badge with
    | none => .error (.unknownBadge, 0)
    | some c =>
      if getAt s.credDesk c = 0 then .error (.notSignedOn, 0)
      else if c = (s.desk d).signedOn then .error (.denied, 0)
      else if l.any (fun a => !s.mayTake c a) then .error (.denied, lowestFailing l (s.mayTake c))
      else if l.any (fun a => (s.area a).session != 0) then .error (.areaBusy, 0)
      else
        match s.idleSession with
        | none => .error (.busy, 0)
        | some n => .ok (c, n)

/-- The areas of a list, ascending (R136). -/
def ascending (l : List Nat) : List Nat := (numbers Config.nAreas).filter fun a => l.contains a

/-- R136: session `n` is created. -/
def Part.makeOffer (s : Part) (d c n : Nat) (l : List Nat) : Part :=
  let x : Session :=
    { state := .offered, outgoing := (s.desk d).signedOn, incoming := c, entries := (ascending l).map s.freshEntry
      accepted := false, handedOff := false, timer := Timer.load s.live.plant.offerTime, started := s.now }
  let s1 := (ascending l).foldl (fun t a => t.modArea a fun y => { y with session := n }) (s.modSession n fun _ => x)
  closeEvent s []
    ((ascending l).foldl (fun t a => t.write false
      { kind := .handoverOffer, area := a, desk := d, credential := c, value := w16 n }) s1)

/-- R135: an OFFER request. -/
def offerHandler : Handler := fun body s =>
  let d := byteAt body 0
  match s.offerCheck d (field32 body 1) (byteList body 5) with
  | .error r => (s.refuse d r.2 0 0 r.1, result r.1)
  | .ok cn => (s.makeOffer d cn.1 cn.2 (byteList body 5), [ResultCode.ok.byte, byteOf cn.2])

/-- OFFER (R135). -/
def execOffer (s : State) : Host.Outcome State Fault Refusal := onRequest .offer offerHandler s

/-! ### The common checks (R137) -/

/-- The two parties of a session. -/
inductive Party where
  | outgoing | incoming
  deriving DecidableEq, Repr

/-- The credential of a party. -/
def Session.party (x : Session) (q : Party) : Nat :=
  match q with
  | .outgoing => x.outgoing
  | .incoming => x.incoming

/-- R137, checks 1 to 4; none when they pass. -/
def Part.sessionCheck (s : Part) (d n : Nat) (q : Party) : Option ResultCode :=
  if !isDesk d then some .badField
  else if !(1 ≤ n && n ≤ Config.nSessions) then some .noSession
  else if (s.desk d).signedOn = 0 then some .notSignedOn
  else if (s.session n).state = .idle then some .noSession
  else if (s.desk d).signedOn ≠ (s.session n).party q then some .denied
  else none

/-- R137, all checks, for a request of the incoming party that names an area. -/
def Part.areaCheck (s : Part) (d n a : Nat) : Option ResultCode :=
  match s.sessionCheck d n .incoming with
  | some r => some r
  | none => if !isArea a || !(s.session n).areas.contains a then some .badField else none

/-! ### TAKE_UP (R138) -/

/-- R138: its checks; none when it passes. -/
def Part.takeUpCheck (s : Part) (d n : Nat) : Option ResultCode :=
  match s.sessionCheck d n .incoming with
  | some r => some r
  | none => if (s.session n).state = .offered then none else some .repeated

/-- R138: the session goes to REVIEWING. -/
def Part.takeUp (s : Part) (d n : Nat) : Part :=
  closeEvent s []
    ((s.modSession n fun x => { x with state := .reviewing, timer := Timer.load s.live.plant.reviewTime }).write false
      { kind := .handoverTakeup, desk := d, credential := (s.session n).incoming, value := w16 n })

/-- R138: a TAKE_UP request. -/
def takeUpHandler : Handler := fun body s =>
  let d := byteAt body 0
  let n := byteAt body 1
  match s.takeUpCheck d n with
  | some r => (s.refuse d 0 0 0 r, result r)
  | none => (s.takeUp d n, ResultCode.ok.byte :: be16 s.live.plant.reviewTime)

/-- TAKE_UP (R138). -/
def execTakeUp (s : State) : Host.Outcome State Fault Refusal := onRequest .takeUp takeUpHandler s

/-! ### REVIEW_NEXT (R139, R140) -/

/-- The standing entries a reply holds at most (R139). -/
def sweepMax : Nat := 16

/-- R139: examines points in order, taking at most `n` standing ones: the standing points, and the points not examined. -/
def Part.sweepPoints (s : Part) : Nat → List Nat → List Nat × List Nat
  | 0, l => ([], l)
  | _ + 1, [] => ([], [])
  | n + 1, p :: rest =>
    if (s.point p).state = .normal then s.sweepPoints (n + 1) rest
    else let r := s.sweepPoints n rest; (p :: r.1, r.2)

/-- R139: an entry in NOT_STARTED takes its snapshot and goes to SWEEPING. -/
def Part.startSweep (s : Part) (e : ReviewEntry) : ReviewEntry :=
  if e.sweep = .notStarted then
    { e with
      sweep := .sweeping, snapGen := (s.area e.area).generation, snapSeq := s.rst.nextSeq, deltaCursor := s.rst.nextSeq }
  else e

/-- The configured points of area `a` from a cursor on. -/
def Part.pointsFrom (s : Part) (a cursor : Nat) : List Nat := (s.areaPoints a).filter fun p => cursor ≤ p

/-- R139: the cursor after points were examined: one past the last examined one. -/
def cursorAfter (cursor : Nat) (standing : List Nat) : Nat := (standing.getLast?.map (· + 1)).getD cursor

/-- R139, R140: the entry after a REVIEW_NEXT, and the standing points of the reply. With 16 standing points taken the cursor
stands one past the last of them, unless nothing is left to examine, when the sweep ends. -/
def Part.sweepEntry (s : Part) (e : ReviewEntry) : ReviewEntry × List Nat :=
  let e1 := s.startSweep e
  let r := s.sweepPoints sweepMax (s.pointsFrom e.area e1.cursor)
  if r.2.isEmpty then ({ e1 with cursor := 1025, sweep := .swept }, r.1)
  else ({ e1 with cursor := cursorAfter e1.cursor r.1 }, r.1)

/-- R139: its checks; none when it passes. -/
def Part.reviewNextCheck (s : Part) (d n a : Nat) : Option ResultCode :=
  match s.areaCheck d n a with
  | some r => some r
  | none =>
    if (s.session n).state ≠ .reviewing then some .wrongState
    else if ((s.session n).entry a).sweep = .swept ∨ ((s.session n).entry a).sweep = .confirmed then some .wrongState
    else none

/-- R139: one request of the sweep of area `a` in session `n`. -/
def Part.reviewNext (s : Part) (n a : Nat) : Part :=
  closeEvent s [] (s.modSession n fun x => x.modEntry a fun e => (s.sweepEntry e).1)

/-- R139, R140: a REVIEW_NEXT request; the snapshot generation stands in every reply (log 13). -/
def reviewNextHandler : Handler := fun body s =>
  let d := byteAt body 0
  let n := byteAt body 1
  let a := byteAt body 2
  match s.reviewNextCheck d n a with
  | some r => (s.refuse d 0 0 0 r, result r)
  | none =>
    let r := s.sweepEntry ((s.session n).entry a)
    (s.reviewNext n a, ResultCode.ok.byte :: flagByte (r.1.sweep == .swept) :: byteOf r.2.length :: be16 r.1.cursor
      ++ be16 r.1.snapGen.toNat ++ r.2.flatMap s.standingBytes)

/-- REVIEW_NEXT (R139). -/
def execReviewNext (s : State) : Host.Outcome State Fault Refusal := onRequest .reviewNext reviewNextHandler s

/-! ### REVIEW_DELTA (R142, R143) -/

/-- The records a reply holds at most (R142, R158). -/
def recordsMax : Nat := 11

/-- R142: whether a record belongs to the delta of area `a`. -/
def JournalRecord.significantIn (x : JournalRecord) (a : Nat) : Bool :=
  x.flags &&& flagSignificant != 0 && x.area == a

/-- R142: reads records in order, taking at most `n` of the area: those taken, and those not read. -/
def deltaRead (a : Nat) : Nat → List JournalRecord → List JournalRecord × List JournalRecord
  | 0, l => ([], l)
  | _ + 1, [] => ([], [])
  | n + 1, x :: rest =>
    if x.significantIn a then let r := deltaRead a n rest; (x :: r.1, r.2) else deltaRead a (n + 1) rest

/-- The retained records from a sequence number on (R156). -/
def Rst.recordsFrom (r : Rst) (q : W32) : List JournalRecord := r.journal.drop (r.journal.length - r.age q)

/-- R143, R156: whether the oldest retained sequence number is above the cursor. -/
def Rst.isGap (r : Rst) (q : W32) : Bool := r.journal.length < r.age q

/-- R142: its checks, up to the GAP test; none when they pass. -/
def Part.reviewDeltaCheck (s : Part) (d n a : Nat) : Option ResultCode :=
  match s.areaCheck d n a with
  | some r => some r
  | none =>
    if (s.session n).state ≠ .reviewing then some .wrongState
    else if ((s.session n).entry a).sweep ≠ .swept then some .wrongState
    else none

/-- R142: the entry after a delta read that left `unread` records. -/
def Part.deltaEntry (s : Part) (e : ReviewEntry) : ReviewEntry × List JournalRecord :=
  let r := deltaRead e.area recordsMax (s.rst.recordsFrom e.deltaCursor)
  if r.2.isEmpty then
    ({ e with
        deltaCursor := s.rst.nextSeq, snapGen := (s.area e.area).generation, snapSeq := s.rst.nextSeq }, r.1)
  else ({ e with deltaCursor := s.rst.nextSeq - BitVec.ofNat 32 r.2.length }, r.1)

/-- R142, R143: a delta read of area `a` in session `n`, or the return of the entry to NOT_STARTED. -/
def Part.reviewDelta (s : Part) (n a : Nat) : Part :=
  closeEvent s []
    (s.modSession n fun x => x.modEntry a fun e =>
      if s.rst.isGap e.deltaCursor then s.freshEntry a else (s.deltaEntry e).1)

/-- R142, R143: a REVIEW_DELTA request. -/
def reviewDeltaHandler : Handler := fun body s =>
  let d := byteAt body 0
  let n := byteAt body 1
  let a := byteAt body 2
  match s.reviewDeltaCheck d n a with
  | some r => (s.refuse d 0 0 0 r, result r)
  | none =>
    let e := (s.session n).entry a
    if s.rst.isGap e.deltaCursor then (s.reviewDelta n a, result .gap)
    else
      let r := s.deltaEntry e
      (s.reviewDelta n a, ResultCode.ok.byte :: flagByte (r.1.deltaCursor == s.rst.nextSeq) :: byteOf r.2.length
        :: be16 r.1.snapGen.toNat ++ r.2.flatMap recordBytes)

/-- REVIEW_DELTA (R142). -/
def execReviewDelta (s : State) : Host.Outcome State Fault Refusal := onRequest .reviewDelta reviewDeltaHandler s

/-! ### CONFIRM_AREA (R141) -/

/-- R141: its checks; none when it passes. -/
def Part.confirmCheck (s : Part) (d n a : Nat) (g : W16) : Option ResultCode :=
  match s.areaCheck d n a with
  | some r => some r
  | none =>
    if (s.session n).state ≠ .reviewing then some .wrongState
    else if ((s.session n).entry a).sweep ≠ .swept then some .wrongState
    else if g ≠ ((s.session n).entry a).snapGen then some .badField
    else if ((s.session n).entry a).snapGen ≠ (s.area a).generation then some .staleReview
    else none

/-- R141: the session goes to READY, with both flags off, when every entry is CONFIRMED. -/
def Session.readyIfAll (x : Session) : Session :=
  if x.entries.all (·.sweep == .confirmed) then { x with state := .ready, accepted := false, handedOff := false } else x

/-- R141: the entry of area `a` is confirmed at generation `g`. -/
def Part.confirmArea (s : Part) (d n a : Nat) (g : W16) : Part :=
  closeEvent s []
    ((s.modSession n fun x => (x.modEntry a fun e => { e with sweep := .confirmed, confGen := g }).readyIfAll).write
      false
      { kind := .handoverConfirm, area := a, desk := d, credential := (s.session n).incoming, value := w16 n })

/-- R141: a CONFIRM_AREA request; STALE_REVIEW carries the current generation. -/
def confirmAreaHandler : Handler := fun body s =>
  let d := byteAt body 0
  let n := byteAt body 1
  let a := byteAt body 2
  match s.confirmCheck d n a (word16 body 3) with
  | some .staleReview => (s, ResultCode.staleReview.byte :: be16 (s.area a).generation.toNat)
  | some r => (s.refuse d 0 0 0 r, result r)
  | none => (s.confirmArea d n a (word16 body 3), result .ok)

/-- CONFIRM_AREA (R141). -/
def execConfirmArea (s : State) : Host.Outcome State Fault Refusal := onRequest .confirmArea confirmAreaHandler s

/-! ### ACCEPT, HAND_OFF and completion (R146, R147) -/

/-- The other party. -/
def Party.other : Party → Party
  | .outgoing => .incoming
  | .incoming => .outgoing

/-- A party's flag: accepted for the incoming party, handed-off for the outgoing one. -/
def Session.flag (x : Session) (q : Party) : Bool :=
  match q with
  | .outgoing => x.handedOff
  | .incoming => x.accepted

/-- A party's flag set on. -/
def Session.setFlag (x : Session) (q : Party) : Session :=
  match q with
  | .outgoing => { x with handedOff := true }
  | .incoming => { x with accepted := true }

/-- R146: what a party's test requires: TAKE and ACK of the incoming party, GIVE of the outgoing one. -/
def Party.needs : Party → PermSet
  | .outgoing => Perm.give.set
  | .incoming => permTakeAck

/-- R146: a party's test in area `a`, at the base layer of the desk at which it is signed on. -/
def Part.partyPasses (s : Part) (n : Nat) (q : Party) (a : Nat) : Bool :=
  allows (s.baseLayer (getAt s.credDesk ((s.session n).party q))) q.needs a

/-- R146: the tests of a request of party `q`: its own, and the other's when it would complete. A failure comes with the area
its REFUSAL record names (log 25). -/
def Part.completionTests (s : Part) (n : Nat) (q : Party) : Option Nat :=
  let l := (s.session n).areas
  if l.any fun a => !s.partyPasses n q a then some (lowestFailing l (s.partyPasses n q))
  else if (s.session n).flag q.other && l.any fun a => !s.partyPasses n q.other a then
    some (lowestFailing l (s.partyPasses n q.other))
  else none

/-- R146: all checks; none when the request passes. -/
def Part.readyCheck (s : Part) (d n : Nat) (q : Party) : Option (ResultCode × Nat) :=
  match s.sessionCheck d n q with
  | some r => some (r, 0)
  | none =>
    if (s.session n).state ≠ .ready then some (.notReady, 0)
    else if (s.session n).flag q then some (.repeated, 0)
    else (s.completionTests n q).map fun a => (.denied, a)

/-- R147, step 2: area `a` passes to credential `c`. -/
def Part.transferArea (s : Part) (d n c a : Nat) : Part :=
  ((s.modArea a fun x => { x with responsible := c }).bump a).write true
    { kind := .handoverDone, area := a, desk := d, credential := c, value := w16 n }

/-- R147: the completion of session `n` by the request of desk `d`. -/
def Part.complete (s : Part) (d n : Nat) : Part :=
  let x := s.session n
  let s1 := (s.modSession n fun y => { y with timer := Timer.idle }).clearSessionField x.areas
  let s2 := x.areas.foldl (fun t a => t.transferArea d n x.incoming a) s1
  s2.recompute.modSession n fun _ => Session.idle

/-- R146: a request of party `q` that passes its checks. -/
def Part.partyReady (s : Part) (d n : Nat) (q : Party) : Part :=
  closeEvent s []
    (if (s.session n).flag q.other then s.complete d n else s.modSession n fun x => x.setFlag q)

/-- R146: ACCEPT and HAND_OFF, each of its party. -/
def Part.readyRequest (q : Party) : Handler := fun body s =>
  let d := byteAt body 0
  let n := byteAt body 1
  match s.readyCheck d n q with
  | some r => (s.refuse d r.2 0 0 r.1, result r.1)
  | none => (s.partyReady d n q, [ResultCode.ok.byte, flagByte ((s.session n).flag q.other)])

/-- ACCEPT (R146). -/
def execAccept (s : State) : Host.Outcome State Fault Refusal := onRequest .accept (Part.readyRequest .incoming) s

/-- HAND_OFF (R146). -/
def execHandOff (s : State) : Host.Outcome State Fault Refusal := onRequest .handOff (Part.readyRequest .outgoing) s

/-! ### WITHDRAW and the expiry of a session (R148, R149) -/

/-- R148: a withdrawal of session `n` from desk `d`. -/
def Part.withdrawSession (s : Part) (d n : Nat) : Part := closeEvent s [] (s.abandon n abandonWithdrawn d)

/-- R148: a WITHDRAW request. -/
def withdrawHandler : Handler := fun body s =>
  let d := byteAt body 0
  let n := byteAt body 1
  match s.sessionCheck d n .outgoing with
  | some r => (s.refuse d 0 0 0 r, result r)
  | none => (s.withdrawSession d n, result .ok)

/-- WITHDRAW (R148). -/
def execWithdraw (s : State) : Host.Outcome State Fault Refusal := onRequest .withdraw withdrawHandler s

/-- R148: the reason of a session's expiry. -/
def expiryReason (st : SessionState) : Nat := if st = .offered then abandonOfferExpired else abandonReviewExpired

/-- R148: the timer of session `n` has run out. -/
def Part.sessionExpires (s : Part) (n : Nat) : Part :=
  closeEvent s [] (s.abandon n (expiryReason (s.session n).state) 0)

/-- SESSION_TIMER_EXPIRY (R148): taken when the expiry is due. -/
def execSessionTimerExpiry (n : Nat) (s : State) : Host.Outcome State Fault Refusal :=
  onPart (fun p => if (p.session n).state != .idle && (p.session n).timer.due then p.sessionExpires n else p) s

end Sys2Proof.Machine
end

