-- ==== Sys2Proof/Machine/Journal.lean ====
section
/-! DEFINITION. The Record Store's requests and the plant clock's: JOURNAL_READ, JOURNAL_MARK, REPORT_ENABLE, REPORT_DISABLE
and SET_TIME (R66, R156, R158 to R160, R162, R165). -/

namespace Sys2Proof.Machine

/-! ### JOURNAL_READ (R158) -/

/-- R158: the GAP flag and the records of a read of `count` records from `q`, classed by the age of `q` (R156). -/
def Rst.readFrom (r : Rst) (q : W32) (count : Nat) : Bool × List JournalRecord :=
  if r.age q = 0 ∨ 2147483648 < r.age q then (false, [])
  else if r.journal.length < r.age q then (true, r.journal.take count)
  else (false, (r.journal.drop (r.journal.length - r.age q)).take count)

/-- R158: a JOURNAL_READ request. -/
def journalReadHandler : Handler := fun body s =>
  let count := byteAt body 4
  if count = 0 ∨ 11 < count then (s, result .badField)
  else
    let r := s.rst.readFrom (word32 body 0) count
    (s, ResultCode.ok.byte :: flagByte r.1 :: byteOf r.2.length :: be32 s.rst.oldest.toNat ++ be32 s.rst.nextSeq.toNat
      ++ r.2.flatMap recordBytes)

/-- JOURNAL_READ (R158). -/
def execJournalRead (s : State) : Host.Outcome State Fault Refusal := onRequest .journalRead journalReadHandler s

/-! ### JOURNAL_MARK (R159, R160) -/

/-- R159: the value the mark takes for `q`: an `q` at or beyond the next sequence number is clamped to the newest record. -/
def Rst.clampMark (r : Rst) (q : W32) : W32 := if r.age q = 0 ∨ 2147483648 < r.age q then r.nextSeq - 1 else q

/-- R159: whether `q` is newer than the mark by the ages of R156, one beyond the next sequence number being newest of all
(log 14), and a mark whose age lies above 2147483648 being older than everything. -/
def Rst.newerThanMark (r : Rst) (q : W32) : Bool :=
  2147483648 < r.age r.mark || 2147483648 < r.age q || r.age q < r.age r.mark

/-- R160: the number of retained records newer than a mark. -/
def Rst.newerCount (r : Rst) (mark : W32) : Nat := min r.journal.length (r.age mark - 1)

/-- R159, R160: the mark moves to `q`; the count falls, and below J − J/4 the near-full state is ARMED again. -/
def Rst.moveMark (size : Nat) (r : Rst) (q : W32) : Rst :=
  let mark := r.clampMark q
  let c := r.newerCount mark
  { r with mark := mark, unarchived := c, nearFull := if c < size - size / 4 then .armed else r.nearFull }

/-- R159: a JOURNAL_MARK request. -/
def journalMarkHandler : Handler := fun body s =>
  let q := word32 body 0
  if s.rst.newerThanMark q then
    let t := s.modRst fun r => r.moveMark s.journalSize q
    (t, ResultCode.ok.byte :: be32 t.rst.mark.toNat)
  else (s, ResultCode.repeated.byte :: be32 s.rst.mark.toNat)

/-- JOURNAL_MARK (R159). -/
def execJournalMark (s : State) : Host.Outcome State Fault Refusal := onRequest .journalMark journalMarkHandler s

/-! ### REPORT_ENABLE and REPORT_DISABLE (R165) -/

/-- Whether a number is a report kind of R178. -/
def isReportKind (k : Nat) : Bool := 1 ≤ k && k ≤ 8

/-- R165: each named kind of the first six takes the setting. -/
def Rst.setEnabled (r : Rst) (l : List Nat) (v : Bool) : Rst :=
  { r with enabled := l.foldl (fun e k => if k ≤ 6 then setAt e k v else e) r.enabled }

/-- R165: whether every named kind already holds the setting; OVERFLOW and RESYNC are always enabled (R162). -/
def Rst.allHold (r : Rst) (l : List Nat) (v : Bool) : Bool :=
  l.all fun k => if k ≤ 6 then getAt r.enabled k == v else v

/-- R165: a REPORT_ENABLE request. -/
def reportEnableHandler : Handler := fun body s =>
  let l := byteList body 0
  if l.any fun k => !isReportKind k then (s, result .badField)
  else if s.rst.allHold l true then (s, result .repeated)
  else (s.modRst fun r => r.setEnabled l true, result .ok)

/-- REPORT_ENABLE (R165). -/
def execReportEnable (s : State) : Host.Outcome State Fault Refusal := onRequest .reportEnable reportEnableHandler s

/-- R165, R174: the named kinds are disabled, their entries leave the queue, and a disabled SESSION discards the
continuation. -/
def Part.disableReports (s : Part) (l : List Nat) : Part :=
  let s1 := s.modRst fun r =>
    { r.setEnabled l false with reports := r.reports.filter fun e => !l.contains e.kind.code }
  if l.contains ReportKind.session.code then s1.modLif fun x => { x with continuation := none } else s1

/-- R165: a REPORT_DISABLE request. -/
def reportDisableHandler : Handler := fun body s =>
  let l := byteList body 0
  if l.any fun k => !isReportKind k || 6 < k then (s, result .badField)
  else (s.disableReports l, result (if s.rst.allHold l false then .repeated else .ok))

/-- REPORT_DISABLE (R165). -/
def execReportDisable (s : State) : Host.Outcome State Fault Refusal := onRequest .reportDisable reportDisableHandler s

/-! ### SET_TIME (R66) -/

/-- R66: a SET_TIME request; the reply carries the plant clock as it stood. -/
def setTimeHandler : Handler := fun body s =>
  ({ s with tset := { s.tset with clock := word32 body 0 } }, ResultCode.ok.byte :: be32 s.now.toNat)

/-- SET_TIME (R66). -/
def execSetTime (s : State) : Host.Outcome State Fault Refusal := onRequest .setTime setTimeHandler s

end Sys2Proof.Machine
end

