-- ==== Sys2Proof/Machine/Timing.lean ====
section
/-! DEFINITION. Reset and time: POWER_ON, RESET_FALLS, TICK, ONE_SECOND_TICK, FRAME_BOUNDARY (R64, R65, R67, R117, R124,
R126, R127, R170, R174 to R176, R191). -/

namespace Sys2Proof.Machine

/-! ### Reset (R191) -/

/-- R191: RESET# is low. Every state is lost; the model holds the power-on values meanwhile (log 6). -/
def Part.heldInReset : Part := { Part.powerOn false false with resetLow := true }

/-- POWER_ON (R191): RESET# is released and the straps are sampled (R167). -/
def execPowerOn (baud1 baud0 : Bool) (s : State) : Host.Outcome State Fault Refusal :=
  .next { s with part := Part.powerOn baud1 baud0 }

/-- RESET_FALLS (R191). -/
def execResetFalls (s : State) : Host.Outcome State Fault Refusal := .next { s with part := Part.heldInReset }

/-! ### The 10 ms tick (R64) -/

/-- R117: one sample of a debouncer; the second result says that a press is delivered. -/
def Debouncer.sample (b : Debouncer) (low : Bool) : Debouncer × Bool :=
  if low = b.pressed then ({ b with run := 0 }, false)
  else if b.run ≠ 0 ∧ low = b.candidate then
    if b.run = 2 then ({ b with pressed := low, run := 0 }, low) else ({ b with run := b.run + 1 }, false)
  else ({ b with run := 1, candidate := low }, false)

/-- One more when an event is raised. -/
def countUp (n : Nat) (raised : Bool) : Nat := if raised then n + 1 else n

/-- R117, R118, R124: a desk takes a tick: its two debouncers sample and its pattern clock advances. A press is delivered in
RUNNING; in BLANK and LOADING it is discarded as it is delivered. -/
def Desk.tick (x : Desk) (running ackLow silLow : Bool) : Desk :=
  let a := x.ackButton.sample ackLow
  let b := x.silButton.sample silLow
  let phase := if x.phase + 1 < Config.framePhases then x.phase + 1 else 0
  { x with
    ackButton := a.1
    silButton := b.1
    ackPresses := countUp x.ackPresses (running && a.2)
    silPresses := countUp x.silPresses (running && b.2)
    phase := phase
    boundaryDue := x.boundaryDue || phase == 0 }

/-- R170: the gap count of a partial frame, which stands at 3 once the gap has expired. -/
def Assembler.tick (x : Assembler) : Assembler :=
  if x.state = .hunting then x else { x with gap := min 3 (x.gap + 1) }

/-- R176: the next tick, with RXD low or high through it, is the one at which the break count reaches 10. -/
def Lif.breaks (l : Lif) (rxdLow : Bool) : Bool := rxdLow && l.breakCount == 9 && !l.tickTaken

/-- R170, R174, R176: the Link Interface takes a tick: the pacer falls, the gap and break counts rise. A tick that LINK_RESET has
taken for it passes it by (log 44). -/
def Lif.tick (l : Lif) (rxdLow : Bool) : Lif :=
  if l.tickTaken then { l with tickTaken := false }
  else
    { l with
      asm := l.asm.tick
      pacer := l.pacer - 1
      breakCount := if rxdLow then min 10 (l.breakCount + 1) else 0 }

/-- R64: the tick count; at every hundredth tick the 1 s tick is raised for TSET and LIF and for each area of LMON. -/
def Tset.tick (t : Tset) : Tset :=
  if t.tickCount + 1 < 100 then { t with tickCount := t.tickCount + 1 }
  else { t with tickCount := 0, secondsDue := t.secondsDue + 1, loadDue := t.loadDue.map (· + 1) }

/-- The 10 ms tick, in every block that counts it (R64); at the tick at which the break count reaches 10 the link reset is taken
in the same event (R176). -/
def Part.tick (s : Part) (pins : TickPins) : Part :=
  let ticked : Part :=
    { s with
      tset := s.tset.tick
      desks := s.desks.mapIdx fun i x => x.tick (s.phase == .running) (pins.ackLow.getLsbD i) (pins.silLow.getLsbD i)
      lif := s.lif.tick pins.rxdLow }
  if s.lif.breaks pins.rxdLow then ticked.linkReset else ticked

/-- TICK (R64). -/
def execTick (pins : TickPins) (s : State) : Host.Outcome State Fault Refusal := onPart (fun p => p.tick pins) s

/-! ### The 1 s tick (R64, R65, R67, R175) -/

/-- R67: the timer of an elevation layer takes a 1 s tick; the base layer has none. -/
def Layer.tick (l : Layer) : Layer := { l with elev := l.elev.map fun e => { e with timer := e.timer.tick } }

/-- R67: a desk's timers take a 1 s tick. -/
def Desk.second (x : Desk) : Desk :=
  { x with stack := x.stack.map Layer.tick, hold := x.hold.tick, lampTest := x.lampTest.tick }

/-- R65, R67, R175: the plant clock, every running timer, and the seconds spent QUIET. -/
def Part.second (s : Part) : Part :=
  { s with
    tset := { s.tset with clock := s.tset.clock + 1, secondsDue := s.tset.secondsDue - 1 }
    shelf := s.shelf.map fun k => k.map fun u => { u with timer := u.timer.tick }
    desks := s.desks.map Desk.second
    sessions := s.sessions.map fun x => { x with timer := x.timer.tick }
    lif :=
      { s.lif with
        quietTimer := s.lif.quietTimer.tick
        quietSeconds := if s.lif.link = .quiet then min 65535 (s.lif.quietSeconds + 1) else s.lif.quietSeconds } }

/-- ONE_SECOND_TICK (R64): taken when one is due. -/
def execOneSecondTick (s : State) : Host.Outcome State Fault Refusal :=
  onPart (fun p => if p.tset.secondsDue = 0 then p else p.second) s

/-! ### The frame boundary of a desk (R126, R127, R130) -/

/-- R126, R127, R130: the sounding horn adopts its wanted pattern and the lamps adopt their live configuration. -/
def Part.frameBoundary (s : Part) (d : Nat) : Part :=
  closeEvent s [] (s.modDesk d fun x =>
    { x with
      boundaryDue := false
      lamps := (getAt s.live.desks d).lamps
      lampsFollow := s.phase == .running
      hornPattern := if x.horn = .sounding then s.wantedPattern d else x.hornPattern })

/-- FRAME_BOUNDARY (R126): taken when one is due at the desk. -/
def execFrameBoundary (d : Nat) (s : State) : Host.Outcome State Fault Refusal :=
  onPart (fun p => if isDesk d && (p.desk d).boundaryDue then p.frameBoundary d else p) s

end Sys2Proof.Machine
end

