-- ==== Sys2Proof/Machine/Link.lean ====
section
/-! DEFINITION. The Link Interface: RECEIVE_BYTE, GAP_EXPIRY, LINK_RESET, UNKNOWN_KIND, SEND_REPLY, SEND_REPORT_FRAME,
TRANSMITTER_FREE and HOST_QUIET_EXPIRY (R167 to R176). -/

namespace Sys2Proof.Machine

/-! ### Receiving (R170, R171, R175) -/

/-- R170: a discard or an abandonment is counted, saturating at 65535, and the assembler hunts. -/
def Lif.badFrame (l : Lif) : Lif := { l with asm := Assembler.hunting, badFrames := min 65535 (l.badFrames + 1) }

/-- R175: a good frame reloads the quiet timer; in QUIET it makes the link ACTIVE and writes LINK_ACTIVE. -/
def Part.hostActivity (s : Part) : Part :=
  let s1 := s.modLif fun l => { l with link := .active, quietTimer := Timer.load s.live.plant.quietTime }
  if s.lif.link = .quiet then s1.write false { kind := .linkActive, value := w16 s.lif.quietSeconds } else s1

/-- R171: a good frame joins the input queue, or the busy list when the queue is full, or is discarded and counted. -/
def Lif.offer (l : Lif) (f : Frame) : Lif :=
  if l.inputQueue.length < Config.queueFrames then { l with inputQueue := l.inputQueue ++ [f] }
  else if l.busyList.length < Config.queueFrames then
    { l with busyList := l.busyList ++ [{ tag := f.tag, kind := f.kind }] }
  else { l with badFrames := min 65535 (l.badFrames + 1) }

/-- R171: the event of a good frame: activity first, then the offer to the input queue. -/
def Part.goodFrame (s : Part) (f : Frame) : Part := closeEvent s [] (s.hostActivity.modLif fun l => l.offer f)

/-- R170: the check of a whole frame: `inner` is TAG, KIND and BODY, `crc` the two bytes received. -/
def Part.checkFrame (s : Part) (len : Byte) (inner crc : List Byte) : Part :=
  match inner with
  | tag :: kind :: body =>
    if crc = be16 (crc16 (len :: inner)).toNat ∧ tag ≠ 0 then
      (s.modLif fun l => { l with asm := Assembler.hunting }).goodFrame { tag := tag, kind := kind, body := body }
    else s.modLif Lif.badFrame
  | _ => s.modLif Lif.badFrame

/-- R170: the receive assembler takes a byte. -/
def Part.receive (s : Part) (b : Byte) (stopLow : Bool) : Part :=
  let a := s.lif.asm
  let set := fun (x : Assembler) => s.modLif fun l => { l with asm := x }
  match a.state with
  | .hunting => if !stopLow && b == 0xA5 then set { Assembler.hunting with state := .length } else s
  | .length =>
    if stopLow then s.modLif Lif.badFrame
    else if 2 ≤ b.toNat ∧ b.toNat ≤ 242 then set { Assembler.hunting with state := .collecting, len := b }
    else s.modLif Lif.badFrame
  | .collecting =>
    if stopLow then s.modLif Lif.badFrame
    else
      let buf := a.buf ++ [b]
      set { a with buf := buf, gap := 0, state := if buf.length < a.len.toNat then .collecting else .checking }
  | .checking =>
    if stopLow then s.modLif Lif.badFrame
    else if a.crc.isEmpty then set { a with crc := [b], gap := 0 }
    else s.checkFrame a.len a.buf (a.crc ++ [b])

/-- RECEIVE_BYTE (R170). -/
def execReceiveByte (b : Byte) (stopLow : Bool) (s : State) : Host.Outcome State Fault Refusal :=
  onPart (fun p => p.receive b stopLow) s

/-- Whether the gap of a partial frame has expired (R170). -/
def Lif.gapExpired (l : Lif) : Bool := l.asm.state != .hunting && 3 ≤ l.asm.gap

/-- GAP_EXPIRY (R170): taken when the gap count stands at 3. -/
def execGapExpiry (s : State) : Host.Outcome State Fault Refusal :=
  onPart (fun p => if p.lif.gapExpired then p.modLif Lif.badFrame else p) s

/-! ### The link reset (R176) -/

/-- LINK_RESET (R176): the Link Interface takes its share of a tick that finds RXD low and brings the break count to 10, ahead
of the other blocks (R64). The TICK that follows is then that of the other blocks alone (log 44). -/
def execLinkReset (s : State) : Host.Outcome State Fault Refusal :=
  onPart (fun p =>
    if p.lif.breaks true then p.linkReset.modLif fun l => { l with breakCount := 10, tickTaken := true } else p) s

/-! ### A kind outside the catalogue (R172) -/

/-- R172, check 1: the oldest frame, of a kind outside the catalogue, is taken and answered UNKNOWN_KIND. -/
def Part.serveUnknown (s : Part) : Part :=
  match s.lif.replySlot, s.lif.inputQueue with
  | none, f :: rest =>
    if inCatalogue f.kind then s
    else (s.modLif fun l => { l with inputQueue := rest }).reply f.tag f.kind (result .unknownKind)
  | _, _ => s

/-- UNKNOWN_KIND (R172). -/
def execUnknownKind (s : State) : Host.Outcome State Fault Refusal := onPart Part.serveUnknown s

/-! ### Transmitting (R173, R174) -/

/-- R171: the BUSY reply of a busy entry. -/
def busyFrame (e : BusyEntry) : List Byte := frameBytes e.tag (replyKind e.kind) (result .busy)

/-- R173: the transmit arbiter begins the oldest waiting reply; the others that were made before the reply slot's go first. -/
def Lif.sendReply (l : Lif) : Lif :=
  match l.sending, l.replySlot, l.busyList with
  | some _, _, _ => l
  | none, none, [] => l
  | none, some r, [] => { l with sending := some (frameBytes r.tag r.kind r.body), replySlot := none }
  | none, none, e :: rest => { l with sending := some (busyFrame e), busyList := rest }
  | none, some r, e :: rest =>
    if r.busyAhead = 0 then { l with sending := some (frameBytes r.tag r.kind r.body), replySlot := none }
    else
      { l with sending := some (busyFrame e), busyList := rest, replySlot := some { r with busyAhead := r.busyAhead - 1 } }

/-- SEND_REPLY (R173). -/
def execSendReply (s : State) : Host.Outcome State Fault Refusal := onPart (fun p => p.modLif Lif.sendReply) s

/-- A report item: kind, subject, length and body (R174). -/
def itemBytes (k : ReportKind) (subject : Nat) (body : List Byte) : List Byte :=
  byteOf k.code :: be16 subject ++ byteOf body.length :: body

/-- The entries of a SESSION item that fit in one item (R174). -/
def sessionItemEntries : Nat := 14

/-- R174, R182: the body of an entry's item, built from its subject's state. -/
def Part.entryBody (s : Part) (e : ReportEntry) : List Byte :=
  match e.kind with
  | .point => s.pointItem e.subject
  | .area => s.areaItem e.subject
  | .desk => s.deskItem e.subject
  | .session =>
    (s.session e.subject).header ++ ((s.session e.subject).entries.take sessionItemEntries).flatMap entryBytes
  | .authority => s.authorityItem e.subject
  | .journalNearFull =>
    be32 s.rst.oldest.toNat ++ be32 s.rst.nextSeq.toNat ++ be32 s.rst.mark.toNat ++ be16 s.rst.unarchived
  | .overflow => be16 s.rst.dropped
  | .resync => [byteOf (resyncCode s.rst.resyncReason)]

/-- R174: the item that carries the entries of a session beyond the fourteenth, if any. -/
def Part.secondItem (s : Part) (e : ReportEntry) : Option (List Byte) :=
  if e.kind = .session ∧ sessionItemEntries < (s.session e.subject).entries.length then
    some (itemBytes .session (128 + e.subject)
      (((s.session e.subject).entries.drop sessionItemEntries).flatMap entryBytes))
  else none

/-- A report frame as it is built: its body, the entries left in the queue, and the continuation held. -/
structure Built where
  body         : List Byte
  left         : List ReportEntry
  continuation : Option (List Byte)
  deriving DecidableEq, Repr

/-- R174: items are taken from the head while the next one fits in 240 bytes; a second SESSION item that does not fit is
held and ends the frame (log 19). -/
def Part.takeItems (s : Part) : List ReportEntry → List Byte → Built
  | [], body => { body := body, left := [], continuation := none }
  | e :: rest, body =>
    let body1 := body ++ itemBytes e.kind e.subject (s.entryBody e)
    if Config.maxBody < body1.length then { body := body, left := e :: rest, continuation := none }
    else
      match s.secondItem e with
      | none => s.takeItems rest body1
      | some x =>
        if Config.maxBody < (body1 ++ x).length then { body := body1, left := rest, continuation := some x }
        else s.takeItems rest (body1 ++ x)

/-- The report frame that the arbiter builds now: a held continuation first (R174). -/
def Part.buildReport (s : Part) : Built := s.takeItems s.rst.reports (s.lif.continuation.getD [])

/-- R173, R174: the transmitter is free, no reply waits, the pacer permits, and there is something to report. -/
def Part.reportReady (s : Part) : Bool :=
  s.lif.sending.isNone && s.lif.busyList.isEmpty && s.lif.replySlot.isNone && s.lif.pacer == 0
    && (!s.rst.reports.isEmpty || s.lif.continuation.isSome)

/-- R163, R164, R174: the entries taken leave the head of the queue, an OVERFLOW taken clears the count of dropped reports,
the pacer is loaded and the frame is begun. -/
def Part.sendReport (s : Part) : Part :=
  let b := s.buildReport
  let took := s.rst.reports.take (s.rst.reports.length - b.left.length)
  { s with
    rst :=
      { s.rst with
        reports := b.left
        dropped := if took.any (·.kind == .overflow) then 0 else s.rst.dropped }
    lif :=
      { s.lif with
        continuation := b.continuation
        pacer := s.live.plant.pacing
        sending := some (frameBytes 0 0xF0 b.body) } }

/-- SEND_REPORT_FRAME (R174). -/
def execSendReportFrame (s : State) : Host.Outcome State Fault Refusal :=
  onPart (fun p => if p.reportReady then p.sendReport else p) s

/-- TRANSMITTER_FREE (R173): the last byte of the frame on TXD has been sent. -/
def execTransmitterFree (s : State) : Host.Outcome State Fault Refusal :=
  onPart (fun p => p.modLif fun l => { l with sending := none }) s

/-! ### The host-quiet timer (R175) -/

/-- R175: the link goes QUIET, the seconds spent QUIET start at 0, and LINK_QUIET carries the quiet time. -/
def Part.goQuiet (s : Part) : Part :=
  closeEvent s []
    ((s.modLif fun l => { l with link := .quiet, quietTimer := Timer.idle, quietSeconds := 0 }).write false
      { kind := .linkQuiet, value := w16 s.live.plant.quietTime })

/-- HOST_QUIET_EXPIRY (R175): taken when the timer's expiry is due in ACTIVE. -/
def execHostQuietExpiry (s : State) : Host.Outcome State Fault Refusal :=
  onPart (fun p => if p.lif.quietTimer.due && p.lif.link == .active then p.goQuiet else p) s

end Sys2Proof.Machine
end

