-- ==== Sys2Proof/Machine/Shelving.lean ====
section
/-! DEFINITION. Shelving and out of service: SHELVE, UNSHELVE, SHELF_EXPIRY, REMOVE and RESTORE (R69 to R79). -/

namespace Sys2Proof.Machine

/-! ### Checks and shelf slots -/

/-- R70, checks 1 to 4, shared by SHELVE, UNSHELVE, REMOVE and RESTORE; `badMinutes` belongs to check 1 of SHELVE. -/
def Part.actCheck (s : Part) (d p : Nat) (perm : Perm) (badMinutes : Bool) : Option ResultCode :=
  if !isDesk d || !isPoint p || badMinutes then some .badField
  else if !(s.pointS p).configured then some .badPoint
  else if (s.desk d).signedOn = 0 then some .notSignedOn
  else if !allows (s.topLayer d) perm.set (s.pointS p).area then some .denied
  else if (s.area (s.pointS p).area).pdesk ≠ d then some .notYourArea
  else none

/-- The lowest-numbered free shelf slot (R69). -/
def Part.freeShelf (s : Part) : Option Nat := (numbers Config.nShelf).find? fun k => (getAt s.shelf k).isNone

/-- R69: the slot of a point, if it has one, is freed with its timer, and the point's shelf slot field becomes absent. -/
def Part.freeShelfOf (s : Part) (p : Nat) : Part :=
  let s1 := s.modPoint p fun x => { x with shelfSlot := none }
  match (s.point p).shelfSlot with
  | none => s1
  | some k => { s1 with shelf := setAt s1.shelf k none }

/-- The event's end after point `p` went out of annunciation: an emptied desk slot is filled, a RELEASING area left with no
deferred point goes to CALM (R87), and the notice is given. -/
def Part.afterOut (s t : Part) (p : Nat) : Part :=
  let a := (s.pointS p).area
  ((t.calmIfEmpty a true).fill (s.shownAt p)).notify a

/-! ### SHELVE (R70 to R72) -/

/-- R70: all its checks; none when the SHELVE passes. -/
def Part.shelveCheck (s : Part) (d p minutes : Nat) : Option ResultCode :=
  match s.actCheck d p .shelve (minutes == 0) with
  | some r => some r
  | none =>
    if (s.pointS p).shelfLimit = 0 then some .notShelvable
    else if (s.point p).state = .removed then some .wrongState
    else if (s.point p).state ≠ .shelved ∧ s.freeShelf = none then some .noShelfSlot
    else none

/-- The SHELVE record (R79). -/
def Part.writeShelve (s t : Part) (d p granted : Nat) (flags : Byte) : Part :=
  t.write true
    { s.pointRecord .shelve p with
      desk := d, credential := (s.desk d).signedOn, value := w16 granted, flags := flags }

/-- R71: point `p` is shelved in the free slot `k`. -/
def Part.shelveIn (s : Part) (d p granted k : Nat) : Part :=
  let s1 := { s with shelf := setAt s.shelf k (some { point := p, desk := d, timer := Timer.load (granted * 60) }) }
  let s2 := (((s1.withdraw p).changeState p .shelved).modPoint p fun x => { x with shelfSlot := some k }).bump
    (s.pointS p).area
  let s3 := s.writeShelve s2 d p granted (flagIf (s.point p).state.unacked flagAckDropped)
  closeEvent s [] (s.afterOut s3 p)

/-- R72: the shelving of point `p` in slot `k` is extended; its POINT report is queued in any case (R3). -/
def Part.extendShelf (s : Part) (d p granted k : Nat) : Part :=
  let a := (s.pointS p).area
  let s1 := { s with shelf := setAt s.shelf k (some { point := p, desk := d, timer := Timer.load (granted * 60) }) }
  let s2 := (s1.modPoint p fun x => { x with lastChange := s.now }).bump a
  closeEvent s [pointEntry p] ((s.writeShelve s2 d p granted flagExtension).notify a)

/-- The shelf slot a SHELVE that passes uses: the point's own, or the lowest free one (R70 to R72). -/
def Part.shelfFor (s : Part) (p : Nat) : Nat :=
  if (s.point p).state = .shelved then (s.point p).shelfSlot.getD 0 else s.freeShelf.getD 0

/-- R71, R72: a SHELVE that passes. -/
def Part.shelve (s : Part) (d p granted : Nat) : Part :=
  if (s.point p).state = .shelved then s.extendShelf d p granted (s.shelfFor p)
  else s.shelveIn d p granted (s.shelfFor p)

/-- R70: a SHELVE request. -/
def shelveHandler : Handler := fun body s =>
  let d := byteAt body 0
  let p := field16 body 1
  match s.shelveCheck d p (field16 body 3) with
  | some r => (s.refusePoint d p r, result r)
  | none =>
    let granted := min (field16 body 3) (s.pointS p).shelfLimit
    (s.shelve d p granted, ResultCode.ok.byte :: be16 granted ++ [byteOf (s.shelfFor p)])

/-- SHELVE (R70). -/
def execShelve (s : State) : Host.Outcome State Fault Refusal := onRequest .shelve shelveHandler s

/-! ### Return to service (R73 to R75, R78) -/

/-- R73: whether the point's group holds it. -/
def Part.groupHolds (s : Part) (p : Nat) : Bool := (s.pointS p).group != 0 && getAt s.groups (s.pointS p).group

/-- R73: the state and fields of a point that comes back. -/
def Part.returnPoint (s : Part) (p : Nat) : Part :=
  if s.groupHolds p then s.changeState p .suppressed
  else if (s.point p).shadow then s.enterUnack p
  else s.enterNormal p

/-- R74, R75, R78: point `p` leaves SHELVED or REMOVED in one event; the record is of kind `k` and names a desk and a
credential. -/
def Part.returnEvent (s : Part) (k : JKind) (d c p : Nat) : Part :=
  let a := (s.pointS p).area
  let s1 := ((s.freeShelfOf p).returnPoint p).bump a
  let s2 := s1.write true
    { s.pointRecord k p with desk := d, credential := c, value := w16 (s1.point p).state.code }
  let s3 := if (s2.point p).placement = .queued then s2.fillAreaDesk a else s2
  closeEvent s [] (s3.notify a)

/-- The reply of UNSHELVE and RESTORE: the new state and view number (R74, R78). -/
def Part.returnReply (s : Part) (p : Nat) : List Byte :=
  ResultCode.ok.byte :: byteOf (s.point p).state.code :: be16 (s.point p).view.toNat

/-- R74, R78: the checks of UNSHELVE and RESTORE. -/
def Part.returnCheck (s : Part) (d p : Nat) (perm : Perm) (st : PointState) : Option ResultCode :=
  match s.actCheck d p perm false with
  | some r => some r
  | none => if (s.point p).state = st then none else some .wrongState

/-- R74, R78: UNSHELVE and RESTORE, which differ in the permission, the state left and the record. -/
def Part.returnRequest (perm : Perm) (st : PointState) (k : JKind) : Handler := fun body s =>
  let d := byteAt body 0
  let p := field16 body 1
  match s.returnCheck d p perm st with
  | some r => (s.refusePoint d p r, result r)
  | none =>
    let t := s.returnEvent k d (s.desk d).signedOn p
    (t, t.returnReply p)

/-- UNSHELVE (R74). -/
def execUnshelve (s : State) : Host.Outcome State Fault Refusal :=
  onRequest .unshelve (Part.returnRequest .unshelve .shelved .unshelve) s

/-- RESTORE (R78). -/
def execRestore (s : State) : Host.Outcome State Fault Refusal :=
  onRequest .restore (Part.returnRequest .restore .removed .restore) s

/-- R75: the expiry of shelf slot `k`; the record names the desk held in the slot. -/
def Part.shelfExpires (s : Part) (k : Nat) : Part :=
  match getAt s.shelf k with
  | none => s
  | some u => if u.timer.due then s.returnEvent .shelfExpire u.desk 0 u.point else s

/-- SHELF_EXPIRY (R75): taken when the expiry is due. -/
def execShelfExpiry (k : Nat) (s : State) : Host.Outcome State Fault Refusal :=
  onPart (fun p => p.shelfExpires k) s

/-! ### REMOVE (R77) -/

/-- R77: its checks; REPEAT for a point already REMOVED. -/
def Part.removeCheck (s : Part) (d p : Nat) : Option ResultCode :=
  match s.actCheck d p .remove false with
  | some r => some r
  | none => if (s.point p).state = .removed then some .repeated else none

/-- R77: point `p` is taken out of service. -/
def Part.removePoint (s : Part) (d p : Nat) : Part :=
  let s1 := (((s.freeShelfOf p).withdraw p).changeState p .removed).bump (s.pointS p).area
  let s2 := s1.write true
    { s.pointRecord .remove p with
      desk := d, credential := (s.desk d).signedOn, value := w16 (s.point p).state.code
      flags := flagIf (s.point p).state.unacked flagAckDropped }
  closeEvent s [] (s.afterOut s2 p)

/-- R77: a REMOVE request. -/
def removeHandler : Handler := fun body s =>
  let d := byteAt body 0
  let p := field16 body 1
  match s.removeCheck d p with
  | some r => (s.refusePoint d p r, result r)
  | none => (s.removePoint d p, result .ok)

/-- REMOVE (R77). -/
def execRemove (s : State) : Host.Outcome State Fault Refusal := onRequest .remove removeHandler s

end Sys2Proof.Machine
end

