-- ==== Sys2Proof/Machine/Status.lean ====
section
/-! DEFINITION. The status requests: POINT_STATUS, AREA_STATUS, DESK_STATUS, SESSION_STATUS and PART_STATUS (R63, R95, R115,
R153, R177, R182, R183). They change nothing. -/

namespace Sys2Proof.Machine

/-- R63: the reply item of one named point. -/
def Part.statusItem (s : Part) (p : Nat) : List Byte :=
  if !isPoint p then result .badField
  else if !(s.pointS p).configured then result .badPoint
  else ResultCode.ok.byte :: s.pointItem p

/-- R183: items join the reply in order while the next one fits; the number answered and their bytes. `used` counts the
bytes already in the body. -/
def fitItems (used : Nat) : List (List Byte) → Nat × List Byte
  | [] => (0, [])
  | x :: rest =>
    if Config.maxBody < used + x.length then (0, [])
    else let r := fitItems (used + x.length) rest; (r.1 + 1, x ++ r.2)

/-- R63: a POINT_STATUS request. All its points are read in one step, so no event comes between two readings, which
is the model's reading (log 21). -/
def pointStatusHandler : Handler := fun body s =>
  let r := fitItems 2 ((itemOffsets 0 2 body.length).map fun i => s.statusItem (field16 body i))
  (s, ResultCode.ok.byte :: byteOf r.1 :: r.2)

/-- POINT_STATUS (R63). -/
def execPointStatus (s : State) : Host.Outcome State Fault Refusal := onRequest .pointStatus pointStatusHandler s

/-- R95: an AREA_STATUS request. -/
def areaStatusHandler : Handler := fun body s =>
  let a := byteAt body 0
  if !isArea a then (s, result .badField) else (s, ResultCode.ok.byte :: s.areaItem a)

/-- AREA_STATUS (R95). -/
def execAreaStatus (s : State) : Host.Outcome State Fault Refusal := onRequest .areaStatus areaStatusHandler s

/-- R115: a DESK_STATUS request. -/
def deskStatusHandler : Handler := fun body s =>
  let d := byteAt body 0
  if !isDesk d then (s, result .badField)
  else (s, ResultCode.ok.byte :: s.deskItem d ++ (s.desk d).rotation.map byteOf)

/-- DESK_STATUS (R115). -/
def execDeskStatus (s : State) : Host.Outcome State Fault Refusal := onRequest .deskStatus deskStatusHandler s

/-- R153, R182: the reply of SESSION_STATUS from a first entry, counted from 1. -/
def Session.statusBytes (x : Session) (first : Nat) : List Byte :=
  if x.state = .idle then x.header
  else
    let l := x.entries.drop (first - 1)
    x.header ++ flagByte (14 < l.length) :: (l.take 14).flatMap entryBytes

/-- R153: a SESSION_STATUS request. -/
def sessionStatusHandler : Handler := fun body s =>
  let n := byteAt body 0
  if !(1 ≤ n && n ≤ Config.nSessions) then (s, result .noSession)
  else (s, ResultCode.ok.byte :: (s.session n).statusBytes (max 1 (byteAt body 1)))

/-- SESSION_STATUS (R153). -/
def execSessionStatus (s : State) : Host.Outcome State Fault Refusal := onRequest .sessionStatus sessionStatusHandler s

/-- R177: a PART_STATUS request. -/
def partStatusHandler : Handler := fun _ s => (s, ResultCode.ok.byte :: s.statusBytes)

/-- PART_STATUS (R177). -/
def execPartStatus (s : State) : Host.Outcome State Fault Refusal := onRequest .partStatus partStatusHandler s

end Sys2Proof.Machine
end

