-- ==== Sys2Proof/Machine/Dispatch.lean ====
section
/-! DEFINITION. The meaning of every command: one arm per constructor of Instr. -/

namespace Sys2Proof.Machine

def exec (i : Instr) (s : State) : Host.Outcome State Fault Refusal :=
  match i with
  | .powerOn baud1 baud0 => Sys2Proof.Machine.execPowerOn baud1 baud0 s
  | .receiveByte b stopLow => Sys2Proof.Machine.execReceiveByte b stopLow s
  | .gapExpiry => Sys2Proof.Machine.execGapExpiry s
  | .linkReset => Sys2Proof.Machine.execLinkReset s
  | .unknownKind => Sys2Proof.Machine.execUnknownKind s
  | .sendReply => Sys2Proof.Machine.execSendReply s
  | .sendReportFrame => Sys2Proof.Machine.execSendReportFrame s
  | .oneSecondTick => Sys2Proof.Machine.execOneSecondTick s
  | .loadMonitorTick area => Sys2Proof.Machine.execLoadMonitorTick area s
  | .shelfExpiry slot => Sys2Proof.Machine.execShelfExpiry slot s
  | .layerExpiry desk layer => Sys2Proof.Machine.execLayerExpiry desk layer s
  | .sessionTimerExpiry session => Sys2Proof.Machine.execSessionTimerExpiry session s
  | .silenceHoldExpiry desk => Sys2Proof.Machine.execSilenceHoldExpiry desk s
  | .lampTestExpiry desk => Sys2Proof.Machine.execLampTestExpiry desk s
  | .hostQuietExpiry => Sys2Proof.Machine.execHostQuietExpiry s
  | .frameBoundary desk => Sys2Proof.Machine.execFrameBoundary desk s
  | .acknowledgePress desk => Sys2Proof.Machine.execAcknowledgePress desk s
  | .silencePress desk => Sys2Proof.Machine.execSilencePress desk s
  | .conditions => Sys2Proof.Machine.execConditions s
  | .group => Sys2Proof.Machine.execGroup s
  | .ack => Sys2Proof.Machine.execAck s
  | .silence => Sys2Proof.Machine.execSilence s
  | .shelve => Sys2Proof.Machine.execShelve s
  | .unshelve => Sys2Proof.Machine.execUnshelve s
  | .remove => Sys2Proof.Machine.execRemove s
  | .restore => Sys2Proof.Machine.execRestore s
  | .releaseDeferred => Sys2Proof.Machine.execReleaseDeferred s
  | .signOn => Sys2Proof.Machine.execSignOn s
  | .signOff => Sys2Proof.Machine.execSignOff s
  | .elevate => Sys2Proof.Machine.execElevate s
  | .drop => Sys2Proof.Machine.execDrop s
  | .assume => Sys2Proof.Machine.execAssume s
  | .offer => Sys2Proof.Machine.execOffer s
  | .takeUp => Sys2Proof.Machine.execTakeUp s
  | .reviewNext => Sys2Proof.Machine.execReviewNext s
  | .reviewDelta => Sys2Proof.Machine.execReviewDelta s
  | .confirmArea => Sys2Proof.Machine.execConfirmArea s
  | .accept => Sys2Proof.Machine.execAccept s
  | .handOff => Sys2Proof.Machine.execHandOff s
  | .withdraw => Sys2Proof.Machine.execWithdraw s
  | .lampTest => Sys2Proof.Machine.execLampTest s
  | .pointStatus => Sys2Proof.Machine.execPointStatus s
  | .areaStatus => Sys2Proof.Machine.execAreaStatus s
  | .deskStatus => Sys2Proof.Machine.execDeskStatus s
  | .sessionStatus => Sys2Proof.Machine.execSessionStatus s
  | .partStatus => Sys2Proof.Machine.execPartStatus s
  | .journalRead => Sys2Proof.Machine.execJournalRead s
  | .journalMark => Sys2Proof.Machine.execJournalMark s
  | .setTime => Sys2Proof.Machine.execSetTime s
  | .reportEnable => Sys2Proof.Machine.execReportEnable s
  | .reportDisable => Sys2Proof.Machine.execReportDisable s
  | .configBegin => Sys2Proof.Machine.execConfigBegin s
  | .configPlant => Sys2Proof.Machine.execConfigPlant s
  | .configArea => Sys2Proof.Machine.execConfigArea s
  | .configPoints => Sys2Proof.Machine.execConfigPoints s
  | .configRole => Sys2Proof.Machine.execConfigRole s
  | .configCredential => Sys2Proof.Machine.execConfigCredential s
  | .configDesk => Sys2Proof.Machine.execConfigDesk s
  | .configCommit => Sys2Proof.Machine.execConfigCommit s
  | .revoke => Sys2Proof.Machine.execRevoke s
  | .tick pins => Sys2Proof.Machine.execTick pins s
  | .resetFalls => Sys2Proof.Machine.execResetFalls s
  | .transmitterFree => Sys2Proof.Machine.execTransmitterFree s

end Sys2Proof.Machine
end

