-- ==== Sys2Proof/Safety.lean ====
section
/-! DEFINITION. The vocabulary of the statements: what it is for a command to complete, for a request to be taken and
answered, for an event to write records and to leave the rest of the part alone; the effects of the main events as relations
between the part before and after; and the invariants of the part. -/

namespace Sys2Proof.Machine

/-! ### Commands, requests and answers -/

/-- Whatever commands wait, `exec` of `i` on the part `s` answers the next state in which the part is `t` and the same
commands wait. -/
def Completes (i : Instr) (s t : Part) : Prop :=
  ∀ q : List Instr, exec i { pending := q, part := s } = .next { pending := q, part := t }

/-- The request kind's row of the table. -/
def ReqKind.command : ReqKind → Instr
  | .conditions => .conditions | .group => .group | .ack => .ack | .silence => .silence | .shelve => .shelve
  | .unshelve => .unshelve | .remove => .remove | .restore => .restore | .releaseDeferred => .releaseDeferred
  | .signOn => .signOn | .signOff => .signOff | .elevate => .elevate | .drop => .drop | .assume => .assume
  | .offer => .offer | .takeUp => .takeUp | .reviewNext => .reviewNext | .reviewDelta => .reviewDelta
  | .confirmArea => .confirmArea | .accept => .accept | .handOff => .handOff | .withdraw => .withdraw
  | .lampTest => .lampTest | .pointStatus => .pointStatus | .areaStatus => .areaStatus | .deskStatus => .deskStatus
  | .sessionStatus => .sessionStatus | .partStatus => .partStatus | .journalRead => .journalRead
  | .journalMark => .journalMark | .setTime => .setTime | .reportEnable => .reportEnable
  | .reportDisable => .reportDisable | .configBegin => .configBegin | .configPlant => .configPlant
  | .configArea => .configArea | .configPoints => .configPoints | .configRole => .configRole
  | .configCredential => .configCredential | .configDesk => .configDesk | .configCommit => .configCommit
  | .revoke => .revoke

/-- The oldest frame of the input queue is a request of kind `k`, and the reply slot is free for its answer. -/
abbrev Part.Offered (s : Part) (k : ReqKind) (tag : Byte) (body : List Byte) : Prop :=
  s.resetLow = false ∧ s.lif.replySlot = none
    ∧ s.lif.inputQueue.head? = some { tag := tag, kind := byteOf k.code, body := body }

/-- R172: a request is offered whose length and phase pass the checks of the link. -/
abbrev Part.Takes (s : Part) (k : ReqKind) (tag : Byte) (body : List Byte) : Prop :=
  s.Offered k tag body ∧ k.lengthOk body.length = true ∧ k.acceptedIn s.phase = true

/-- R172: the Link Interface after an answered request: the frame has left the queue and the reply stands in the slot. -/
def Part.answer (s : Part) (k : ReqKind) (tag : Byte) (reply : List Byte) : Lif :=
  { s.lif with
    inputQueue := s.lif.inputQueue.tail
    replySlot := some
      { tag := tag, kind := byteOf (k.code + 128), body := reply, busyAhead := s.lif.busyList.length } }

/-! ### Timers -/

/-- R67: a timer after a 1 s tick: one that runs falls by 1, and one that reaches 0 is IDLE with its expiry delivered. -/
def Timer.after (x : Timer) : Timer :=
  { remaining := x.remaining - 1, due := if x.remaining = 1 then true else x.due }

/-- R117, R118: what one sample makes of a debouncer, and of the presses delivered: a third agreeing sample changes the stable
level, and a change to pressed is a press, which is discarded outside RUNNING. -/
def Debouncer.Sampled (b c : Debouncer) (running low : Bool) (before after : Nat) : Prop :=
  (low = b.pressed → c = { b with run := 0 } ∧ after = before)
  ∧ (low ≠ b.pressed → b.run = 0 ∨ b.candidate ≠ low → c = { b with run := 1, candidate := low } ∧ after = before)
  ∧ (low ≠ b.pressed → b.run = 1 → b.candidate = low → c = { b with run := 2 } ∧ after = before)
  ∧ (low ≠ b.pressed → b.run = 2 → b.candidate = low →
      c = { b with pressed := low, run := 0 } ∧ after = if running = true ∧ low = true then before + 1 else before)

/-! ### Records and reports -/

/-- R155: the `i`-th record of an event that finds the part `s`. -/
def Part.record (s : Part) (i : Nat) (sig : Bool) (gen : W16) (f : RecordFields) : JournalRecord :=
  { seq := s.rst.nextSeq + BitVec.ofNat 32 i, time := s.now, kind := f.kind
    flags := f.flags ||| flagIf sig flagSignificant, area := f.area, desk := f.desk, credential := f.credential
    point := f.point, priority := f.priority, value := f.value, generation := gen }

/-- R155: the records of an event, in order: each with its significant flag and its generation. -/
def Part.records (s : Part) (l : List (Bool × W16 × RecordFields)) : List JournalRecord :=
  l.mapIdx fun i x => s.record i x.1 x.2.1 x.2.2

/-- R155, R156, R160: exactly the records `l` were written, the oldest giving way beyond J records; the unarchived count rose
with them while it was below J, and the near-full state fired if the count rose to J − J/8; the mark, the report settings and
the RESYNC reason are untouched. -/
def Part.Recorded (s t : Part) (l : List JournalRecord) : Prop :=
  let size := s.journalSize
  let count := s.rst.unarchived
  t.rst.journal = (if l = [] then s.rst.journal
    else (s.rst.journal ++ l).drop ((s.rst.journal ++ l).length - size))
  ∧ t.rst.nextSeq = s.rst.nextSeq + BitVec.ofNat 32 l.length
  ∧ t.rst.mark = s.rst.mark ∧ t.rst.enabled = s.rst.enabled ∧ t.rst.resyncReason = s.rst.resyncReason
  ∧ t.rst.unarchived = (if count < size then min size (count + l.length) else count)
  ∧ t.rst.nearFull =
      if s.rst.nearFull = .armed ∧ count < size - size / 8 ∧ size - size / 8 ≤ count + l.length then .fired
      else s.rst.nearFull

/-- R3, R6, R40, R114, R131, R152, R160: what has changed between `s` and `t` calls for the report `e`. -/
def Part.CallsFor (s t : Part) (e : ReportEntry) : Prop :=
  let n := e.subject
  match e.kind with
  | .point => n ∈ numbers 1024
      ∧ ¬((s.point n).state = (t.point n).state ∧ (s.point n).shadow = (t.point n).shadow
        ∧ (s.point n).view = (t.point n).view ∧ (s.point n).occurrences = (t.point n).occurrences
        ∧ (s.point n).placement = (t.point n).placement)
  | .area => n ∈ numbers 16
      ∧ ¬((s.area n).counts = (t.area n).counts ∧ (s.area n).generation = (t.area n).generation
        ∧ (s.area n).pdesk = (t.area n).pdesk ∧ (s.area n).mode = (t.area n).mode ∧ (s.area n).flood = (t.area n).flood
        ∧ (s.area n).responsible = (t.area n).responsible ∧ (s.area n).session = (t.area n).session)
  | .desk => n ∈ numbers 6
      ∧ (¬((s.desk n).slots = (t.desk n).slots ∧ (s.desk n).horn = (t.desk n).horn
          ∧ (s.desk n).hornPattern = (t.desk n).hornPattern
          ∧ ∀ a ∈ numbers 16, (s.area a).pdesk = n ↔ (t.area a).pdesk = n)
        ∨ t.phase = .running ∧ ∃ k ∈ List.range 16, s.lampSource n k ≠ t.lampSource n k)
  | .session => n ∈ numbers 4
      ∧ ¬((s.session n).state = (t.session n).state ∧ (s.session n).accepted = (t.session n).accepted
        ∧ (s.session n).handedOff = (t.session n).handedOff
        ∧ (s.session n).entries.map (fun x => (x.area, x.sweep, x.snapGen, x.snapSeq))
          = (t.session n).entries.map fun x => (x.area, x.sweep, x.snapGen, x.snapSeq))
  | .authority => n ∈ numbers 6
      ∧ ¬((s.desk n).signedOn = (t.desk n).signedOn
        ∧ (s.desk n).stack.map (fun x =>
            (x.perms, x.scope, x.elev.map fun y => (y.grantor, y.grantPerms, y.grantScope, y.minutes)))
          = (t.desk n).stack.map fun x =>
            (x.perms, x.scope, x.elev.map fun y => (y.grantor, y.grantPerms, y.grantScope, y.minutes)))
  | .journalNearFull => n = 0 ∧ s.rst.nearFull = .armed ∧ t.rst.nearFull = .fired
  | .overflow => False
  | .resync => False

/-- R162, R163: the reports that the event from `s` to `t` calls for, with those that its rule queues in any case, were queued
one after another by `Rst.queue`, and nothing else happened to the report queue and the count of dropped reports. -/
def Part.Reported (s t : Part) (always : List ReportEntry) : Prop :=
  let r := (eventReports s t always).foldl (fun r e => r.queue s.journalSize e) s.rst
  t.rst.reports = r.reports ∧ t.rst.dropped = r.dropped

/-- An event wrote the records `l` and queued its reports, `always` among them whatever has changed. -/
def Part.WroteAnd (s t : Part) (l : List JournalRecord) (always : List ReportEntry) : Prop :=
  s.Recorded t l ∧ s.Reported t always

/-- An event wrote the records `l` and queued the reports of its changes. -/
def Part.Wrote (s t : Part) (l : List JournalRecord) : Prop := s.WroteAnd t l []

/-- R162, R163: a report has reached the queue, or was dropped with OVERFLOW standing there, or its kind is disabled. -/
def Part.Told (t : Part) (e : ReportEntry) : Prop :=
  t.rst.kindEnabled e.kind = true →
    e ∈ t.rst.reports ∨ ({ kind := .overflow, subject := 0 } : ReportEntry) ∈ t.rst.reports

/-- The AREA entry of an area. -/
def areaEntry (a : Nat) : ReportEntry := { kind := .area, subject := a }
/-- The SESSION entry of a session. -/
def sessionEntry (n : Nat) : ReportEntry := { kind := .session, subject := n }

/-! ### The link reset -/

/-- R176: the Link Interface after a link reset. -/
def Lif.afterBreak (l : Lif) : Lif :=
  { l with
    breakCount := 10, asm := { state := .hunting, len := 0, buf := [], crc := [], gap := 0 }, inputQueue := [], busyList := []
    pacer := 0, continuation := none, replySlot := l.replySlot.map fun r => { r with busyAhead := 0 } }

/-- R166, R176: the Record Store after a link reset. -/
def Rst.afterBreak (r : Rst) : Rst :=
  { r with reports := [{ kind := .resync, subject := 0 }], dropped := 0, resyncReason := some .linkReset }

/-! ### Frames: what an event leaves alone -/

/-- Reset, phase, both copies of the configuration and the time base are unchanged. -/
def Part.Fixed (s t : Part) : Prop :=
  t.resetLow = s.resetLow ∧ t.phase = s.phase ∧ t.staged = s.staged ∧ t.live = s.live ∧ t.tset = s.tset

/-- R125: the horn state follows the slots, and only a sounding horn holds a pattern in force. -/
abbrev Desk.HornOk (x : Desk) : Prop := x.horn = x.hornFromSlots ∧ (x.horn ≠ .sounding → x.hornPattern = 0)

/-- R125: `n` is the wanted pattern of a desk, the priority of its most urgent occupant whose silenced flag is off. -/
def Part.Wants (s : Part) (d n : Nat) : Prop :=
  (∃ x ∈ (s.desk d).occupants, x.silenced = false ∧ (s.pointS x.point).priority = n)
    ∧ ∀ x ∈ (s.desk d).occupants, x.silenced = false → n ≤ (s.pointS x.point).priority

/-- R125, R126: the horn after an event follows the slots; on a change into SOUNDING the wanted pattern is in force at once, and
while it stays SOUNDING the pattern in force is kept. -/
def Part.HornMoved (s t : Part) (d : Nat) : Prop :=
  (t.desk d).HornOk
  ∧ ((t.desk d).horn = .sounding → (s.desk d).horn = .sounding → (t.desk d).hornPattern = (s.desk d).hornPattern)
  ∧ ((t.desk d).horn = .sounding → (s.desk d).horn ≠ .sounding → t.Wants d (t.desk d).hornPattern)

/-- A desk as it was, but for a horn that is worked out again from its slots. -/
def Part.DeskKept (s t : Part) (d : Nat) : Prop :=
  t.desk d = { s.desk d with horn := (t.desk d).horn, hornPattern := (t.desk d).hornPattern }
    ∧ ((s.desk d).HornOk → t.desk d = s.desk d) ∧ s.HornMoved t d

/-- Only what presentation moves has changed at a desk: slots, the two orders, and the horn. -/
def Part.DeskMoved (s t : Part) (d : Nat) : Prop :=
  t.desk d =
    { s.desk d with
      slots := (t.desk d).slots, order := (t.desk d).order, rotation := (t.desk d).rotation
      horn := (t.desk d).horn, hornPattern := (t.desk d).hornPattern }
  ∧ s.HornMoved t d

/-- Every point but `p` and every area but `a` is unchanged. -/
def Part.OthersKept (s t : Part) (p a : Nat) : Prop :=
  (∀ q ∈ numbers 1024, q ≠ p → t.point q = s.point q) ∧ (∀ b ∈ numbers 16, b ≠ a → t.area b = s.area b)

/-- Every point but `p` keeps all but its placement, and every area but `a` all but its pending queues. -/
def Part.OthersMoved (s t : Part) (p a : Nat) : Prop :=
  (∀ q ∈ numbers 1024, q ≠ p → t.point q = { s.point q with placement := (t.point q).placement })
    ∧ (∀ b ∈ numbers 16, b ≠ a → t.area b = { s.area b with pend := (t.area b).pend })

/-- Sign-ons and suppression groups are unchanged. -/
def Part.PeopleKept (s t : Part) : Prop := t.credDesk = s.credDesk ∧ t.groups = s.groups

/-- The frame of an event that moves nothing: only point `p`, area `a` and the shelf may differ. -/
def Part.StillFrame (s t : Part) (p a : Nat) : Prop :=
  s.Fixed t ∧ s.PeopleKept t ∧ s.OthersKept t p a ∧ ∀ d ∈ numbers 6, s.DeskKept t d

/-- The frame of an event after which desk `e` may have been filled. -/
def Part.MoveFrame (s t : Part) (p a e : Nat) : Prop :=
  s.Fixed t ∧ s.PeopleKept t ∧ s.OthersMoved t p a ∧ (∀ d ∈ numbers 6, s.DeskMoved t d)
    ∧ ∀ d ∈ numbers 6, d ≠ e → s.DeskKept t d

/-- Only the Record Store, the Link Interface and horns that are worked out again may differ. -/
def Part.RecordFrame (s t : Part) : Prop :=
  s.Fixed t ∧ s.PeopleKept t ∧ t.points = s.points ∧ t.areas = s.areas ∧ t.shelf = s.shelf ∧ t.sessions = s.sessions
    ∧ ∀ d ∈ numbers 6, s.DeskKept t d

/-- R144: the sessions after an event with a significant change in area `a`, or without one. -/
def Part.Noticed (s t : Part) (a : Nat) (sig : Bool) : Prop :=
  ∀ n ∈ numbers 4,
    t.session n = if sig = true ∧ (s.area a).session = n then (s.session n).notice a else s.session n

/-! ### The board: queues, slots, orders and placements -/

/-- What presentation and flood control move stands in `t` as in `u`. -/
def Part.SameBoard (u t : Part) : Prop :=
  (∀ q ∈ numbers 1024, (t.point q).placement = (u.point q).placement)
  ∧ (∀ a ∈ numbers 16, (t.area a).pend = (u.area a).pend ∧ (t.area a).defer = (u.area a).defer
      ∧ (t.area a).counts.deferred = (u.area a).counts.deferred)
  ∧ ∀ d ∈ numbers 6, (t.desk d).slots = (u.desk d).slots ∧ (t.desk d).order = (u.desk d).order
      ∧ (t.desk d).rotation = (u.desk d).rotation

/-- R101, steps 1 and 2: point `p` heads the queue of priority `pr` of area `a`, which is presented at desk `d`; nothing more
urgent waits there, and nothing as urgent waits in an area earlier in the desk's rotation order. -/
def Part.IsCandidate (s : Part) (d a pr p : Nat) : Prop :=
  a ∈ (s.desk d).rotation ∧ pr ∈ numbers 4 ∧ (s.area a).pdesk = d ∧ (getAt (s.area a).pend pr).head? = some p
  ∧ ∀ b ∈ (s.desk d).rotation, ∀ k ∈ numbers 4, (s.area b).pdesk = d → getAt (s.area b).pend k ≠ [] →
      pr < k ∨ pr = k ∧ (s.desk d).rotation.idxOf a ≤ (s.desk d).rotation.idxOf b

/-- R103: slot `k` holds the least urgent occupant of desk `d`, of several the one presented most recently. -/
def Part.LeastUrgentAt (s : Part) (d k : Nat) : Prop :=
  k ∈ (s.desk d).order ∧ ∀ j ∈ (s.desk d).order, s.slotPriority d j < s.slotPriority d k
    ∨ s.slotPriority d j = s.slotPriority d k ∧ (s.desk d).order.idxOf j ≤ (s.desk d).order.idxOf k

/-- R99, R102: point `p` has left the head of its area's queue for slot `k` of desk `d`, and nothing else has changed. -/
def Part.TookSlot (s t : Part) (d k a pr p : Nat) : Prop :=
  t = { s with points := t.points, areas := t.areas, desks := t.desks }
  ∧ (∀ q ∈ numbers 1024, t.point q =
      if q = p then { s.point q with placement := .presented d k } else s.point q)
  ∧ (∀ b ∈ numbers 16, t.area b =
      if b = a then { s.area b with pend := modAt (s.area b).pend pr List.tail } else s.area b)
  ∧ ∀ e ∈ numbers 6, t.desk e =
      if e = d then
        { s.desk e with
          slots := setAt (s.desk e).slots k
            (some { point := p, view := (s.point p).view, presentedAt := s.now, silenced := false })
          order := (s.desk e).order ++ [k], rotation := (s.desk e).rotation.filter (· != a) ++ [a] }
      else s.desk e

/-- R103, R108, R110: point `y`, the occupant of slot `k` of desk `d`, has returned to the head of its queue, and nothing else
has changed. -/
def Part.GaveBack (s t : Part) (d k y : Nat) : Prop :=
  t = { s with points := t.points, areas := t.areas, desks := t.desks }
  ∧ (∀ q ∈ numbers 1024, t.point q = if q = y then { s.point q with placement := .queued } else s.point q)
  ∧ (∀ b ∈ numbers 16, t.area b =
      if b = (s.pointS y).area then { s.area b with pend := modAt (s.area b).pend (s.pointS y).priority (y :: ·) }
      else s.area b)
  ∧ ∀ e ∈ numbers 6, t.desk e =
      if e = d then
        { s.desk e with slots := setAt (s.desk e).slots k none, order := (s.desk e).order.filter (· != k) }
      else s.desk e

/-- R4, R107: point `p` has left whatever held it, its placement is NONE, and nothing else has changed. -/
def Part.Withdrew (s t : Part) (p : Nat) : Prop :=
  let pr := (s.pointS p).priority
  t = { s with points := t.points, areas := t.areas, desks := t.desks }
  ∧ (∀ q ∈ numbers 1024, t.point q = if q = p then { s.point q with placement := .none } else s.point q)
  ∧ (∀ b ∈ numbers 16, t.area b =
      if b = (s.pointS p).area then
        { s.area b with
          pend := if (s.point p).placement = .queued then modAt (s.area b).pend pr (·.erase p) else (s.area b).pend
          defer := if (s.point p).placement = .deferred then modAt (s.area b).defer pr (·.erase p) else (s.area b).defer
          counts :=
            { (s.area b).counts with
              deferred := (s.area b).counts.deferred - if (s.point p).placement = .deferred then 1 else 0 } }
      else s.area b)
  ∧ ∀ e ∈ numbers 6, (e ≠ s.shownAt p → t.desk e = s.desk e)
      ∧ ∀ k ∈ numbers 4, (s.point p).placement = .presented e k → t.desk e =
          { s.desk e with slots := setAt (s.desk e).slots k none, order := (s.desk e).order.filter (· != k) }

/-- R108: slot `k` of desk `d` holds a point of an area whose new desk is another. -/
def Part.leaves (s : Part) (newDesk : Nat → Nat) (d k : Nat) : Bool :=
  match getAt (s.desk d).slots k with
  | none => false
  | some x => newDesk (s.pointS x.point).area != d

/-- The point in slot `k` of desk `d`, 0 when it is empty. -/
def Part.pointIn (s : Part) (d k : Nat) : Nat := ((getAt (s.desk d).slots k).map (·.point)).getD 0

/-- R108, R110: the points in slots of desk `d` whose areas leave it have returned to the heads of their queues, those of one
queue in ascending slot order, and nothing else has changed. -/
def Part.ReturnsMade (s t : Part) (newDesk : Nat → Nat) (d : Nat) : Prop :=
  let gone := (numbers 4).filter (s.leaves newDesk d)
  t = { s with points := t.points, areas := t.areas, desks := t.desks }
  ∧ (∀ q ∈ numbers 1024, t.point q =
      if q ∈ gone.map (s.pointIn d) then { s.point q with placement := .queued } else s.point q)
  ∧ (∀ b ∈ numbers 16, t.area b = { s.area b with pend := (t.area b).pend }
      ∧ ∀ pr ∈ numbers 4, getAt (t.area b).pend pr =
          (gone.map (s.pointIn d)).filter (fun p => (s.pointS p).area = b ∧ (s.pointS p).priority = pr)
            ++ getAt (s.area b).pend pr)
  ∧ (∀ e ∈ numbers 6, t.desk e =
      if e = d then
        { s.desk e with
          slots := (t.desk e).slots, order := (s.desk e).order.filter fun k => decide (k ∉ gone) }
      else s.desk e)
  ∧ ∀ k ∈ numbers 4, getAt (t.desk d).slots k = if k ∈ gone then none else getAt (s.desk d).slots k

/-- R11, R108, R109: the board of `t`, whose presentation desks are the new ones, is that of `u` after every desk in turn gave
back what belongs to areas that leave it, and then every desk whose slots were emptied or whose areas changed was filled. -/
def Part.Reseated (u t : Part) : Prop :=
  let back := (numbers 6).foldl (fun v d => v.returnsAt (fun a => (t.area a).pdesk) d) u
  let seated := back.setPresentation fun a => ((t.area a).mode, (t.area a).pdesk)
  let filled := (numbers 6).filter fun d =>
    (numbers 16).any (fun a => ((u.area a).pdesk == d) != ((t.area a).pdesk == d))
      || (back.desk d).slots != (u.desk d).slots
  (filled.foldl Part.fill seated).SameBoard t

/-- R51, R52, R84: the board after point `p` of `s` entered UNACK with a new view number: it is placed, a flood entry defers the
queues above the cutoff, and its area's desk is filled when it waits in a pending queue. -/
def Part.boardOfEntry (s : Part) (p : Nat) (entered : Bool) : Part :=
  let u := (s.modPoint p fun x => { x with view := x.view + 1 }).place p
  let v := if entered then u.enterFlood (s.pointS p).area else u
  if (v.point p).placement = .queued then v.fill (s.area (s.pointS p).area).pdesk else v

/-! ### Conditions on points and desks -/

/-- Point `p` exists, is configured, and its area and priority are in range (R1, R187). -/
abbrev Part.InPlant (s : Part) (p : Nat) : Prop :=
  isPoint p = true ∧ (s.pointS p).configured = true ∧ isArea (s.pointS p).area = true
    ∧ (1 ≤ (s.pointS p).priority ∧ (s.pointS p).priority ≤ 4)

/-- R187, class 1: every configured point has its area and priority in range. -/
abbrev Part.PlantOk (s : Part) : Prop :=
  ∀ q ∈ numbers 1024, (s.pointS q).configured = true →
    isArea (s.pointS q).area = true ∧ 1 ≤ (s.pointS q).priority ∧ (s.pointS q).priority ≤ 4

/-- R56, R70, checks 1 to 4: desk `d` may act upon point `p` with a permission of its top layer. -/
abbrev Part.MayAct (s : Part) (d p : Nat) (perm : Perm) : Prop :=
  isDesk d = true ∧ s.InPlant p ∧ (s.desk d).signedOn ≠ 0
    ∧ allows (s.topLayer d) perm.set (s.pointS p).area = true ∧ (s.area (s.pointS p).area).pdesk = d

/-- R10: the presentation mode and desk of area `a`. -/
def Part.Presented (s : Part) (a : Nat) : Prop :=
  let f := (s.areaS a).fallback
  if (s.area a).responsible ≠ 0 then
    (s.area a).mode = .primary ∧ (s.area a).pdesk = getAt s.credDesk (s.area a).responsible
  else if f ≠ 0 ∧ (s.desk f).signedOn ≠ 0 ∧ allows (s.baseLayer f) Perm.ack.set a = true then
    (s.area a).mode = .fallback ∧ (s.area a).pdesk = f
  else (s.area a).mode = .unattended ∧ (s.area a).pdesk = 0

/-! ### Points and the places that hold them -/

/-- A PRESENTED placement names a desk and a slot of the part (R97). -/
def Placement.InRange : Placement → Prop
  | .presented d k => d ∈ numbers 6 ∧ k ∈ numbers 4
  | _ => True

/-- R1, R2, R4, R7, R69, R97, R99: every point is where its placement says and nowhere else, every queue, slot and shelf slot
holds only points that name it, every rotation order lists the 16 areas once each, and what the plant configures is in
range. -/
def Part.PointsInPlace (s : Part) : Prop :=
  s.PlantOk
  ∧ (∀ p ∈ numbers 1024,
      ((s.pointS p).configured = false → (s.point p).state = .normal)
      ∧ ((s.point p).placement = .none ↔ (s.point p).state.unacked = false)
      ∧ ((s.point p).shelfSlot = none ↔ (s.point p).state ≠ .shelved)
      ∧ ((s.point p).placement = .queued →
          p ∈ getAt (s.area (s.pointS p).area).pend (s.pointS p).priority)
      ∧ ((s.point p).placement = .deferred →
          p ∈ getAt (s.area (s.pointS p).area).defer (s.pointS p).priority)
      ∧ (∀ d ∈ numbers 6, ∀ k ∈ numbers 4, (s.point p).placement = .presented d k →
          ∃ x ∈ getAt (s.desk d).slots k, x.point = p)
      ∧ (∀ k ∈ numbers 96, (s.point p).shelfSlot = some k → ∃ x ∈ getAt s.shelf k, x.point = p))
  ∧ (∀ p ∈ numbers 1024, (∀ k ∈ (s.point p).shelfSlot, k ∈ numbers 96) ∧ (s.point p).placement.InRange)
  ∧ (∀ a ∈ numbers 16, ∀ pr ∈ numbers 4,
      (getAt (s.area a).pend pr).Nodup ∧ (getAt (s.area a).defer pr).Nodup
      ∧ (∀ p ∈ getAt (s.area a).pend pr, isPoint p = true ∧ (s.pointS p).configured = true ∧ (s.pointS p).area = a
          ∧ (s.pointS p).priority = pr ∧ (s.point p).placement = .queued)
      ∧ (∀ p ∈ getAt (s.area a).defer pr, isPoint p = true ∧ (s.pointS p).configured = true ∧ (s.pointS p).area = a
          ∧ (s.pointS p).priority = pr ∧ (s.point p).placement = .deferred))
  ∧ (∀ d ∈ numbers 6, (s.desk d).order.Nodup
      ∧ (∀ k ∈ numbers 4, (k ∈ (s.desk d).order ↔ getAt (s.desk d).slots k ≠ none)
          ∧ ∀ x ∈ getAt (s.desk d).slots k, isPoint x.point = true ∧ (s.pointS x.point).configured = true
              ∧ (s.point x.point).placement = .presented d k)
      ∧ (∀ k ∈ (s.desk d).order, k ∈ numbers 4)
      ∧ (s.desk d).rotation.Nodup ∧ (∀ a ∈ (s.desk d).rotation, a ∈ numbers 16)
      ∧ ∀ a ∈ numbers 16, a ∈ (s.desk d).rotation)
  ∧ (∀ k ∈ numbers 96, ∀ x ∈ getAt s.shelf k, isPoint x.point = true ∧ (s.pointS x.point).configured = true
      ∧ (s.point x.point).shelfSlot = some k)

/-- R9: the six counts of every area are the numbers of its configured points in each state, and of those DEFERRED. -/
def Part.CountsAgree (s : Part) : Prop :=
  ∀ a ∈ numbers 16,
    let mine := (numbers 1024).filter fun p => (s.pointS p).configured && (s.pointS p).area == a
    let held := fun (st : PointState) => (mine.filter fun p => (s.point p).state == st).length
    (s.area a).counts =
      { unack := held .unack + held .rtnUnack, acked := held .acked, shelved := held .shelved, removed := held .removed
        suppressed := held .suppressed, deferred := (mine.filter fun p => (s.point p).placement == .deferred).length }

/-! ### The alarm life cycle -/

/-- The load index of an area after the contribution of a priority (R81). -/
def Part.loadAfter (s : Part) (a pr : Nat) : Nat :=
  min 65535 ((s.area a).load + 64 * getAt s.live.plant.weights pr)

/-- R81: whether the contribution of point `p` takes its area into FLOOD. -/
def Part.floods (s : Part) (p : Nat) : Bool :=
  (s.area (s.pointS p).area).flood != .flood
    && (s.areaS (s.pointS p).area).high ≤ s.loadAfter (s.pointS p).area (s.pointS p).priority

/-- The records of a condition event: CONDITION, and FLOOD_ENTER where the event entered FLOOD (R54, R94). -/
def Part.conditionRecords (s : Part) (p value : Nat) (sig entered : Bool) : List JournalRecord :=
  let a := (s.pointS p).area
  let pr := (s.pointS p).priority
  let gen := if sig then (s.area a).generation + 1 else (s.area a).generation
  s.records ([(sig, gen, { kind := .condition, area := a, point := p, priority := pr, value := w16 value })]
    ++ if entered then
        [(true, gen,
          { kind := .floodEnter, area := a, point := p, priority := pr, value := w16 (s.loadAfter a pr)
            flags := if (s.area a).flood = .releasing then flagReflood else 0 })]
      else [])

/-- R43, R51, R81, R84: an active condition raised point `p` from NORMAL. -/
def Part.Raised (s t : Part) (p : Nat) : Prop :=
  let a := (s.pointS p).area
  let pr := (s.pointS p).priority
  let entered := s.floods p
  let sig := decide (pr ≤ (s.areaS a).review) || entered
  t.point p =
      { s.point p with
        state := .unack, shadow := true, view := (s.point p).view + 1, occurrences := 1, firstActive := some s.now
        lastChange := s.now, placement := (t.point p).placement }
  ∧ (t.point p).placement ≠ .none
  ∧ t.area a =
      { s.area a with
        load := s.loadAfter a pr
        flood := if entered then .flood else (s.area a).flood
        generation := if sig then (s.area a).generation + 1 else (s.area a).generation
        counts :=
          { (s.area a).counts with
            unack := (s.area a).counts.unack + 1, deferred := (t.area a).counts.deferred }
        pend := (t.area a).pend, defer := (t.area a).defer }
  ∧ ((s.area a).flood = .flood ∧ (s.areaS a).cutoff < pr →
      (t.point p).placement = .deferred ∧ (t.area a).pend = (s.area a).pend
        ∧ (t.area a).defer = modAt (s.area a).defer pr (· ++ [p])
        ∧ (t.area a).counts.deferred = (s.area a).counts.deferred + 1)
  ∧ (entered = false → ¬((s.area a).flood = .flood ∧ (s.areaS a).cutoff < pr) → (s.area a).pdesk = 0 →
      (t.point p).placement = .queued ∧ (t.area a).pend = modAt (s.area a).pend pr (· ++ [p])
        ∧ (t.area a).defer = (s.area a).defer)
  ∧ (entered = true → ∀ k ∈ numbers 4, (s.areaS a).cutoff < k →
      getAt (t.area a).defer k
        = getAt (s.area a).defer k ++ getAt (s.area a).pend k ++ (if k = pr then [p] else []))
  ∧ (s.boardOfEntry p entered).SameBoard t
  ∧ s.Wrote t (s.conditionRecords p 257 sig entered)
  ∧ s.Noticed t a sig ∧ t.shelf = s.shelf ∧ s.MoveFrame t p a (s.area a).pdesk
  ∧ t.Told (pointEntry p) ∧ t.Told (areaEntry a)

/-- R46, R53, R81: an active condition raised point `p` again from RTN_UNACK. -/
def Part.RaisedAgain (s t : Part) (p : Nat) : Prop :=
  let a := (s.pointS p).area
  let pr := (s.pointS p).priority
  let entered := s.floods p
  let sig := decide (pr ≤ (s.areaS a).review) || entered
  t.point p =
      { s.point p with
        state := .unack, shadow := true, view := (s.point p).view + 1
        occurrences := min 255 ((s.point p).occurrences + 1), lastChange := s.now
        placement := (t.point p).placement }
  ∧ t.area a =
      { s.area a with
        load := s.loadAfter a pr
        flood := if entered then .flood else (s.area a).flood
        generation := if sig then (s.area a).generation + 1 else (s.area a).generation
        counts :=
          { (s.area a).counts with
            unack := (s.area a).counts.unack - 1 + 1, deferred := (t.area a).counts.deferred }
        pend := (t.area a).pend, defer := (t.area a).defer }
  ∧ (entered = false →
      (t.point p).placement = (s.point p).placement ∧ (t.area a).pend = (s.area a).pend
        ∧ (t.area a).defer = (s.area a).defer ∧ (t.area a).counts.deferred = (s.area a).counts.deferred)
  ∧ (entered = true → ∀ k ∈ numbers 4,
      getAt (t.area a).pend k = (if (s.areaS a).cutoff < k then [] else getAt (s.area a).pend k)
      ∧ getAt (t.area a).defer k =
          getAt (s.area a).defer k ++ (if (s.areaS a).cutoff < k then getAt (s.area a).pend k else []))
  ∧ (entered = true → s.PointsInPlace → (t.point p).placement =
      if (s.point p).placement = .queued ∧ (s.areaS a).cutoff < pr then .deferred else (s.point p).placement)
  ∧ (if entered then s.enterFlood a else s).SameBoard t
  ∧ (entered = true → ∀ k ∈ numbers 4, (s.areaS a).cutoff < k → ∀ q ∈ getAt (s.area a).pend k, isPoint q = true →
      (t.point q).placement = .deferred)
  ∧ s.Wrote t (s.conditionRecords p 257 sig entered)
  ∧ s.Noticed t a sig ∧ t.shelf = s.shelf ∧ s.MoveFrame t p a 0
  ∧ t.Told (pointEntry p)

/-- R44: a clear condition took point `p` from UNACK to RTN_UNACK. -/
def Part.ClearedUnacked (s t : Part) (p : Nat) : Prop :=
  let a := (s.pointS p).area
  let sig := decide ((s.pointS p).priority ≤ (s.areaS a).review)
  t.point p =
      { s.point p with
        state := .rtnUnack, shadow := false, view := (s.point p).view + 1, lastChange := s.now }
  ∧ t.area a =
      { s.area a with
        generation := if sig then (s.area a).generation + 1 else (s.area a).generation
        counts := { (s.area a).counts with unack := (s.area a).counts.unack - 1 + 1 } }
  ∧ s.Wrote t (s.conditionRecords p 3 sig false)
  ∧ s.Noticed t a sig ∧ t.shelf = s.shelf ∧ s.StillFrame t p a ∧ t.Told (pointEntry p)

/-- R45: a clear condition took point `p` from ACKED to NORMAL. -/
def Part.ClearedAcked (s t : Part) (p : Nat) : Prop :=
  let a := (s.pointS p).area
  let sig := decide ((s.pointS p).priority ≤ (s.areaS a).review)
  t.point p =
      { s.point p with
        state := .normal, shadow := false, occurrences := 0, firstActive := none, lastChange := s.now }
  ∧ t.area a =
      { s.area a with
        generation := if sig then (s.area a).generation + 1 else (s.area a).generation
        counts := { (s.area a).counts with acked := (s.area a).counts.acked - 1 } }
  ∧ s.Wrote t (s.conditionRecords p 0 sig false)
  ∧ s.Noticed t a sig ∧ t.shelf = s.shelf ∧ s.StillFrame t p a ∧ t.Told (pointEntry p)

/-- R47: a condition changed the shadow alone of point `p`. -/
def Part.Shadowed (s t : Part) (p : Nat) (active : Bool) : Prop :=
  t.point p = { s.point p with shadow := active, lastChange := s.now }
  ∧ s.Wrote t (s.conditionRecords p ((if active then 256 else 0) + (s.point p).state.code) false false)
  ∧ t.areas = s.areas ∧ t.shelf = s.shelf ∧ t.sessions = s.sessions
  ∧ s.StillFrame t p (s.pointS p).area ∧ t.Told (pointEntry p)

/-- R87, R94: the RELEASE record of a withdrawal that left a RELEASING area CALM. The significant flag follows R13 where the
table of R94 leaves it out (log 8). -/
def releaseOfWithdrawal (a : Nat) (sig : Bool) (gen : W16) : Bool × W16 × RecordFields :=
  (sig, gen, { kind := .release, area := a, flags := flagCalmReached })

/-- R9, R87: area `a` after its point `p` left state `st` for one counted by `inc`: the counts, the deferred queue when the
point stood there, and CALM when that emptied a RELEASING area; `gen` is the new generation. -/
def Part.AreaAfterLeaving (s t : Part) (p : Nat) (st : PointState) (gen : W16) : Prop :=
  let a := (s.pointS p).area
  let held := decide ((s.point p).placement = .deferred)
  let c := (s.area a).counts
  t.area a =
      { s.area a with
        generation := gen
        counts :=
          (({ c with deferred := if held then c.deferred - 1 else c.deferred } : Counts).dec (s.point p).state).inc st
        flood :=
          if (s.area a).flood = .releasing ∧ (t.area a).nothingDeferred = true then .calm else (s.area a).flood
        pend := (t.area a).pend
        defer := if held then modAt (s.area a).defer (s.pointS p).priority (·.erase p) else (s.area a).defer }
  ∧ ((s.point p).placement = .queued →
      (t.area a).pend = modAt (s.area a).pend (s.pointS p).priority (·.erase p))

/-- R57 to R59: point `p` was acknowledged through desk `d`. -/
def Part.Acknowledged (s t : Part) (d p : Nat) (button : Bool) : Prop :=
  let a := (s.pointS p).area
  let target : PointState := if (s.point p).state = .unack then .acked else .normal
  let sig := decide ((s.pointS p).priority ≤ (s.areaS a).review)
  let gen := if sig then (s.area a).generation + 1 else (s.area a).generation
  t.point p =
      { s.point p with
        state := target, occurrences := 0, lastChange := s.now
        firstActive := if target = .normal then none else (s.point p).firstActive
        placement := (t.point p).placement }
  ∧ (s.shownAt p = 0 ∨ s.PointsInPlace → (t.point p).placement = .none)
  ∧ ((s.withdraw p).fill (s.shownAt p)).SameBoard t
  ∧ s.AreaAfterLeaving t p target gen
  ∧ s.Wrote t (s.records ([(sig, gen,
        { kind := .ack, area := a, desk := d, credential := (s.desk d).signedOn, point := p
          priority := (s.pointS p).priority, value := w16 ((if button then 256 else 0) + target.code) })]
      ++ if (s.area a).flood = .releasing ∧ (t.area a).nothingDeferred = true then
          [releaseOfWithdrawal a sig gen] else []))
  ∧ s.Noticed t a sig ∧ t.shelf = s.shelf ∧ s.MoveFrame t p a (s.shownAt p)
  ∧ t.Told (pointEntry p) ∧ ((s.area a).counts.unack ≠ 0 → t.Told (areaEntry a))

/-! ### Suppression groups -/

/-- R15, R16: whether a GROUP event changes the state of point `q`. -/
def Part.groupMoves (s : Part) (g : Nat) (on : Bool) (q : Nat) : Bool :=
  isPoint q && (s.pointS q).configured && (s.pointS q).group == g
    && (if on then
          (s.point q).state == .normal || (s.point q).state == .unack || (s.point q).state == .acked
            || (s.point q).state == .rtnUnack
        else (s.point q).state == .suppressed)

/-- R15, R16: a member after the event, apart from its placement. -/
def Point.regrouped (x : Point) (on : Bool) (now : W32) : Point :=
  if on then { x with state := .suppressed, lastChange := now }
  else if x.shadow then
    { x with state := .unack, view := x.view + 1, occurrences := 1, firstActive := some now, lastChange := now }
  else { x with state := .normal, occurrences := 0, firstActive := none, lastChange := now }

/-- R14 to R18: group `g` was switched. -/
def Part.GroupSwitched (s t : Part) (g : Nat) (on : Bool) : Prop :=
  let moved := (numbers 1024).filter (s.groupMoves g on)
  let touched := (numbers 16).filter fun a => moved.any fun q => (s.pointS q).area == a
  let calmed := touched.filter fun a => (s.area a).flood == .releasing && (t.area a).nothingDeferred
  let switched := moved.foldl (fun v q =>
    if on then v.withdraw q
    else if (s.point q).shadow then (v.modPoint q fun x => { x with view := x.view + 1 }).place q
    else v) s
  let filled := (numbers 6).filter fun d =>
    touched.any (fun a => (s.area a).pdesk == d) || (switched.desk d).slots != (s.desk d).slots
  t.groups = setAt s.groups g on
  ∧ (∀ q ∈ numbers 1024, t.point q =
      { (if s.groupMoves g on q then (s.point q).regrouped on s.now else s.point q) with
        placement := (t.point q).placement })
  ∧ (∀ a ∈ numbers 16, t.area a =
      { s.area a with
        generation := if a ∈ touched then (s.area a).generation + 1 else (s.area a).generation
        flood := if a ∈ calmed then .calm else (s.area a).flood
        counts := (t.area a).counts, pend := (t.area a).pend, defer := (t.area a).defer })
  ∧ (filled.foldl Part.fill switched).SameBoard t
  ∧ s.Wrote t (s.records
      ([(false, 0, { kind := .group, value := w16 (256 * g + (if on then 1 else 0)) })]
        ++ moved.map (fun q => (true, (s.area (s.pointS q).area).generation + 1,
            { kind := .state, area := (s.pointS q).area, point := q, priority := (s.pointS q).priority
              value := w16 ((s.point q).regrouped on s.now).state.code
              flags := if (s.point q).state.unacked then flagAckDropped else 0 }))
        ++ calmed.map fun a => releaseOfWithdrawal a true ((s.area a).generation + 1)))
  ∧ (∀ n ∈ numbers 4, t.session n =
      touched.foldl (fun x a => if (s.area a).session = n then x.notice a else x) (s.session n))
  ∧ s.Fixed t ∧ t.credDesk = s.credDesk ∧ t.shelf = s.shelf ∧ (∀ d ∈ numbers 6, s.DeskMoved t d)
  ∧ (∀ q ∈ moved, t.Told (pointEntry q)) ∧ ∀ a ∈ touched, t.Told (areaEntry a)

/-! ### The desks -/

/-- R122: desk `d` was silenced. -/
def Part.Silenced (s t : Part) (d : Nat) : Prop :=
  t.desk d =
      { s.desk d with
        slots := (s.desk d).slots.map fun o => o.map fun y => { y with silenced := true }
        hold := { remaining := (getAt s.live.desks d).holdTime, due := false }
        horn := .silenced, hornPattern := 0 }
  ∧ s.WroteAnd t [] [deskEntry d] ∧ s.Fixed t ∧ s.PeopleKept t ∧ t.points = s.points ∧ t.areas = s.areas
  ∧ t.shelf = s.shelf ∧ t.sessions = s.sessions ∧ (∀ e ∈ numbers 6, e ≠ d → s.DeskKept t e) ∧ t.Told (deskEntry d)

/-- A record alone was written. -/
def Part.OnlyWrote (s t : Part) (l : List JournalRecord) : Prop := s.Wrote t l ∧ s.RecordFrame t

/-! ### Shelving -/

/-- R71: point `p` was shelved through desk `d` in slot `k`. -/
def Part.Shelved (s t : Part) (d p granted k : Nat) : Prop :=
  let a := (s.pointS p).area
  let gen := (s.area a).generation + 1
  t.shelf = setAt s.shelf k (some { point := p, desk := d, timer := { remaining := granted * 60, due := false } })
  ∧ t.point p =
      { s.point p with
        state := .shelved, lastChange := s.now, shelfSlot := some k, placement := (t.point p).placement }
  ∧ (s.shownAt p = 0 ∨ s.PointsInPlace → (t.point p).placement = .none)
  ∧ ((s.withdraw p).fill (s.shownAt p)).SameBoard t
  ∧ s.AreaAfterLeaving t p .shelved gen
  ∧ s.Wrote t (s.records ([(true, gen,
        { kind := .shelve, area := a, desk := d, credential := (s.desk d).signedOn, point := p
          priority := (s.pointS p).priority, value := w16 granted
          flags := if (s.point p).state.unacked then flagAckDropped else 0 })]
      ++ if (s.area a).flood = .releasing ∧ (t.area a).nothingDeferred = true then
          [releaseOfWithdrawal a true gen] else []))
  ∧ s.Noticed t a true ∧ s.MoveFrame t p a (s.shownAt p) ∧ t.Told (pointEntry p) ∧ t.Told (areaEntry a)

/-- R72: the shelving of point `p` in slot `k` was extended through desk `d`. -/
def Part.Extended (s t : Part) (d p granted k : Nat) : Prop :=
  let a := (s.pointS p).area
  let gen := (s.area a).generation + 1
  t.shelf = setAt s.shelf k (some { point := p, desk := d, timer := { remaining := granted * 60, due := false } })
  ∧ t.point p = { s.point p with lastChange := s.now }
  ∧ t.area a = { s.area a with generation := gen }
  ∧ s.WroteAnd t (s.records [(true, gen,
        { kind := .shelve, area := a, desk := d, credential := (s.desk d).signedOn, point := p
          priority := (s.pointS p).priority, value := w16 granted, flags := flagExtension })]) [pointEntry p]
  ∧ s.Noticed t a true ∧ s.StillFrame t p a ∧ t.Told (pointEntry p) ∧ t.Told (areaEntry a)

/-- R73: a point that returns to service, apart from its placement; `held` says that its group holds it. -/
def Point.returned (x : Point) (held : Bool) (now : W32) : Point :=
  if held then { x with state := .suppressed, lastChange := now, shelfSlot := none }
  else if x.shadow then
    { x with
      state := .unack, view := x.view + 1, occurrences := 1, firstActive := some now, lastChange := now
      shelfSlot := none }
  else { x with state := .normal, occurrences := 0, firstActive := none, lastChange := now, shelfSlot := none }

/-- R73 to R75, R78: point `p` returned to service; the record is of kind `kind` and names a desk and a credential. -/
def Part.Returned (s t : Part) (kind : JKind) (d c p : Nat) : Prop :=
  let a := (s.pointS p).area
  let pr := (s.pointS p).priority
  let held := (s.pointS p).group != 0 && getAt s.groups (s.pointS p).group
  let x := (s.point p).returned held s.now
  let gen := (s.area a).generation + 1
  t.point p = { x with placement := (t.point p).placement }
  ∧ (x.state ≠ .unack → (s.point p).placement = .none → (t.point p).placement = .none)
  ∧ (x.state = .unack → (t.point p).placement ≠ .none)
  ∧ (∀ k ∈ numbers 96, getAt t.shelf k = if (s.point p).shelfSlot = some k then none else getAt s.shelf k)
  ∧ t.area a =
      { s.area a with
        generation := gen
        counts :=
          { ((s.area a).counts.dec (s.point p).state).inc x.state with deferred := (t.area a).counts.deferred }
        pend := (t.area a).pend, defer := (t.area a).defer }
  ∧ (x.state = .unack ∧ (s.area a).flood = .flood ∧ (s.areaS a).cutoff < pr →
      (t.point p).placement = .deferred ∧ (t.area a).pend = (s.area a).pend
        ∧ (t.area a).defer = modAt (s.area a).defer pr (· ++ [p])
        ∧ (t.area a).counts.deferred = (s.area a).counts.deferred + 1)
  ∧ (x.state = .unack ∧ ¬((s.area a).flood = .flood ∧ (s.areaS a).cutoff < pr) ∧ (s.area a).pdesk = 0 →
      (t.point p).placement = .queued ∧ (t.area a).pend = modAt (s.area a).pend pr (· ++ [p])
        ∧ (t.area a).defer = (s.area a).defer)
  ∧ (if x.state = .unack then s.boardOfEntry p false
      else if (s.point p).placement = .queued then s.fill (s.area a).pdesk else s).SameBoard t
  ∧ s.Wrote t (s.records [(true, gen,
        { kind := kind, area := a, desk := d, credential := c, point := p, priority := pr
          value := w16 x.state.code })])
  ∧ s.Noticed t a true ∧ s.MoveFrame t p a (s.area a).pdesk ∧ t.Told (pointEntry p) ∧ t.Told (areaEntry a)

/-- R77: point `p` was taken out of service through desk `d`. -/
def Part.Removed (s t : Part) (d p : Nat) : Prop :=
  let a := (s.pointS p).area
  let gen := (s.area a).generation + 1
  (∀ k ∈ numbers 96, getAt t.shelf k = if (s.point p).shelfSlot = some k then none else getAt s.shelf k)
  ∧ t.point p =
      { s.point p with
        state := .removed, lastChange := s.now, shelfSlot := none, placement := (t.point p).placement }
  ∧ (s.shownAt p = 0 ∨ s.PointsInPlace → (t.point p).placement = .none)
  ∧ ((s.withdraw p).fill (s.shownAt p)).SameBoard t
  ∧ s.AreaAfterLeaving t p .removed gen
  ∧ s.Wrote t (s.records ([(true, gen,
        { kind := .remove, area := a, desk := d, credential := (s.desk d).signedOn, point := p
          priority := (s.pointS p).priority, value := w16 (s.point p).state.code
          flags := if (s.point p).state.unacked then flagAckDropped else 0 })]
      ++ if (s.area a).flood = .releasing ∧ (t.area a).nothingDeferred = true then
          [releaseOfWithdrawal a true gen] else []))
  ∧ s.Noticed t a true ∧ s.MoveFrame t p a (s.shownAt p) ∧ t.Told (pointEntry p) ∧ t.Told (areaEntry a)

/-! ### Flood control -/

/-- R86: how many of `n` releases fall to the deferred queue of priority `k`: the more urgent queues go first. -/
def Area.share (x : Area) (n k : Nat) : Nat :=
  min (getAt x.defer k).length (n - (((numbers 4).filter (· < k)).map fun j => (getAt x.defer j).length).sum)

/-- R86, R92: the board of `s` after `n` points of area `a` left the heads of their deferred queues for the tails of their
pending queues. -/
def Part.boardOfRelease (s : Part) (a n : Nat) : Part :=
  let x := s.area a
  let freed := fun k => (getAt x.defer k).take (x.share n k)
  ((numbers 4).flatMap freed).foldl (fun v q => v.modPoint q fun y => { y with placement := .queued })
    (s.modArea a fun y =>
      { y with
        pend := #v[getAt x.pend 1 ++ freed 1, getAt x.pend 2 ++ freed 2, getAt x.pend 3 ++ freed 3,
          getAt x.pend 4 ++ freed 4]
        defer := #v[(getAt x.defer 1).drop (x.share n 1), (getAt x.defer 2).drop (x.share n 2),
          (getAt x.defer 3).drop (x.share n 3), (getAt x.defer 4).drop (x.share n 4)]
        counts := { y.counts with deferred := y.counts.deferred - n } })

/-- R86, R92: `n` points of area `a` were released, the heads of the most urgent deferred queues first, and then its desk was
filled. -/
def Part.ReleasedFrom (s t : Part) (a n : Nat) : Prop :=
  (if n = 0 then s else (s.boardOfRelease a n).fill (s.area a).pdesk).SameBoard t
  ∧ (t.area a).deferredTotal = (s.area a).deferredTotal - n
  ∧ (t.area a).counts = { (s.area a).counts with deferred := (s.area a).counts.deferred - n }
  ∧ ∀ q ∈ numbers 1024, (t.point q).placement ≠ (s.point q).placement → (t.point q).placement ≠ .none
      ∧ (t.point q).placement ≠ .deferred

/-- R82, R83, R86, R87: area `a` took a 1 s tick. -/
def Part.LoadTicked (s t : Part) (a : Nat) : Prop :=
  let l := (s.area a).load - ((s.area a).load + 15) / 16
  let exits := (s.area a).flood == .flood && decide (l ≤ (s.areaS a).low)
  let total := (s.area a).deferredTotal
  let releases := (exits || (s.area a).flood == .releasing) && total != 0
  let n := if releases then min (s.areaS a).releaseRate total else 0
  let gen := if exits then (s.area a).generation + 1 else (s.area a).generation
  let calm := releases && n == total
  t.area a =
      { s.area a with
        load := l
        flood := if calm || exits && total == 0 then .calm else if exits then .releasing else (s.area a).flood
        generation := gen, counts := (t.area a).counts, pend := (t.area a).pend, defer := (t.area a).defer }
  ∧ s.ReleasedFrom t a n
  ∧ (n = 0 → (t.area a).pend = (s.area a).pend ∧ (t.area a).defer = (s.area a).defer)
  ∧ s.Wrote t (s.records
      ((if exits then
          [(true, gen,
            { kind := .floodExit, area := a, value := w16 l, flags := if total = 0 then 0 else flagReleasing })]
        else [])
      ++ if n = 0 then []
        else
          [(exits, gen,
            { kind := .release, area := a, value := w16 n, flags := if calm then flagCalmReached else 0 })]))
  ∧ s.Noticed t a exits ∧ t.shelf = s.shelf ∧ s.MoveFrame t 0 a (if n = 0 then 0 else (s.area a).pdesk)
  ∧ (exits = true ∨ n ≠ 0 ∧ (s.area a).counts.deferred ≠ 0 → t.Told (areaEntry a))

/-- R92: every deferred point of area `a` was released through desk `d`. -/
def Part.ForciblyReleased (s t : Part) (d a : Nat) : Prop :=
  let total := (s.area a).deferredTotal
  let calm := (s.area a).flood == .releasing
  t.area a =
      { s.area a with
        flood := if calm then .calm else (s.area a).flood
        counts := (t.area a).counts, pend := (t.area a).pend, defer := (t.area a).defer }
  ∧ (t.area a).nothingDeferred = true
  ∧ s.ReleasedFrom t a total
  ∧ (∀ pr ∈ numbers 4, ∀ q ∈ getAt (s.area a).defer pr, isPoint q = true →
      (t.point q).placement ≠ .deferred ∧ (t.point q).placement ≠ .none)
  ∧ s.Wrote t (s.records [(false, (s.area a).generation,
        { kind := .release, area := a, desk := d, credential := (s.desk d).signedOn, value := w16 total
          flags := flagForced ||| (if calm then flagCalmReached else 0) })])
  ∧ t.sessions = s.sessions ∧ t.shelf = s.shelf ∧ s.MoveFrame t 0 a (s.area a).pdesk

/-! ### Authority and presentation -/

/-- R11, R109: what a recomputation of presentation desks can move: placements, pending queues, presentation desks and
modes, slots and orders. `resp` and `sess` give what the event's own rule makes of responsibility and session fields. -/
def Part.PresentFrame (s t : Part) (resp : Nat → Nat) (sess : Nat → Nat) (gen : Nat → W16) : Prop :=
  (∀ q ∈ numbers 1024, t.point q = { s.point q with placement := (t.point q).placement })
  ∧ (∀ a ∈ numbers 16, t.area a =
      { s.area a with
        responsible := resp a, session := sess a, generation := gen a
        pdesk := (t.area a).pdesk, mode := (t.area a).mode, pend := (t.area a).pend })
  ∧ (∀ a ∈ numbers 16, t.Presented a)
  ∧ t.resetLow = s.resetLow ∧ t.phase = s.phase ∧ t.tset = s.tset ∧ t.groups = s.groups ∧ t.shelf = s.shelf

/-- What an event leaves of a desk whose sign-on and stack it may change. -/
def Part.DeskReseated (s t : Part) (d signedOn : Nat) (stack : List Layer) : Prop :=
  t.desk d =
    { s.desk d with
      signedOn := signedOn, stack := stack
      slots := (t.desk d).slots, order := (t.desk d).order, rotation := (t.desk d).rotation
      horn := (t.desk d).horn, hornPattern := (t.desk d).hornPattern }
  ∧ s.HornMoved t d

/-- R24: credential `c` signed on at desk `d`. -/
def Part.SignedOn (s t : Part) (d c : Nat) : Prop :=
  t.credDesk = setAt s.credDesk c d
  ∧ s.DeskReseated t d c [{ perms := s.effPerms c, scope := (s.cred c).scope, elev := none }]
  ∧ (∀ e ∈ numbers 6, e ≠ d → s.DeskMoved t e)
  ∧ s.PresentFrame t (fun a => (s.area a).responsible) (fun a => (s.area a).session) (fun a => (s.area a).generation)
  ∧ s.Reseated t
  ∧ t.live = s.live ∧ t.staged = s.staged ∧ t.sessions = s.sessions
  ∧ s.Wrote t (s.records [(false, 0, { kind := .signOn, desk := d, credential := c })])
  ∧ t.Told (authorityEntry d) ∧ t.Told (deskEntry d)

/-- The sessions that an event abandons, ascending: those not IDLE that a test names (R149). -/
def Part.abandoned (s : Part) (f : Session → Bool) : List Nat :=
  (numbers 4).filter fun n => (s.session n).state != .idle && f (s.session n)

/-- The session field of an area after those sessions were abandoned. -/
def Part.sessionAfter (s : Part) (l : List Nat) (a : Nat) : Nat :=
  if l.any fun n => (s.session n).areas.contains a then 0 else (s.area a).session

/-- The HANDOVER_ABANDONED records of those sessions (R149, R151). -/
def Part.abandonRecords (s : Part) (l : List Nat) (reason desk : Nat) : List (Bool × W16 × RecordFields) :=
  l.map fun n => (false, 0,
    { kind := .handoverAbandoned, desk := desk, credential := (s.session n).outgoing, value := w16 (256 * reason + n) })

/-- R25: desk `d` was signed off. -/
def Part.SignedOff (s t : Part) (d : Nat) : Prop :=
  let c := (s.desk d).signedOn
  let gone := s.abandoned fun x => x.incoming == c
  t.credDesk = setAt s.credDesk c 0
  ∧ s.DeskReseated t d 0 [] ∧ (∀ e ∈ numbers 6, e ≠ d → s.DeskMoved t e)
  ∧ s.PresentFrame t (fun a => (s.area a).responsible) (s.sessionAfter gone) (fun a => (s.area a).generation)
  ∧ (s.returnsAt (fun _ => 0) d).Reseated t
  ∧ (∀ n ∈ numbers 4, t.session n = if n ∈ gone then Session.idle else s.session n)
  ∧ t.live = s.live ∧ t.staged = s.staged
  ∧ s.Wrote t (s.records (s.abandonRecords gone 4 d
      ++ [(false, 0, { kind := .signOff, desk := d, credential := c, value := 1 })]))
  ∧ t.Told (authorityEntry d) ∧ t.Told (deskEntry d)

/-- The stack of desk `d` became `stack`, and nothing else of authority, presentation or alarms changed (R30). -/
def Part.Restacked (s t : Part) (d : Nat) (stack : List Layer) : Prop :=
  t.desk d =
      { s.desk d with stack := stack, horn := (t.desk d).horn, hornPattern := (t.desk d).hornPattern }
  ∧ ((s.desk d).HornOk → t.desk d = { s.desk d with stack := stack }) ∧ s.HornMoved t d
  ∧ s.Fixed t ∧ s.PeopleKept t ∧ t.points = s.points ∧ t.areas = s.areas ∧ t.shelf = s.shelf ∧ t.sessions = s.sessions
  ∧ (∀ e ∈ numbers 6, e ≠ d → s.DeskKept t e) ∧ t.Told (authorityEntry d)

/-- R29: the LAYER_END records of the layers from `n` up, from the top down, with `reason` for layer `n`. -/
def layerEnds (d n reason : Nat) (stack : List Layer) : List (Bool × W16 × RecordFields) :=
  ((stack.zipIdx 1).drop (n - 1)).reverse.map fun x => (false, 0,
    { kind := .layerEnd, desk := d, credential := (x.1.elev.map (·.grantor)).getD 0
      value := if x.2 = n then w16 reason else 3 })

/-- R33: credential `c` of desk `d` became responsible for area `a`, by the first success of its request. -/
def Part.Assumed (s t : Part) (d a : Nat) : Prop :=
  let c := (s.desk d).signedOn
  s.PresentFrame t (fun b => if b = a then c else (s.area b).responsible) (fun b => (s.area b).session)
      (fun b => if b = a then (s.area b).generation + 1 else (s.area b).generation)
  ∧ (∀ e ∈ numbers 6, s.DeskMoved t e)
  ∧ s.Reseated t
  ∧ t.credDesk = s.credDesk ∧ t.live = s.live ∧ t.staged = s.staged ∧ t.sessions = s.sessions
  ∧ s.WroteAnd t (s.records [(true, (s.area a).generation + 1,
        { kind := .assume, area := a, desk := d, credential := c })]) [authorityEntry d]
  ∧ t.Told (areaEntry a) ∧ t.Told (authorityEntry d)

/-- R29, R37: the stack of a desk after the layers granted by `c` went, each with those above it. -/
def withoutGrants (c : Nat) (stack : List Layer) : List Layer :=
  stack.takeWhile fun l => (l.elev.map (·.grantor)) != some c

/-- R37, step 3: the LAYER_END records of a revocation at desk `e`. -/
def grantRecords (c e : Nat) (stack : List Layer) : List (Bool × W16 × RecordFields) :=
  if (withoutGrants c stack).length = stack.length then []
  else layerEnds e ((withoutGrants c stack).length + 1) 4 stack

/-- R37: credential `c` was revoked from desk `d`. -/
def Part.Revoked (s t : Part) (d c : Nat) : Prop :=
  let gone := s.abandoned fun x => x.outgoing == c || x.incoming == c
  let held := (numbers 16).filter fun a => (s.area a).responsible == c
  let seat := getAt s.credDesk c
  s.PresentFrame t (fun a => if (s.area a).responsible = c then 0 else (s.area a).responsible) (s.sessionAfter gone)
      (fun a => if (s.area a).responsible = c then (s.area a).generation + 1 else (s.area a).generation)
  ∧ (∀ n ∈ numbers 4, t.session n = if n ∈ gone then Session.idle else s.session n)
  ∧ (∀ e ∈ numbers 6, if e = seat then s.DeskReseated t e 0 []
      else s.DeskReseated t e (s.desk e).signedOn (withoutGrants c (s.desk e).stack))
  ∧ (if seat = 0 then s else s.returnsAt (fun _ => 0) seat).Reseated t
  ∧ t.credDesk = (if seat = 0 then s.credDesk else setAt s.credDesk c 0)
  ∧ t.live = { s.live with creds := setAt s.live.creds c Credential.vacant }
  ∧ t.staged = { s.staged with creds := setAt s.staged.creds c Credential.vacant }
  ∧ s.Wrote t (s.records (s.abandonRecords gone 5 d
      ++ held.map (fun a => (true, (s.area a).generation + 1, { kind := .assume, area := a, desk := d, value := 2 }))
      ++ (numbers 6).flatMap (fun e => grantRecords c e (s.desk e).stack)
      ++ if seat = 0 then [] else [(false, 0, { kind := .signOff, desk := seat, credential := c, value := 2 })]))

/-- R35: the stack of a desk built again over a new base layer. -/
def RebuiltOver (base : Layer) (old new : List Layer) : Prop :=
  new.length = old.length ∧ new[0]? = some base
  ∧ ∀ i ∈ List.range 3, ∀ below ∈ new[i]?, ∀ x ∈ old[i + 1]?, ∀ e ∈ x.elev,
      new[i + 1]? =
        some { perms := below.perms ||| e.grantPerms, scope := below.scope ||| e.grantScope, elev := some e }

/-- R35: credential `c` was edited to `x`. -/
def Part.Edited (s t : Part) (c : Nat) (x : Credential) : Prop :=
  let d := getAt s.credDesk c
  let base : Layer := { perms := effectivePerms (getAt s.live.roles x.role) x, scope := x.scope, elev := none }
  t.live = { s.live with creds := setAt s.live.creds c x }
  ∧ t.staged = { s.staged with creds := setAt s.staged.creds c x }
  ∧ (∀ e ∈ numbers 6, e ≠ d → s.DeskMoved t e)
  ∧ (d ≠ 0 → s.DeskReseated t d (s.desk d).signedOn (t.desk d).stack
      ∧ RebuiltOver base (s.desk d).stack (t.desk d).stack ∧ t.Told (authorityEntry d))
  ∧ s.PresentFrame t (fun a => (s.area a).responsible) (fun a => (s.area a).session) (fun a => (s.area a).generation)
  ∧ s.Reseated t
  ∧ t.credDesk = s.credDesk ∧ t.sessions = s.sessions ∧ s.WroteAnd t [] (if d = 0 then [] else [authorityEntry d])

/-! ### Handover -/

/-- R137: desk `d` sends as a party of the session `n`, which is not IDLE. -/
abbrev Part.PartyAt (s : Part) (d n : Nat) (q : Party) : Prop :=
  isDesk d = true ∧ 1 ≤ n ∧ n ≤ 4 ∧ (s.desk d).signedOn ≠ 0 ∧ (s.session n).state ≠ .idle
    ∧ (s.desk d).signedOn = (s.session n).party q

/-- R133: area `a` has exactly one entry in session `n`, and it is `e`. -/
abbrev Part.EntryIs (s : Part) (n a : Nat) (e : ReviewEntry) : Prop :=
  isArea a = true ∧ ((s.session n).entries.filter fun x => x.area == a) = [e]

/-- Session `n` became `x`, with records `l`; nothing else but the link and the reports changed. -/
def Part.SessionBecame (s t : Part) (n : Nat) (x : Session) (l : List JournalRecord) : Prop :=
  (∀ m ∈ numbers 4, t.session m = if m = n then x else s.session m)
  ∧ s.Wrote t l ∧ s.Fixed t ∧ s.PeopleKept t ∧ t.points = s.points ∧ t.areas = s.areas ∧ t.shelf = s.shelf
  ∧ ∀ d ∈ numbers 6, s.DeskKept t d

/-- R136: a session was created. -/
def Part.OfferMade (s t : Part) (d c n : Nat) (l : List Nat) : Prop :=
  let areas := (numbers 16).filter fun a => l.contains a
  (∀ m ∈ numbers 4, t.session m =
      if m = n then
        { state := .offered, outgoing := (s.desk d).signedOn, incoming := c, accepted := false, handedOff := false
          timer := { remaining := s.live.plant.offerTime, due := false }, started := s.now
          entries := areas.map fun a =>
            { area := a, sweep := .notStarted, cursor := s.firstPoint a, snapGen := 0, snapSeq := 0, deltaCursor := 0
              confGen := 0 } }
      else s.session m)
  ∧ (∀ a ∈ numbers 16, t.area a = { s.area a with session := if l.contains a then n else (s.area a).session })
  ∧ s.Wrote t (s.records (areas.map fun a => (false, (s.area a).generation,
        { kind := .handoverOffer, area := a, desk := d, credential := c, value := w16 n })))
  ∧ s.Fixed t ∧ s.PeopleKept t ∧ t.points = s.points ∧ t.shelf = s.shelf ∧ (∀ e ∈ numbers 6, s.DeskKept t e)
  ∧ t.Told (sessionEntry n)

/-- R149: session `n` was abandoned for a reason, from a desk. -/
def Part.Abandoned (s t : Part) (n reason desk : Nat) : Prop :=
  (∀ m ∈ numbers 4, t.session m = if m = n then Session.idle else s.session m)
  ∧ (∀ a ∈ numbers 16, t.area a =
      { s.area a with session := if (s.session n).areas.contains a then 0 else (s.area a).session })
  ∧ s.Wrote t (s.records (s.abandonRecords [n] reason desk))
  ∧ s.Fixed t ∧ s.PeopleKept t ∧ t.points = s.points ∧ t.shelf = s.shelf ∧ (∀ e ∈ numbers 6, s.DeskKept t e)
  ∧ t.Told (sessionEntry n)

/-- R147: session `n` was completed by the request of desk `d`. -/
def Part.Completed (s t : Part) (d n : Nat) : Prop :=
  let x := s.session n
  s.PresentFrame t (fun a => if a ∈ x.areas then x.incoming else (s.area a).responsible)
      (fun a => if a ∈ x.areas then 0 else (s.area a).session)
      (fun a => if a ∈ x.areas then (s.area a).generation + 1 else (s.area a).generation)
  ∧ (∀ m ∈ numbers 4, t.session m = if m = n then Session.idle else s.session m)
  ∧ (∀ e ∈ numbers 6, s.DeskMoved t e) ∧ s.Reseated t
  ∧ t.credDesk = s.credDesk ∧ t.live = s.live ∧ t.staged = s.staged
  ∧ s.Wrote t (s.records (x.areas.map fun a => (true, (s.area a).generation + 1,
        { kind := .handoverDone, area := a, desk := d, credential := x.incoming, value := w16 n })))
  ∧ t.Told (sessionEntry n)

/-! ### The catalogue and the checks of requests -/

/-- R183: each request kind with its code and its body: a head, and 1 to `most` items of `size` bytes. A body without items has
one item of 0 bytes here. -/
def requestTable : List (ReqKind × Nat × Nat × Nat × Nat) :=
  [(.conditions, 0x01, 0, 3, 32), (.group, 0x02, 2, 0, 1), (.ack, 0x10, 1, 4, 16), (.silence, 0x11, 1, 0, 1),
    (.shelve, 0x12, 5, 0, 1), (.unshelve, 0x13, 3, 0, 1), (.remove, 0x14, 3, 0, 1), (.restore, 0x15, 3, 0, 1),
    (.releaseDeferred, 0x16, 2, 0, 1), (.signOn, 0x17, 5, 0, 1), (.signOff, 0x18, 1, 0, 1), (.elevate, 0x19, 11, 0, 1),
    (.drop, 0x1A, 1, 0, 1), (.assume, 0x1B, 1, 1, 16), (.offer, 0x1C, 5, 1, 16), (.takeUp, 0x1D, 2, 0, 1)]
  ++ [(.reviewNext, 0x1E, 3, 0, 1), (.reviewDelta, 0x1F, 3, 0, 1), (.confirmArea, 0x20, 5, 0, 1), (.accept, 0x21, 2, 0, 1),
    (.handOff, 0x22, 2, 0, 1), (.withdraw, 0x23, 2, 0, 1), (.lampTest, 0x24, 2, 0, 1), (.pointStatus, 0x30, 0, 2, 16),
    (.areaStatus, 0x31, 1, 0, 1), (.deskStatus, 0x32, 1, 0, 1), (.sessionStatus, 0x33, 2, 0, 1), (.partStatus, 0x34, 0, 0, 1),
    (.journalRead, 0x35, 5, 0, 1), (.journalMark, 0x36, 4, 0, 1), (.setTime, 0x37, 4, 0, 1)]
  ++ [(.reportEnable, 0x38, 0, 1, 8), (.reportDisable, 0x39, 0, 1, 8), (.configBegin, 0x40, 1, 0, 1),
    (.configPlant, 0x41, 11, 0, 1), (.configArea, 0x42, 9, 0, 1), (.configPoints, 0x43, 0, 8, 24), (.configRole, 0x44, 3, 0, 1),
    (.configCredential, 0x45, 14, 0, 1), (.configDesk, 0x46, 11, 0, 1), (.configCommit, 0x47, 0, 0, 1), (.revoke, 0x48, 2, 0, 1)]

/-- R184: the kinds taken in every phase. -/
def takenAlways : List ReqKind := [.partStatus, .setTime, .configBegin]
/-- R184: the further kinds taken in LOADING. -/
def takenLoading : List ReqKind :=
  [.journalRead, .journalMark, .configPlant, .configArea, .configPoints, .configRole, .configDesk, .configCommit,
    .configCredential]
/-- R184: the kinds that RUNNING turns away. -/
def refusedRunning : List ReqKind := [.configPlant, .configArea, .configPoints, .configRole, .configDesk, .configCommit]

/-- The first check that fails gives the answer: `next` is asked where `r` passed. -/
def ResultCode.andThen (r next : ResultCode) : ResultCode := if r = .ok then next else r

/-- R34, R36, R189: the checks of a request that needs CONFIGURE plant-wide, in order. -/
def Part.configureCode (s : Part) (d : Nat) (badField : Prop) [Decidable badField] : ResultCode :=
  if isDesk d = false ∨ badField then .badField
  else if (s.desk d).signedOn = 0 then .notSignedOn
  else if allowsPlantWide (s.topLayer d) Perm.configure.set = false then .denied
  else .ok

/-- R137: the checks that every request about a session makes first, in order. -/
def Part.partyCode (s : Part) (d n : Nat) (q : Party) : ResultCode :=
  if isDesk d = false then .badField
  else if n = 0 ∨ 4 < n then .noSession
  else if (s.desk d).signedOn = 0 then .notSignedOn
  else if (s.session n).state = .idle then .noSession
  else if (s.desk d).signedOn ≠ (s.session n).party q then .denied
  else .ok

/-- R137: the same with the check of the area named. -/
def Part.areaCode (s : Part) (d n a : Nat) : ResultCode :=
  (s.partyCode d n .incoming).andThen (if isArea a = false ∨ a ∉ (s.session n).areas then .badField else .ok)

/-- R146: the checks of ACCEPT and HAND_OFF. -/
def Part.readyCode (s : Part) (d n : Nat) (q : Party) : ResultCode :=
  (s.partyCode d n q).andThen
    (if (s.session n).state ≠ .ready then .notReady
    else if (s.session n).flag q = true then .repeated
    else if (∃ a ∈ (s.session n).areas, s.partyPasses n q a = false)
        ∨ ((s.session n).flag q.other = true ∧ ∃ a ∈ (s.session n).areas, s.partyPasses n q.other a = false) then .denied
    else .ok)

/-- R24: the result of SIGN_ON. -/
def Part.signOnCode (s : Part) (d badge : Nat) : ResultCode :=
  if isDesk d = false then .badField
  else
    match s.findBadge badge with
    | none => .unknownBadge
    | some c =>
      if getAt s.credDesk c = d then .repeated
      else if getAt s.credDesk c ≠ 0 then .signedOnElsewhere
      else if (s.desk d).signedOn ≠ 0 then .deskOccupied
      else if permsWithin Perm.view.set (s.effPerms c) = false then .denied
      else .ok

/-- R26: the result of ELEVATE; that permission bits 12 to 15 are judged with the first check is R178. -/
def Part.elevateCode (s : Part) (d badge : Nat) (perms : PermSet) (sc : AreaSet) (minutes : Nat) : ResultCode :=
  if isDesk d = false ∨ 4096 ≤ perms.toNat ∨ minutes = 0 then .badField
  else
    match s.findBadge badge with
    | none => .unknownBadge
    | some c =>
      if (s.desk d).signedOn = 0 then .notSignedOn
      else if permsWithin (Perm.elevate.set ||| perms) (s.effPerms c) = false ∨ sc &&& ~~~(s.cred c).scope ≠ 0 then .denied
      else if 4 ≤ (s.desk d).stack.length then .stackFull
      else .ok

/-- R135: the result of OFFER. -/
def Part.offerCode (s : Part) (d badge : Nat) (l : List Nat) : ResultCode :=
  if isDesk d = false ∨ (∃ a ∈ l, isArea a = false) ∨ ¬l.Nodup then .badField
  else if (s.desk d).signedOn = 0 then .notSignedOn
  else if ∃ a ∈ l, allows (s.baseLayer d) Perm.give.set a = false ∨ (s.area a).responsible ≠ (s.desk d).signedOn then .denied
  else
    match s.findBadge badge with
    | none => .unknownBadge
    | some c =>
      if getAt s.credDesk c = 0 then .notSignedOn
      else if c = (s.desk d).signedOn
        ∨ ∃ a ∈ l, allows (s.baseLayer (getAt s.credDesk c)) (Perm.take.set ||| Perm.ack.set) a = false then .denied
      else if ∃ a ∈ l, (s.area a).session ≠ 0 then .areaBusy
      else if ∀ n ∈ numbers 4, (s.session n).state ≠ .idle then .busy
      else .ok

/-- R34: the result of a running CONFIG_CREDENTIAL; the place of R178's BAD_FIELD in it is the model's reading (log 16). -/
def Part.editCode (s : Part) (d c status : Nat) (x : Credential) : ResultCode :=
  (s.configureCode d False).andThen
    (if (c = 0 ∨ 64 < c) ∨ status ≠ 1 ∨ x.badge = 0 ∨ (x.role = 0 ∨ 8 < x.role) ∨ 4096 ≤ x.grant.toNat
        ∨ 4096 ≤ x.deny.toNat ∨ ∃ j ∈ numbers 64, j ≠ c ∧ (s.cred j).valid = true ∧ (s.cred j).badge = x.badge then .badField
    else if ∃ a ∈ numbers 16, (s.area a).responsible = c
        ∧ (permsWithin Perm.ack.set (effectivePerms (getAt s.live.roles x.role) x) = false ∨ inScope x.scope a = false) then
      .holdsAreas
    else .ok)

/-- The result of a request by the checks of its rule, in their order: R24, R25, R26, R28, R36, R91, R122, R129, R135, R137 to
R139, R141, R142, R146, R148, R158, R189 and, for CONFIG_CREDENTIAL in RUNNING, R34; none for the kinds whose statement of their
own gives it. -/
def Part.resultOf (s : Part) (k : ReqKind) (body : List Byte) : Option ResultCode :=
  let d := byteAt body 0
  let n := byteAt body 1
  let a := byteAt body 2
  let x := s.session n
  match k with
  | .signOn => some (s.signOnCode d (field32 body 1))
  | .signOff => some
      (if isDesk d = false then .badField else if (s.desk d).signedOn = 0 then .notSignedOn
      else if ∃ b ∈ numbers 16, (s.area b).responsible = (s.desk d).signedOn then .holdsAreas else .ok)
  | .elevate => some (s.elevateCode d (field32 body 1) (word16 body 5) (word16 body 7) (field16 body 9))
  | .drop => some
      (if isDesk d = false then .badField else if (s.desk d).signedOn = 0 then .notSignedOn
      else if (s.desk d).stack.length ≤ 1 then .wrongState else .ok)
  | .releaseDeferred => some
      (if isDesk d = false ∨ isArea n = false then .badField else if (s.desk d).signedOn = 0 then .notSignedOn
      else if allows (s.topLayer d) Perm.release.set n = false then .denied
      else if (s.area n).pdesk ≠ d then .notYourArea
      else if ∀ pr ∈ numbers 4, getAt (s.area n).defer pr = [] then .repeated else .ok)
  | .silence => some
      (if isDesk d = false then .badField else if (s.desk d).signedOn = 0 then .notSignedOn
      else if (s.desk d).occupants = [] then .repeated
      else if ∀ b ∈ numbers 16, (s.area b).pdesk = d → allows (s.topLayer d) Perm.silence.set b = false then .denied else .ok)
  | .lampTest => some (if isDesk d = false then .badField else .ok)
  | .revoke => some
      ((s.configureCode d (n = 0 ∨ 64 < n)).andThen (if (s.cred n).valid = false then .repeated else .ok))
  | .configBegin => if s.phase = .running then some (s.configureCode d False) else none
  | .configCredential =>
    if s.phase = .running then
      some (s.editCode d n a
        { valid := true, badge := word32 body 3, role := byteAt body 7, grant := word16 body 8, deny := word16 body 10
          scope := word16 body 12 })
    else none
  | .offer => some (s.offerCode d (field32 body 1) (byteList body 5))
  | .takeUp => some ((s.partyCode d n .incoming).andThen (if x.state = .offered then .ok else .repeated))
  | .reviewNext => some ((s.areaCode d n a).andThen
      (if x.state ≠ .reviewing ∨ (x.entry a).sweep = .swept ∨ (x.entry a).sweep = .confirmed then .wrongState else .ok))
  | .reviewDelta => some ((s.areaCode d n a).andThen
      (if x.state ≠ .reviewing ∨ (x.entry a).sweep ≠ .swept then .wrongState
      else if s.rst.journal.length < (s.rst.nextSeq - (x.entry a).deltaCursor).toNat then .gap else .ok))
  | .confirmArea => some ((s.areaCode d n a).andThen
      (if x.state ≠ .reviewing ∨ (x.entry a).sweep ≠ .swept then .wrongState
      else if word16 body 3 ≠ (x.entry a).snapGen then .badField
      else if (x.entry a).snapGen ≠ (s.area a).generation then .staleReview else .ok))
  | .accept => some (s.readyCode d n .incoming)
  | .handOff => some (s.readyCode d n .outgoing)
  | .withdraw => some (s.partyCode d n .outgoing)
  | .areaStatus => some (if isArea d = false then .badField else .ok)
  | .deskStatus => some (if isDesk d = false then .badField else .ok)
  | .sessionStatus => some (if d = 0 ∨ 4 < d then .noSession else .ok)
  | .journalRead => some (if byteAt body 4 = 0 ∨ 11 < byteAt body 4 then .badField else .ok)
  | _ => none

/-- The lowest-numbered area that a test names, 0 for none. -/
def lowestArea (f : Nat → Bool) : Nat := ((numbers 16).filter f).headD 0

/-- R146, R151: the area of a DENIED ACCEPT or HAND_OFF of party `q`: 0 when the sender is not that party, and else the lowest in
which its test failed. That its own test is judged before the other party's is the model's reading (log 25). -/
def Part.readyArea (s : Part) (d n : Nat) (q : Party) : Nat :=
  let l := (s.session n).areas
  let failing := fun (q : Party) => lowestArea fun a => l.contains a && !s.partyPasses n q a
  if s.partyCode d n q = .denied then 0
  else if ∃ a ∈ l, s.partyPasses n q a = false then failing q
  else failing q.other

/-- R39, R151: the area of a DENIED OFFER: the lowest in which its permission test failed. That an offer to the own credential names
area 0, whatever else failed, is the model's choice (log 38). -/
def Part.offerArea (s : Part) (d badge : Nat) (l : List Nat) : Nat :=
  let mayGive := fun (a : Nat) => allows (s.baseLayer d) Perm.give.set a && (s.area a).responsible == (s.desk d).signedOn
  let c := (s.findBadge badge).getD 0
  if ∃ a ∈ l, mayGive a = false then lowestArea fun a => l.contains a && !mayGive a
  else if c = (s.desk d).signedOn then 0
  else lowestArea fun a => l.contains a && !allows (s.baseLayer (getAt s.credDesk c)) (Perm.take.set ||| Perm.ack.set) a

/-- R26, R39: the area of a DENIED ELEVATE: the lowest of the granted scope in which the grantor fails the test, which is the model's
reading of the rule (log 11). -/
def Part.elevateArea (s : Part) (badge : Nat) (perms : PermSet) (sc : AreaSet) : Nat :=
  let c := (s.findBadge badge).getD 0
  lowestArea fun a => inScope sc a
    && !(permsWithin (Perm.elevate.set ||| perms) (s.effPerms c) && inScope (s.cred c).scope a)

/-- R39, R79, R91, R122, R151, R189: the area that the REFUSAL record of a request names; 0 for a plant-wide test and for a refusal
not made in an area. -/
def Part.refusalArea (s : Part) (k : ReqKind) (body : List Byte) : Nat :=
  let d := byteAt body 0
  match k with
  | .shelve | .unshelve | .remove | .restore => (s.pointS (field16 body 1)).area
  | .releaseDeferred => byteAt body 1
  | .elevate => s.elevateArea (field32 body 1) (word16 body 5) (word16 body 7)
  | .offer => s.offerArea d (field32 body 1) (byteList body 5)
  | .accept => s.readyArea d (byteAt body 1) .incoming
  | .handOff => s.readyArea d (byteAt body 1) .outgoing
  | _ => 0

/-- R79: the point that the REFUSAL record of a request names, 0 for a request that names none. -/
def refusalPoint (k : ReqKind) (body : List Byte) : Nat :=
  match k with
  | .shelve | .unshelve | .remove | .restore => field16 body 1
  | _ => 0

/-! ### Desk outputs -/

/-- R124: the horn pattern of a priority is on at a phase. -/
def HornPatternOn (n phase : Nat) : Prop := n = 1 ∨ n = 2 ∧ phase < 100 ∨ n = 3 ∧ phase < 25

/-- R124: a lamp pattern is on at a phase. -/
def LampPatternOn (x : LampPattern) (phase : Nat) : Prop :=
  x = .steady ∨ x = .slow ∧ phase < 100 ∨ x = .fast ∧ phase % 50 < 25 ∨ x = .wink ∧ phase < 10

/-- R128: a configured point of an area presented at desk `d` satisfies a test. -/
def Part.HasPoint (s : Part) (d : Nat) (f : PointStatic → Point → Bool) : Prop :=
  ∃ p ∈ numbers 1024, (s.pointS p).configured = true ∧ f (s.pointS p) (s.point p) = true
    ∧ isArea (s.pointS p).area = true ∧ (s.area (s.pointS p).area).pdesk = d

/-- R128: an area presented at desk `d` satisfies a test. -/
def Part.HasArea (s : Part) (d : Nat) (f : Area → Bool) : Prop :=
  ∃ a ∈ numbers 16, (s.area a).pdesk = d ∧ f (s.area a) = true

/-- R128: the sixteen lamp sources of desk `d`. -/
def Part.SourcesFollow (s : Part) (d : Nat) : Prop :=
  let here := s.HasArea d
  let held := fun (st : PointState) => decide (st = .unack) || decide (st = .rtnUnack)
  let me := (s.desk d).signedOn
  (s.lampSource d 0 = false ∧ s.lampSource d 1 = true)
  ∧ (s.lampSource d 2 = true ↔ s.HasPoint d fun x y => decide (x.priority = 1) && held y.state)
  ∧ (s.lampSource d 3 = true ↔ here fun x => decide (0 < x.counts.unack))
  ∧ (s.lampSource d 4 = true ↔ s.HasPoint d fun _ y => decide (y.state = .rtnUnack))
  ∧ (s.lampSource d 5 = true ↔ (s.desk d).horn = .silenced)
  ∧ (s.lampSource d 6 = true ↔ here fun x => decide (x.flood = .flood))
  ∧ (s.lampSource d 7 = true ↔ ∃ a ∈ numbers 16, (s.area a).flood = .flood)
  ∧ (s.lampSource d 8 = true ↔ here fun x => decide (0 < x.counts.deferred))
  ∧ (s.lampSource d 9 = true ↔ here fun x => decide (0 < x.counts.shelved) || decide (0 < x.counts.removed))
  ∧ (s.lampSource d 10 = true ↔ here fun x => decide (0 < x.counts.suppressed))
  ∧ (s.lampSource d 11 = true ↔ me ≠ 0 ∧ ∃ n ∈ numbers 4, (s.session n).state ≠ .idle
      ∧ ((s.session n).outgoing = me ∨ (s.session n).incoming = me))
  ∧ (s.lampSource d 12 = true ↔ 1 < (s.desk d).stack.length)
  ∧ (s.lampSource d 13 = true ↔ ∃ a ∈ numbers 16, (s.area a).mode = .unattended ∧ 0 < (s.area a).counts.unack)
  ∧ (s.lampSource d 14 = true ↔ s.lif.link = .quiet)
  ∧ (s.lampSource d 15 = true ↔ me ≠ 0)

/-! ### The layouts of replies, items and records -/

/-- Every field of a layout stands at its offset in a string of bytes. -/
def LaidOut (l : List Byte) (fields : List (Nat × List Byte)) : Prop :=
  ∀ x ∈ fields, (l.drop x.1).take x.2.length = x.2

/-- R178: the codes of states, modes and kinds, each in its order. -/
def CodesFollow : Prop :=
  [PointState.normal, .unack, .acked, .rtnUnack, .shelved, .removed, .suppressed].map PointState.code = List.range 7
  ∧ [PresMode.primary, .fallback, .unattended].map PresMode.code = List.range 3
  ∧ [FloodState.calm, .flood, .releasing].map FloodState.code = List.range 3
  ∧ [SessionState.idle, .offered, .reviewing, .ready].map SessionState.code = List.range 4
  ∧ [SweepState.notStarted, .sweeping, .swept, .confirmed].map SweepState.code = List.range 4
  ∧ [HornState.off, .sounding, .silenced].map HornState.code = List.range 3
  ∧ [LampPattern.steady, .slow, .fast, .wink].map LampPattern.code = List.range 4
  ∧ LinkState.active.code = 0 ∧ LinkState.quiet.code = 1 ∧ NearFull.armed.code = 0 ∧ NearFull.fired.code = 1
  ∧ [Phase.blank, .loading, .running].map Phase.code = List.range 3
  ∧ resyncCode (some .linkReset) = 1 ∧ resyncCode (some .commit) = 2
  ∧ [ReportKind.point, .area, .desk, .session, .authority, .journalNearFull, .overflow, .resync].map ReportKind.code
      = numbers 8
  ∧ [ResultCode.ok, .repeated, .unknownKind, .badLength, .badField, .badPoint, .wrongPhase, .denied, .notYourArea, .staleView,
      .wrongState, .nothingToAck, .notShelvable, .noShelfSlot, .stackFull, .deskOccupied, .signedOnElsewhere, .notSignedOn,
      .unknownBadge, .holdsAreas, .areaBusy, .noSession, .notReady, .staleReview, .gap, .busy, .commitFailed].map
        ResultCode.code = List.range 27
  ∧ [JKind.condition, .ack, .state, .shelve, .unshelve, .shelfExpire, .remove, .restore, .group, .floodEnter, .floodExit,
      .release, .signOn, .signOff, .elevate, .layerEnd, .assume, .handoverOffer, .handoverTakeup, .handoverConfirm,
      .handoverDone, .handoverAbandoned, .refusal, .stalePress, .buttonIdle, .linkQuiet, .linkActive, .configRestart,
      .phase].map JKind.code = numbers 29
  ∧ [Perm.view, .ack, .silence, .shelve, .unshelve, .remove, .restore, .give, .take, .elevate, .release, .configure].map
      Perm.set = (List.range 12).map (fun i => BitVec.ofNat 16 (2 ^ i))
  ∧ [flagSignificant, flagAckDropped, flagExtension, flagReflood, flagReleasing, flagCalmReached, flagForced]
      = (List.range 7).map (fun i => byteOf (2 ^ i))
  ∧ Placement.none.code = 0 ∧ Placement.queued.code = 64 ∧ Placement.deferred.code = 192
  ∧ ∀ d ∈ numbers 6, ∀ k ∈ numbers 4, (Placement.presented d k).code = 128 + 8 * d + k

/-- R180: a journal record. -/
def JournalRecord.LaidOut (x : JournalRecord) : Prop :=
  (recordBytes x).length = 20
  ∧ Machine.LaidOut (recordBytes x)
    [(0, be32 x.seq.toNat), (4, be32 x.time.toNat), (8, [byteOf x.kind.code]), (9, [x.flags]), (10, [byteOf x.area]),
      (11, [byteOf x.desk]), (12, [byteOf x.credential]), (13, be16 x.point), (15, [byteOf x.priority]),
      (16, be16 x.value.toNat), (18, be16 x.generation.toNat)]

/-- R63, R183: the reply item of a point named by POINT_STATUS: its result alone, or OK and its point item. -/
def Part.pointAnswer (s : Part) (p : Nat) : List Byte :=
  if isPoint p = false then [ResultCode.badField.byte]
  else if (s.pointS p).configured = false then [ResultCode.badPoint.byte]
  else 0 :: s.pointItem p

/-- R181, R183: the standing entry and the point item of point `p`. -/
def Part.PointLaidOut (s : Part) (p : Nat) : Prop :=
  let x := s.pointS p
  let y := s.point p
  let first := be32 (y.firstActive.getD 0).toNat
  ((s.standingBytes p).length = 11
    ∧ LaidOut (s.standingBytes p)
      [(0, be16 p), (2, [byteOf (16 * y.state.code + x.priority)]), (3, [byteOf y.occurrences]), (4, [byteOf y.placement.code]),
        (5, be16 y.view.toNat), (7, first)])
  ∧ (s.pointItem p).length = 20
  ∧ LaidOut (s.pointItem p)
    [(0, [byteOf (16 * (x.area - 1) + 4 * (x.priority - 1) + if y.shadow then 1 else 0)]), (1, [byteOf x.group]),
      (2, [byteOf y.state.code]), (3, be16 y.view.toNat), (5, [byteOf y.occurrences]), (6, first),
      (10, be32 y.lastChange.toNat), (14, [byteOf y.placement.code])]
  ∧ (y.shelfSlot = none → LaidOut (s.pointItem p) [(15, [0, 0, 0, 0, 0])])
  ∧ ∀ k ∈ y.shelfSlot, ∀ u ∈ getAt s.shelf k,
      LaidOut (s.pointItem p) [(15, [byteOf k]), (16, [byteOf u.desk]), (17, be24 u.timer.remaining)]

/-- R182: the AREA item of area `a`. -/
def Part.AreaLaidOut (s : Part) (a : Nat) : Prop :=
  let x := s.areaS a
  let y := s.area a
  (s.areaItem a).length = 45
  ∧ LaidOut (s.areaItem a)
    [(0, [byteOf x.fallback]), (1, be16 x.high), (3, be16 x.low), (5, [byteOf x.cutoff]), (6, [byteOf x.review]),
      (7, [byteOf x.releaseRate]), (8, [byteOf y.responsible]), (9, [byteOf y.pdesk]), (10, [byteOf y.mode.code]),
      (11, be16 y.load), (13, [byteOf y.flood.code]), (14, be16 y.counts.unack), (16, be16 y.counts.acked),
      (18, be16 y.counts.shelved), (20, be16 y.counts.removed), (22, be16 y.counts.suppressed),
      (24, be16 y.counts.deferred), (26, be16 y.generation.toNat), (28, [byteOf y.session])]
  ∧ ∀ i ∈ List.range 4, LaidOut (s.areaItem a)
      [(29 + 2 * i, be16 (getAt y.pend (i + 1)).length), (37 + 2 * i, be16 (getAt y.defer (i + 1)).length)]

/-- R182: the AUTHORITY and the DESK item of desk `d`. That all nine bytes of an empty slot are 0 (log 42), and the bits of a
lamp that no field takes (log 43), is the model's choice. -/
def Part.DeskLaidOut (s : Part) (d : Nat) : Prop :=
  let x := s.desk d
  let l := s.deskItem d
  l.length = 93 ∧ (s.authorityItem d).length = 38
  ∧ LaidOut (s.authorityItem d) [(0, [byteOf x.signedOn]), (1, [byteOf x.stack.length])]
  ∧ (∀ i ∈ List.range 4,
      (x.stack[i]? = none → LaidOut (s.authorityItem d) [(2 + 9 * i, List.replicate 9 0)])
      ∧ ∀ y ∈ x.stack[i]?,
          LaidOut (s.authorityItem d) [(2 + 9 * i, be16 y.perms.toNat), (4 + 9 * i, be16 y.scope.toNat)]
          ∧ (y.elev = none → LaidOut (s.authorityItem d) [(6 + 9 * i, List.replicate 5 0)])
          ∧ ∀ e ∈ y.elev, LaidOut (s.authorityItem d)
              [(6 + 9 * i, [byteOf e.grantor]), (7 + 9 * i, be16 e.minutes), (9 + 9 * i, be16 e.timer.remaining)])
  ∧ LaidOut l
    [(0, s.authorityItem d), (80, [byteOf x.horn.code]), (81, [byteOf x.hornPattern]), (90, be16 x.hold.remaining),
      (92, [byteOf x.lampTest.remaining])]
  ∧ (∀ a ∈ numbers 16, (field16 l 78).testBit (a - 1) = decide ((s.area a).pdesk = d))
  ∧ ∀ i ∈ List.range 4,
    (getAt x.slots (i + 1) = none → LaidOut l [(38 + 9 * i, List.replicate 9 0)])
    ∧ (∀ y ∈ getAt x.slots (i + 1), LaidOut l
        [(38 + 9 * i, be16 y.point), (40 + 9 * i, be16 y.view.toNat), (42 + 9 * i, be32 y.presentedAt.toNat),
          (46 + 9 * i, [if y.silenced then 1 else 0])])
    ∧ LaidOut l
      [(74 + i, [byteOf (x.order.getD i 0)]), (82 + 2 * i, [byteOf (getAt x.lamps (i + 1)).source]),
        (83 + 2 * i, [byteOf ((if (getAt x.lamps (i + 1)).invert then 128 else 0)
          + (if s.lampSource d (getAt x.lamps (i + 1)).source then 64 else 0) + (getAt x.lamps (i + 1)).pattern.code)])]

/-- R182: the header of session `n` and its entries. -/
def Session.LaidOut (x : Session) : Prop :=
  (x.state = .idle → x.header = [0])
  ∧ (x.state ≠ .idle → x.header.length = 11
    ∧ Machine.LaidOut x.header
      [(0, [byteOf (x.state.code + (if x.accepted then 4 else 0) + if x.handedOff then 8 else 0)]), (1, [byteOf x.outgoing]),
        (2, [byteOf x.incoming]), (5, be32 x.started.toNat), (9, be16 x.timer.remaining)]
    ∧ ((∀ e ∈ x.entries, isArea e.area = true) →
        ∀ a ∈ numbers 16, (field16 x.header 3).testBit (a - 1) = decide (a ∈ x.entries.map (·.area))))
  ∧ ∀ e ∈ x.entries, (entryBytes e).length = 15
    ∧ Machine.LaidOut (entryBytes e)
      [(0, [byteOf (16 * (e.area - 1) + e.sweep.code)]), (1, be16 e.cursor), (3, be16 e.snapGen.toNat),
        (5, be32 e.snapSeq.toNat), (9, be32 e.deltaCursor.toNat), (13, be16 e.confGen.toNat)]

/-- R182: the PART_STATUS reply. -/
def Part.StatusLaidOut (s : Part) : Prop :=
  let r := s.rst
  let oldest := r.nextSeq - BitVec.ofNat 32 r.journal.length
  s.statusBytes.length = 34
  ∧ LaidOut s.statusBytes
    [(0, [byteOf s.phase.code]), (1, be32 s.tset.clock.toNat), (5, [byteOf s.live.plant.jField]), (6, be32 r.nextSeq.toNat),
      (10, be32 oldest.toNat), (14, be32 r.mark.toNat), (18, be16 r.unarchived), (20, [byteOf r.nearFull.code]),
      (21, be16 r.reports.length), (23, be16 (4096 - s.journalSize)), (25, be16 r.dropped),
      (28, [byteOf ((numbers 96).filter fun k => (getAt s.shelf k).isSome).length]), (29, [byteOf s.lif.link.code]),
      (30, [byteOf s.lif.quietTimer.remaining]),
      (31, [byteOf ((if s.lif.baud1 then 2 else 0) + if s.lif.baud0 then 1 else 0)]), (32, be16 s.lif.badFrames)]
  ∧ (∀ k ∈ numbers 6, (byteAt s.statusBytes 27).testBit (k - 1) = getAt r.enabled k)
  ∧ (byteAt s.statusBytes 27).testBit 6 = true ∧ (byteAt s.statusBytes 27).testBit 7 = true

/-! ### The checks of a commit -/

/-- R187: the item of class `k` and index `n` of a staged copy fails. -/
def Cfg.Fails (c : Cfg) (k n : Nat) : Prop :=
  k = 1 ∧ n ∈ numbers 1024 ∧ (getAt c.points n).configured = true
    ∧ (isArea (getAt c.points n).area = false ∨ (getAt c.points n).priority ∉ numbers 4)
  ∨ k = 2 ∧ n ∈ numbers 16
    ∧ ((getAt c.areas n).high = 0 ∨ (getAt c.areas n).high ≤ (getAt c.areas n).low ∨ 6 < (getAt c.areas n).fallback
      ∨ (getAt c.areas n).cutoff ∉ numbers 4 ∨ (getAt c.areas n).review ∉ numbers 4
      ∨ (getAt c.areas n).releaseRate ∉ numbers 16)
  ∨ k = 3 ∧ n ∈ numbers 64 ∧ (getAt c.creds n).valid = true
    ∧ ((getAt c.creds n).badge = 0
      ∨ ∃ j ∈ numbers 64, j < n ∧ (getAt c.creds j).valid = true ∧ (getAt c.creds j).badge = (getAt c.creds n).badge)
  ∨ k = 4 ∧ n ∈ numbers 64 ∧ (getAt c.creds n).valid = true ∧ (getAt c.creds n).role ∉ numbers 8
  ∨ k = 5 ∧ n = 0 ∧ (c.plant.jField < 4 ∨ 15 < c.plant.jField)

/-- R187: the item of class `k` and index `n` is the first that fails, by class and then by index. -/
def Cfg.FailsFirst (c : Cfg) (k n : Nat) : Prop :=
  c.Fails k n ∧ ∀ i ∈ numbers 5, ∀ m ∈ 0 :: numbers 1024, c.Fails i m → k < i ∨ k = i ∧ n ≤ m

/-! ### The invariants -/

/-- R156, R160: the retained records are one run of consecutive sequence numbers that ends at the next one minus one, at most
J of them, and the unarchived count is at most J. -/
def Part.JournalRun (s : Part) : Prop :=
  s.rst.journal.length ≤ s.journalSize
    ∧ s.rst.journal.map (·.seq) =
        ((List.range s.rst.journal.length).map fun i =>
          s.rst.nextSeq - BitVec.ofNat 32 s.rst.journal.length + BitVec.ofNat 32 i)
    ∧ s.rst.unarchived ≤ s.journalSize

/-- R154, R162, R163: J is on its grid; the report queue holds no entry twice, no disabled kind, and at most 4096 − J − 1
ordinary entries beside OVERFLOW; the count of dropped reports lies in 0..65535. -/
def Part.ReportsBounded (s : Part) : Prop :=
  4 ≤ s.live.plant.jField ∧ s.live.plant.jField ≤ 15
    ∧ s.rst.reports.Nodup
    ∧ (s.rst.reports.filter fun e => e.kind != .overflow).length ≤ 4096 - s.journalSize - 1
    ∧ s.rst.reports.length ≤ 4096 - s.journalSize
    ∧ (∀ e ∈ s.rst.reports, e.kind = .overflow → e.subject = 0)
    ∧ (∀ e ∈ s.rst.reports, s.rst.kindEnabled e.kind = true)
    ∧ s.rst.dropped ≤ 65535

/-- R80, R89: thresholds in order, load indices in range, CALM and RELEASING below the high threshold, FLOOD above the low
one. -/
def Part.FloodBounded (s : Part) : Prop :=
  ∀ a ∈ numbers 16, (s.areaS a).low < (s.areaS a).high ∧ (s.area a).load ≤ 65535
    ∧ ((s.area a).flood ≠ .flood → (s.area a).load < (s.areaS a).high)
    ∧ ((s.area a).flood = .flood → (s.areaS a).low < (s.area a).load)

/-- Each layer of a stack holds the one below it (R23). -/
def stackRises : List Layer → Bool
  | [] => true
  | [_] => true
  | x :: y :: rest => permsWithin x.perms y.perms && (x.scope &&& ~~~y.scope == 0) && y.elev.isSome && stackRises (y :: rest)

/-- R20, R21, R23: desks and credentials name each other; a stack stands exactly where somebody VALID is signed on, its base
layer is that credential's effective set and scope, it is at most 4 deep, and each layer holds the one below. -/
def Part.SignOnsAgree (s : Part) : Prop :=
  (∀ d ∈ numbers 6,
    ((s.desk d).signedOn = 0 → (s.desk d).stack = [])
    ∧ ((s.desk d).signedOn ≠ 0 → (s.desk d).signedOn ≤ 64 ∧ getAt s.credDesk (s.desk d).signedOn = d
        ∧ (s.cred (s.desk d).signedOn).valid = true
        ∧ (s.desk d).stack.head? =
            some { perms := s.effPerms (s.desk d).signedOn, scope := (s.cred (s.desk d).signedOn).scope, elev := none })
    ∧ (s.desk d).stack.length ≤ 4 ∧ stackRises (s.desk d).stack = true)
  ∧ ∀ c ∈ numbers 64, getAt s.credDesk c ≠ 0 →
      getAt s.credDesk c ≤ 6 ∧ (s.desk (getAt s.credDesk c)).signedOn = c

/-- R125: at every desk the horn follows the slots. -/
def Part.HornsFollow (s : Part) : Prop := ∀ d ∈ numbers 6, (s.desk d).HornOk

/-- What the assembler keeps in each state (R170). -/
def Assembler.Sound (x : Assembler) : Prop :=
  match x.state with
  | .hunting | .length => True
  | .collecting => 2 ≤ x.len.toNat ∧ x.len.toNat ≤ 242 ∧ x.buf.length < x.len.toNat ∧ x.crc = []
  | .checking => 2 ≤ x.len.toNat ∧ x.len.toNat ≤ 242 ∧ x.buf.length = x.len.toNat ∧ x.crc.length ≤ 1

/-- R168, R170, R171, R173, R174: the bounds of the Link Interface. -/
def Part.LinkBounded (s : Part) : Prop :=
  s.lif.asm.Sound ∧ s.lif.asm.gap ≤ 3
    ∧ s.lif.inputQueue.length ≤ 4 ∧ (∀ f ∈ s.lif.inputQueue, f.tag ≠ 0 ∧ f.body.length ≤ 240)
    ∧ s.lif.busyList.length ≤ 4 ∧ (∀ e ∈ s.lif.busyList, e.tag ≠ 0)
    ∧ (∀ r ∈ s.lif.replySlot, r.busyAhead ≤ s.lif.busyList.length)
    ∧ s.lif.badFrames ≤ 65535 ∧ s.lif.quietSeconds ≤ 65535 ∧ s.lif.breakCount ≤ 10
    ∧ s.lif.pacer ≤ 255 ∧ s.live.plant.pacing ≤ 255 ∧ s.staged.plant.pacing ≤ 255

end Sys2Proof.Machine
end

