-- ==== Sys2Proof/Certificates/Slice0/Obligations.lean ====
section
/-! DEFINITION. The statements for the provers. -/

open Sys2Proof Sys2Proof.Machine

/-! ### The machine around the part -/

/-- For every command and state, the step with the command at the front of the queue is the command's execution with the
rest of the queue. -/
def Obligations.StepExecutesTheFrontCommand : Prop :=
  ∀ (c : Instr) (s : State), step { s with pending := c :: s.pending } = exec c s

/-- Every command, on every part, answers a next state with the same commands waiting: no row stops. With nothing waiting
the part idles, which is the model's choice (log 3). -/
def Obligations.NoCommandStops : Prop :=
  (∀ (i : Instr) (s : Part), ∃ t : Part, Completes i s t) ∧ ∀ s : State, s.pending = [] → step s = .next s

/-! ### Reset and time -/

/-- R191 with R1, R2, R5, R14, R19, R20, R23, R64, R65, R68, R69, R80, R97, R99, R117, R123 to R125, R127, R132, R154, R155,
R159, R160, R163, R165, R170, R171, R174, R175, R177, R184, R185: POWER_ON completes from every part, and every field of the
part when RESET# is released; RESET_FALLS completes from every part, every desk output is then off and TXD is high, and while
RESET# is low no command but POWER_ON and RESET_FALLS changes anything. The model's own among these values: what the part holds
while RESET# is low (log 6), the due fields and the break count (log 4), the candidate level of an empty run (log 28), the reason
of a RESYNC never queued (log 29), the empty reply slot (log 39), that no continuation is held (log 40) and that no tick of the
link is taken (log 44). -/
def Obligations.ResetAndPowerOnValues : Prop :=
  (∀ s : Part, ∃ t : Part, Completes .resetFalls s t ∧ t.resetLow = true)
  ∧ (∀ s : Part, s.resetLow = true →
      s.txdIdleHigh = true ∧ ∀ d ∈ numbers 6, s.hornOut d = false ∧ ∀ k ∈ numbers 4, s.lampOut d k = false)
  ∧ (∀ (s : Part) (i : Instr), s.resetLow = true → i ≠ .resetFalls → (∀ x y, i ≠ .powerOn x y) → Completes i s s)
  ∧ ∀ (s : Part) (b1 b0 : Bool), ∃ t : Part, Completes (.powerOn b1 b0) s t
    ∧ t.resetLow = false ∧ t.phase = .blank ∧ t.staged = t.live
    ∧ t.live.plant =
        { weights := #v[8, 4, 2, 1], jField := 12, offerTime := 300, reviewTime := 1800, pacing := 0, quietTime := 10 }
    ∧ (∀ a ∈ numbers 16, t.areaS a = { fallback := 0, high := 8192, low := 2048, cutoff := 2, review := 2, releaseRate := 4 }
        ∧ t.area a =
          { responsible := 0, pdesk := 0, mode := .unattended, load := 0, flood := .calm
            counts := { unack := 0, acked := 0, shelved := 0, removed := 0, suppressed := 0, deferred := 0 }
            generation := 0, session := 0, pend := #v[[], [], [], []], defer := #v[[], [], [], []] })
    ∧ (∀ p ∈ numbers 1024,
        t.pointS p = { configured := false, area := 1, priority := 4, group := 0, shelfLimit := 0 }
        ∧ t.point p =
          { state := .normal, shadow := false, view := 0, occurrences := 0, firstActive := none, lastChange := 0
            placement := .none, shelfSlot := none })
    ∧ (∀ r ∈ numbers 8, getAt t.live.roles r = 0)
    ∧ (∀ c ∈ numbers 64, t.cred c = { valid := false, badge := 0, role := 1, grant := 0, deny := 0, scope := 0 }
        ∧ getAt t.credDesk c = 0)
    ∧ (∀ g ∈ numbers 64, getAt t.groups g = false) ∧ (∀ k ∈ numbers 96, getAt t.shelf k = none)
    ∧ (∀ d ∈ numbers 6, (getAt t.live.desks d).holdTime = 60
        ∧ (∀ k ∈ numbers 4, getAt (getAt t.live.desks d).lamps k = { source := 0, invert := false, pattern := .steady })
        ∧ t.desk d =
          { signedOn := 0, stack := [], slots := #v[none, none, none, none], order := []
            rotation := [1, 2, 3, 4, 5, 6, 7, 8, 9, 10, 11, 12, 13, 14, 15, 16], horn := .off, hornPattern := 0, phase := 0
            boundaryDue := false, lamps := (t.desk d).lamps, lampsFollow := false
            ackButton := { pressed := false, run := 0, candidate := false }
            silButton := { pressed := false, run := 0, candidate := false }, ackPresses := 0, silPresses := 0
            hold := { remaining := 0, due := false }, lampTest := { remaining := 0, due := false } }
        ∧ (∀ k ∈ numbers 4, getAt (t.desk d).lamps k = { source := 0, invert := false, pattern := .steady })
        ∧ t.hornOut d = false ∧ ∀ k ∈ numbers 4, t.lampOut d k = false)
    ∧ (∀ n ∈ numbers 4, t.session n =
        { state := .idle, outgoing := 0, incoming := 0, entries := [], accepted := false, handedOff := false
          timer := { remaining := 0, due := false }, started := 0 })
    ∧ t.rst =
        { journal := [], nextSeq := 1, mark := 0, unarchived := 0, nearFull := .armed, reports := [], dropped := 0
          enabled := #v[true, true, true, true, true, true], resyncReason := none }
    ∧ (t.tset.tickCount = 0 ∧ t.tset.clock = 0 ∧ t.tset.secondsDue = 0 ∧ ∀ a ∈ numbers 16, getAt t.tset.loadDue a = 0)
    ∧ t.lif =
        { asm := { state := .hunting, len := 0, buf := [], crc := [], gap := 0 }
          inputQueue := [], busyList := [], replySlot := none, sending := none, pacer := 0, continuation := none
          link := .active, quietTimer := { remaining := 10, due := false }, quietSeconds := 0, badFrames := 0
          breakCount := 0, tickTaken := false, baud1 := b1, baud0 := b0 }
    ∧ t.txdIdleHigh = true

/-- R64, R117, R118, R124, R166, R170, R174, R176: what a 10 ms tick counts, what its samples do to the debouncers and to the
presses delivered, of which none outlives BLANK and LOADING, the link reset that it takes at the break count of 10, and that it
changes nothing else. That a tick whose share of the link LINK_RESET has taken passes the link by is the model's form (log 44). -/
def Obligations.TickCountsAndSamplesTheButtons : Prop :=
  ∀ (s : Part) (pins : TickPins), s.resetLow = false → ∃ t : Part, Completes (.tick pins) s t
    ∧ t = { s with tset := t.tset, desks := t.desks, rst := t.rst, lif := t.lif }
    ∧ t.tset.clock = s.tset.clock
    ∧ (s.tset.tickCount < 99 → t.tset = { s.tset with tickCount := s.tset.tickCount + 1 })
    ∧ (99 ≤ s.tset.tickCount → t.tset.tickCount = 0 ∧ t.tset.secondsDue = s.tset.secondsDue + 1
        ∧ ∀ a ∈ numbers 16, getAt t.tset.loadDue a = getAt s.tset.loadDue a + 1)
    ∧ (∀ d ∈ numbers 6, t.desk d =
        { s.desk d with
          phase := if 199 ≤ (s.desk d).phase then 0 else (s.desk d).phase + 1
          boundaryDue := (s.desk d).boundaryDue || decide (199 ≤ (s.desk d).phase)
          ackButton := (t.desk d).ackButton, silButton := (t.desk d).silButton
          ackPresses := (t.desk d).ackPresses, silPresses := (t.desk d).silPresses })
    ∧ (s.lif.tickTaken = true → t.rst = s.rst ∧ t.lif = { s.lif with tickTaken := false })
    ∧ (s.lif.tickTaken = false → pins.rxdLow = true → s.lif.breakCount = 9 →
        t.rst = s.rst.afterBreak ∧ t.lif = s.lif.afterBreak)
    ∧ (s.lif.tickTaken = false → ¬(pins.rxdLow = true ∧ s.lif.breakCount = 9) → t.rst = s.rst ∧ t.lif =
        { s.lif with
          asm :=
            { s.lif.asm with
              gap := if s.lif.asm.state = .hunting then s.lif.asm.gap else min 3 (s.lif.asm.gap + 1) }
          pacer := s.lif.pacer - 1
          breakCount := if pins.rxdLow then min 10 (s.lif.breakCount + 1) else 0 })
    ∧ ∀ d ∈ numbers 6,
      (s.desk d).ackButton.Sampled (t.desk d).ackButton (s.phase == .running) (pins.ackLow.getLsbD (d - 1))
        (s.desk d).ackPresses
        (t.desk d).ackPresses
      ∧ (s.desk d).silButton.Sampled (t.desk d).silButton (s.phase == .running) (pins.silLow.getLsbD (d - 1))
        (s.desk d).silPresses
        (t.desk d).silPresses

/-- R64, R65, R67, R175: the 1 s tick of the Timer Set, and that without one due nothing happens. -/
def Obligations.OneSecondTickCounts : Prop :=
  ∀ s : Part, s.resetLow = false →
    (s.tset.secondsDue = 0 → Completes .oneSecondTick s s)
    ∧ (s.tset.secondsDue ≠ 0 → ∃ t : Part, Completes .oneSecondTick s t
      ∧ t = { s with tset := t.tset, shelf := t.shelf, desks := t.desks, sessions := t.sessions, lif := t.lif }
      ∧ t.tset = { s.tset with clock := s.tset.clock + 1, secondsDue := s.tset.secondsDue - 1 }
      ∧ (∀ k ∈ numbers 96, getAt t.shelf k = (getAt s.shelf k).map fun x => { x with timer := x.timer.after })
      ∧ (∀ d ∈ numbers 6, t.desk d =
          { s.desk d with
            hold := (s.desk d).hold.after, lampTest := (s.desk d).lampTest.after
            stack := (s.desk d).stack.map fun l =>
              { l with elev := l.elev.map fun e => { e with timer := e.timer.after } } })
      ∧ (∀ n ∈ numbers 4, t.session n = { s.session n with timer := (s.session n).timer.after })
      ∧ t.lif =
          { s.lif with
            quietTimer := s.lif.quietTimer.after
            quietSeconds :=
              if s.lif.link = .quiet then min 65535 (s.lif.quietSeconds + 1) else s.lif.quietSeconds })

/-- R124 to R130: what a desk takes at its frame boundary, the horn state of its slots, the sixteen lamp sources, and the horn
and lamp outputs in each phase. That a lamp test also lights lamps that wait for their first frame boundary is the model's
choice (log 37). -/
def Obligations.FrameBoundaryAdopts : Prop :=
  (∀ x : Desk, (x.hornFromSlots = .off ↔ x.occupants = [])
    ∧ (x.hornFromSlots = .sounding ↔ ∃ y ∈ x.occupants, y.silenced = false))
  ∧ (∀ (s : Part) (d : Nat), isDesk d = true → s.SourcesFollow d)
  ∧ (∀ (s : Part) (d : Nat), s.phase ≠ .running → s.hornOut d = false ∧ ∀ k ∈ numbers 4, s.lampOut d k = false)
  ∧ (∀ (s : Part) (d : Nat), s.resetLow = false → s.phase = .running → (s.desk d).lampTest.remaining = 0 →
    (s.hornOut d = true ↔ (s.desk d).horn = .sounding ∧ HornPatternOn (s.desk d).hornPattern (s.desk d).phase)
    ∧ ((s.desk d).lampsFollow = false → ∀ k ∈ numbers 4, s.lampOut d k = false)
    ∧ ((s.desk d).lampsFollow = true → ∀ k ∈ numbers 4, (s.lampOut d k = true ↔
        s.lampSource d (getAt (s.desk d).lamps k).source ≠ (getAt (s.desk d).lamps k).invert
          ∧ LampPatternOn (getAt (s.desk d).lamps k).pattern (s.desk d).phase)))
  ∧ ∀ (s : Part) (d : Nat), s.resetLow = false → isDesk d = true →
    ((s.desk d).boundaryDue = false → Completes (.frameBoundary d) s s)
    ∧ ((s.desk d).boundaryDue = true → (s.desk d).HornOk → ∃ t : Part, Completes (.frameBoundary d) s t
      ∧ t.desk d =
          { s.desk d with
            boundaryDue := false, lamps := (getAt s.live.desks d).lamps, lampsFollow := s.phase == .running
            hornPattern := (t.desk d).hornPattern }
      ∧ ((s.desk d).horn ≠ .sounding → (t.desk d).hornPattern = 0)
      ∧ ((s.desk d).horn = .sounding → s.Wants d (t.desk d).hornPattern)
      ∧ s.Fixed t ∧ s.PeopleKept t ∧ t.points = s.points ∧ t.areas = s.areas ∧ t.shelf = s.shelf
      ∧ t.sessions = s.sessions ∧ t.lif = s.lif ∧ s.Wrote t [] ∧ ∀ e ∈ numbers 6, e ≠ d → s.DeskKept t e)

/-! ### The link -/

/-- R170: the assembler's table up to the check of a frame, the framing error, and the gap. -/
def Obligations.AssemblerTable : Prop :=
  ∀ (s : Part) (b : Byte) (stopLow : Bool), s.resetLow = false →
    let a := s.lif.asm
    let lost : Part :=
      { s with
        lif :=
          { s.lif with
            asm := { state := .hunting, len := 0, buf := [], crc := [], gap := 0 }
            badFrames := min 65535 (s.lif.badFrames + 1) } }
    let becomes := fun (x : Assembler) => Completes (.receiveByte b stopLow) s { s with lif := { s.lif with asm := x } }
    (a.state = .hunting → b = 0xA5 ∧ stopLow = false →
      becomes { state := .length, len := 0, buf := [], crc := [], gap := 0 })
    ∧ (a.state = .hunting → ¬(b = 0xA5 ∧ stopLow = false) → Completes (.receiveByte b stopLow) s s)
    ∧ (a.state ≠ .hunting → stopLow = true → Completes (.receiveByte b stopLow) s lost)
    ∧ (a.state = .length → stopLow = false → 2 ≤ b.toNat ∧ b.toNat ≤ 242 →
        becomes { state := .collecting, len := b, buf := [], crc := [], gap := 0 })
    ∧ (a.state = .length → stopLow = false → ¬(2 ≤ b.toNat ∧ b.toNat ≤ 242) → Completes (.receiveByte b stopLow) s lost)
    ∧ (a.state = .collecting → stopLow = false → a.buf.length + 1 < a.len.toNat →
        becomes { a with buf := a.buf ++ [b], gap := 0 })
    ∧ (a.state = .collecting → stopLow = false → a.buf.length + 1 = a.len.toNat →
        becomes { a with state := .checking, buf := a.buf ++ [b], gap := 0 })
    ∧ (a.state = .checking → stopLow = false → a.crc = [] → becomes { a with crc := [b], gap := 0 })
    ∧ (a.state ≠ .hunting → a.gap = 3 → Completes .gapExpiry s lost)
    ∧ (a.state = .hunting ∨ a.gap < 3 → Completes .gapExpiry s s)

/-- R169 to R171, R175: the check of a whole frame, and what a good one does to the link and the input queue. -/
def Obligations.WholeFrameIsChecked : Prop :=
  crc16 [0x31, 0x32, 0x33, 0x34, 0x35, 0x36, 0x37, 0x38, 0x39] = 0x29B1
  ∧ ∀ (s : Part) (b c tag kind : Byte) (body : List Byte), s.resetLow = false → s.lif.asm.state = .checking →
      s.lif.asm.buf = tag :: kind :: body → s.lif.asm.crc = [c] →
      let right := [c, b] = be16 (crc16 (s.lif.asm.len :: tag :: kind :: body)).toNat
      let idle : Assembler := { state := .hunting, len := 0, buf := [], crc := [], gap := 0 }
      (¬right ∨ tag = 0 →
        Completes (.receiveByte b false) s
          { s with lif := { s.lif with asm := idle, badFrames := min 65535 (s.lif.badFrames + 1) } })
      ∧ (right → tag ≠ 0 → ∃ t : Part, Completes (.receiveByte b false) s t ∧ s.RecordFrame t
        ∧ s.Wrote t (s.records
            (if s.lif.link = .quiet then [(false, 0, { kind := .linkActive, value := w16 s.lif.quietSeconds })] else []))
        ∧ t.lif =
            { s.lif with
              asm := idle, link := .active
              quietTimer := { remaining := s.live.plant.quietTime, due := false }
              inputQueue :=
                if s.lif.inputQueue.length < 4 then s.lif.inputQueue ++ [{ tag := tag, kind := kind, body := body }]
                else s.lif.inputQueue
              busyList :=
                if 4 ≤ s.lif.inputQueue.length ∧ s.lif.busyList.length < 4 then
                  s.lif.busyList ++ [{ tag := tag, kind := kind }]
                else s.lif.busyList
              badFrames :=
                if 4 ≤ s.lif.inputQueue.length ∧ 4 ≤ s.lif.busyList.length then min 65535 (s.lif.badFrames + 1)
                else s.lif.badFrames })

/-- R172, checks 1 to 3: a request that the link turns away is answered with the result code alone, and changes nothing
else; R183: the code and the body lengths of each kind; R184: the kinds taken in each phase. -/
def Obligations.LinkChecksOfARequest : Prop :=
  (requestTable.map (·.1)).Nodup ∧ (∀ k : ReqKind, k ∈ requestTable.map (·.1))
  ∧ (∀ r ∈ requestTable, r.1.code = r.2.1
    ∧ ∀ len : Nat, r.1.lengthOk len = true ↔ ∃ n ∈ numbers r.2.2.2.2, len = r.2.2.1 + r.2.2.2.1 * n)
  ∧ (∀ k : ReqKind, (k.acceptedIn .blank = true ↔ k ∈ takenAlways)
    ∧ (k.acceptedIn .loading = true ↔ k ∈ takenAlways ++ takenLoading)
    ∧ (k.acceptedIn .running = true ↔ k ∉ refusedRunning))
  ∧
  (∀ (s : Part) (f : Frame) (rest : List Frame), s.resetLow = false → s.lif.replySlot = none →
    s.lif.inputQueue = f :: rest → (∀ k : ReqKind, k.code ≠ f.kind.toNat) →
    Completes .unknownKind s
      { s with
        lif :=
          { s.lif with
            inputQueue := rest
            replySlot := some
              { tag := f.tag, kind := if f.kind.toNat < 128 then f.kind + 128 else 255, body := [2]
                busyAhead := s.lif.busyList.length } } })
  ∧ (∀ (s : Part) (k : ReqKind) (tag : Byte) (body : List Byte), s.Offered k tag body →
    (k.lengthOk body.length = false → Completes k.command s { s with lif := s.answer k tag [3] })
    ∧ (k.lengthOk body.length = true → k.acceptedIn s.phase = false →
        Completes k.command s { s with lif := s.answer k tag [6] }))

/-- R173: the transmitter, when free, begins the oldest waiting reply: BUSY answers made before the reply slot's reply, then
that reply; a frame begun is finished. -/
def Obligations.RepliesGoInTheOrderMade : Prop :=
  ∀ s : Part, s.resetLow = false →
    let busy := fun (e : BusyEntry) => frameBytes e.tag (if e.kind.toNat < 128 then e.kind + 128 else 255) [25]
    (∀ f, s.lif.sending = some f → Completes .sendReply s s)
    ∧ (s.lif.replySlot = none → s.lif.busyList = [] → Completes .sendReply s s)
    ∧ (∀ e rest, s.lif.sending = none → s.lif.replySlot = none → s.lif.busyList = e :: rest →
        Completes .sendReply s { s with lif := { s.lif with sending := some (busy e), busyList := rest } })
    ∧ (∀ r e rest, s.lif.sending = none → s.lif.replySlot = some r → s.lif.busyList = e :: rest → r.busyAhead ≠ 0 →
        Completes .sendReply s
          { s with
            lif :=
              { s.lif with
                sending := some (busy e), busyList := rest
                replySlot := some { r with busyAhead := r.busyAhead - 1 } } })
    ∧ (∀ r, s.lif.sending = none → s.lif.replySlot = some r → (s.lif.busyList = [] ∨ r.busyAhead = 0) →
        Completes .sendReply s
          { s with
            lif := { s.lif with sending := some (frameBytes r.tag r.kind r.body), replySlot := none } })
    ∧ Completes .transmitterFree s { s with lif := { s.lif with sending := none } }

/-- R163, R164, R174, R182: a report frame carries the continuation and then the oldest entries while the next fits; what it
takes leaves the head of the queue; the item body of each kind is built from its subject. A session of more than 14 areas is
reported as two items, of which the second, with subject 80h plus the session number, is held for the next frame; that the
frame ends there is the model's reading (log 19). -/
def Obligations.ReportFrameCarriesTheOldest : Prop :=
  (∀ (s : Part) (n : Nat),
    s.entryBody { kind := .point, subject := n } = s.pointItem n
    ∧ s.entryBody { kind := .area, subject := n } = s.areaItem n
    ∧ s.entryBody { kind := .desk, subject := n } = s.deskItem n
    ∧ s.entryBody { kind := .session, subject := n }
        = (s.session n).header ++ ((s.session n).entries.take 14).flatMap entryBytes
    ∧ s.entryBody { kind := .authority, subject := n } = s.authorityItem n
    ∧ s.entryBody { kind := .journalNearFull, subject := n }
        = be32 (s.rst.nextSeq - BitVec.ofNat 32 s.rst.journal.length).toNat ++ be32 s.rst.nextSeq.toNat
          ++ be32 s.rst.mark.toNat ++ be16 s.rst.unarchived
    ∧ s.entryBody { kind := .overflow, subject := n } = be16 s.rst.dropped
    ∧ s.entryBody { kind := .resync, subject := n } = [byteOf (resyncCode s.rst.resyncReason)])
  ∧
  (∀ s : Part, s.resetLow = false →
    let held := s.lif.continuation.getD []
    let item := fun (e : ReportEntry) => itemBytes e.kind e.subject (s.entryBody e)
    (s.reportReady = false → Completes .sendReportFrame s s)
    ∧ (s.reportReady = true → held.length ≤ 240 →
        (∀ e ∈ s.rst.reports, e.kind = .session → (s.session e.subject).entries.length ≤ 14) →
        ∃ (t : Part) (took : List ReportEntry), Completes .sendReportFrame s t
          ∧ s.rst.reports = took ++ t.rst.reports
          ∧ (held ++ took.flatMap item).length ≤ 240
          ∧ (∀ e ∈ t.rst.reports.head?, 240 < (held ++ took.flatMap item ++ item e).length)
          ∧ t = { s with rst := t.rst, lif := t.lif }
          ∧ t.rst =
              { s.rst with
                reports := t.rst.reports
                dropped := if took.any (fun e => e.kind == .overflow) then 0 else s.rst.dropped }
          ∧ t.lif =
              { s.lif with
                sending := some (frameBytes 0 0xF0 (held ++ took.flatMap item)), pacer := s.live.plant.pacing
                continuation := none }))
  ∧ ∀ (s : Part) (n : Nat) (rest : List ReportEntry), s.resetLow = false → s.reportReady = true →
    s.lif.continuation = none → s.rst.reports = { kind := .session, subject := n } :: rest →
    (s.session n).state ≠ .idle → 14 < (s.session n).entries.length → (s.session n).entries.length ≤ 16 →
    ∃ t : Part, Completes .sendReportFrame s t ∧ t.rst.reports = rest ∧ t = { s with rst := t.rst, lif := t.lif }
      ∧ t.lif.sending = some (frameBytes 0 0xF0
          (4 :: be16 n ++ [221] ++ (s.session n).header ++ ((s.session n).entries.take 14).flatMap entryBytes))
      ∧ t.lif.continuation =
          some (itemBytes .session (128 + n) (((s.session n).entries.drop 14).flatMap entryBytes))

/-- R166, R175, R176: the link reset of a break, and the host-quiet timer's expiry in ACTIVE; neither happens without its cause.
That the row LINK_RESET is the link's share of the tick at which the break count reaches 10 is the model's reading (log 44), and
that LINK_QUIET carries the quiet time in force (log 10). -/
def Obligations.LinkResetAndHostQuiet : Prop :=
  (∀ s : Part, s.resetLow = false →
    (¬(s.lif.breakCount = 9 ∧ s.lif.tickTaken = false) → Completes .linkReset s s)
    ∧ (s.lif.breakCount = 9 → s.lif.tickTaken = false →
      Completes .linkReset s { s with rst := s.rst.afterBreak, lif := { s.lif.afterBreak with tickTaken := true } }))
  ∧ ∀ s : Part, s.resetLow = false →
    (¬(s.lif.quietTimer.due = true ∧ s.lif.link = .active) → Completes .hostQuietExpiry s s)
    ∧ (s.lif.quietTimer.due = true → s.lif.link = .active → ∃ t : Part, Completes .hostQuietExpiry s t ∧ s.RecordFrame t
      ∧ s.Wrote t (s.records [(false, 0, { kind := .linkQuiet, value := w16 s.live.plant.quietTime })])
      ∧ t.lif =
          { s.lif with link := .quiet, quietTimer := { remaining := 0, due := false }, quietSeconds := 0 }
      ∧ ∀ d ∈ numbers 6, s.phase = .running → t.Told (deskEntry d))

/-! ### The alarm life cycle -/

/-- R99, R101 to R104: what one selection of a fill does and when the fill ends; that a fill goes on from the part that its
selection left is said where every point is in its place. R43, R51, R52, R81, R84: an active condition for a point in NORMAL,
and a clear one. -/
def Obligations.ActiveConditionRaisesANormalPoint : Prop :=
  (∀ (s : Part) (d : Nat), isDesk d = true →
    ((∀ b ∈ (s.desk d).rotation, ∀ k ∈ numbers 4, (s.area b).pdesk = d → getAt (s.area b).pend k = []) →
      s.fillStep d = none)
    ∧ (∀ (a pr p : Nat), s.IsCandidate d a pr p →
      (∀ k ∈ numbers 4, getAt (s.desk d).slots k = none →
        (∀ j ∈ numbers 4, j < k → getAt (s.desk d).slots j ≠ none) →
        ∃ t : Part, s.fillStep d = some t ∧ s.TookSlot t d k a pr p)
      ∧ ((∀ k ∈ numbers 4, getAt (s.desk d).slots k ≠ none) → (s.desk d).order.Nodup →
        ∀ k : Nat, s.LeastUrgentAt d k →
          (s.slotPriority d k ≤ pr → s.fillStep d = none)
          ∧ (pr < s.slotPriority d k →
            ∃ t : Part, s.fillStep d = some t ∧ (s.returnSlot d k).TookSlot t d k a pr p)))
    ∧ (∀ (k : Nat) (y : Slot), getAt (s.desk d).slots k = some y → s.GaveBack (s.returnSlot d k) d k y.point)
    ∧ (s.PointsInPlace →
        (s.fillStep d = none → s.fill d = s) ∧ ∀ t : Part, s.fillStep d = some t → s.fill d = t.fill d))
  ∧ (∀ s : Part, s.fill 0 = s)
  ∧ ∀ (s : Part) (tag : Byte) (body : List Byte), s.Takes .conditions tag body → body.length = 3 →
    s.InPlant (field16 body 0) → (s.point (field16 body 0)).state = .normal →
    (byteAt body 2 = 1 → ∃ t : Part, Completes .conditions s t ∧ t.lif = s.answer .conditions tag [0, 0]
      ∧ s.Raised t (field16 body 0))
    ∧ (byteAt body 2 = 0 → Completes .conditions s { s with lif := s.answer .conditions tag [0, 1] })

/-- R46: an active condition for a point in RTN_UNACK, and a clear one. -/
def Obligations.ActiveConditionRaisesAReturnedPointAgain : Prop :=
  ∀ (s : Part) (tag : Byte) (body : List Byte), s.Takes .conditions tag body → body.length = 3 →
    s.InPlant (field16 body 0) → (s.point (field16 body 0)).state = .rtnUnack →
    (byteAt body 2 = 1 → ∃ t : Part, Completes .conditions s t ∧ t.lif = s.answer .conditions tag [0, 0]
      ∧ s.RaisedAgain t (field16 body 0))
    ∧ (byteAt body 2 = 0 → Completes .conditions s { s with lif := s.answer .conditions tag [0, 1] })

/-- R44: a clear condition for a point in UNACK, and an active one. That the unack count stays as it was is said where the
count holds the point (R9). -/
def Obligations.ClearConditionReturnsAnUnackPoint : Prop :=
  ∀ (s : Part) (tag : Byte) (body : List Byte), s.Takes .conditions tag body → body.length = 3 →
    s.InPlant (field16 body 0) → (s.point (field16 body 0)).state = .unack →
    (byteAt body 2 = 0 → ∃ t : Part, Completes .conditions s t ∧ t.lif = s.answer .conditions tag [0, 0]
      ∧ s.ClearedUnacked t (field16 body 0)
      ∧ ((s.area (s.pointS (field16 body 0)).area).counts.unack ≠ 0 →
          (t.area (s.pointS (field16 body 0)).area).counts = (s.area (s.pointS (field16 body 0)).area).counts))
    ∧ (byteAt body 2 = 1 → Completes .conditions s { s with lif := s.answer .conditions tag [0, 1] })

/-- R45: a clear condition for a point in ACKED, and an active one. -/
def Obligations.ClearConditionEndsAnAckedPoint : Prop :=
  ∀ (s : Part) (tag : Byte) (body : List Byte), s.Takes .conditions tag body → body.length = 3 →
    s.InPlant (field16 body 0) → (s.point (field16 body 0)).state = .acked →
    (byteAt body 2 = 0 → ∃ t : Part, Completes .conditions s t ∧ t.lif = s.answer .conditions tag [0, 0]
      ∧ s.ClearedAcked t (field16 body 0)
      ∧ ((s.point (field16 body 0)).placement = .none → (t.point (field16 body 0)).placement = .none))
    ∧ (byteAt body 2 = 1 → Completes .conditions s { s with lif := s.answer .conditions tag [0, 1] })

/-- R47: a condition for a point out of annunciation changes its shadow alone, and one that equals the shadow is REPEAT. -/
def Obligations.ConditionOutOfAnnunciationChangesTheShadow : Prop :=
  ∀ (s : Part) (tag : Byte) (body : List Byte), s.Takes .conditions tag body → body.length = 3 → byteAt body 2 ≤ 1 →
    s.InPlant (field16 body 0) →
    ((s.point (field16 body 0)).state = .shelved ∨ (s.point (field16 body 0)).state = .removed
      ∨ (s.point (field16 body 0)).state = .suppressed) →
    ((s.point (field16 body 0)).shadow ≠ (byteAt body 2 == 1) →
      ∃ t : Part, Completes .conditions s t ∧ t.lif = s.answer .conditions tag [0, 0]
        ∧ s.Shadowed t (field16 body 0) (byteAt body 2 == 1))
    ∧ ((s.point (field16 body 0)).shadow = (byteAt body 2 == 1) →
      Completes .conditions s { s with lif := s.answer .conditions tag [0, 1] })

/-- R48: a REPEAT item changes nothing but the link, which answers it. -/
def Obligations.RepeatedConditionChangesNothing : Prop :=
  ∀ (s : Part) (tag : Byte) (body : List Byte) (t : Part), s.Takes .conditions tag body → body.length = 3 →
    Completes .conditions s t → t.lif = s.answer .conditions tag [0, ResultCode.repeated.byte] →
    t = { s with lif := t.lif }

/-- R32, R41, R42, R55, R186: the items of a CONDITIONS, ACK, ASSUME or CONFIG_POINTS request are taken in order, each from the
part that the ones before it left; a CONDITIONS item that names no point, no condition or an unconfigured point changes nothing,
and the items of an ACK or ASSUME from a desk outside 1..6, or of an ASSUME from a desk without a credential, are all answered
alike. That all items of a request are taken in one step is the model's reading (log 21), and so is which item of an ASSUME
queues the AUTHORITY report (log 15); that a bad condition code is answered BAD_FIELD also for an unconfigured point is its
choice (log 41). -/
def Obligations.ItemsAreTakenInOrder : Prop :=
  (∀ (s : Part) (body item : List Byte), body.length % 3 = 0 → item.length = 3 →
    let first := conditionsHandler body s
    let last := conditionsHandler item first.1
    conditionsHandler (body ++ item) s = (last.1, first.2 ++ last.2.tail))
  ∧ (∀ (s : Part) (d : Byte) (body item : List Byte), body.length % 4 = 0 → item.length = 4 →
    let first := ackHandler (d :: body) s
    let last := ackHandler (d :: item) first.1
    ackHandler (d :: (body ++ item)) s = (last.1, first.2 ++ last.2.tail))
  ∧ (∀ (s : Part) (d : Nat) (l m : List Nat) (first : Bool),
    let begun := s.assumeItems d l first
    let ended := begun.1.assumeItems d m (first && begun.2.all fun x => x != 0)
    s.assumeItems d (l ++ m) first = (ended.1, begun.2 ++ ended.2))
  ∧ (∀ (s : Part) (body item : List Byte), body.length % 8 = 0 → item.length = 8 →
    let first := configPointsHandler body s
    let last := configPointsHandler item first.1
    configPointsHandler (body ++ item) s = (last.1, first.2 ++ last.2.tail))
  ∧ (∀ (s : Part) (tag : Byte) (body : List Byte), s.Takes .conditions tag body → ∃ t : Part,
      Completes .conditions s t ∧ t = { (conditionsHandler body s).1 with lif := t.lif }
      ∧ t.lif = s.answer .conditions tag (conditionsHandler body s).2)
  ∧ (∀ (s : Part) (tag : Byte) (body : List Byte), s.Takes .ack tag body →
      (∃ t : Part, Completes .ack s t ∧ t = { (ackHandler body s).1 with lif := t.lif }
        ∧ t.lif = s.answer .ack tag (ackHandler body s).2)
      ∧ (isDesk (byteAt body 0) = false →
        Completes .ack s
          { s with
            lif := s.answer .ack tag
              (0 :: (List.replicate ((body.length - 1) / 4) [ResultCode.badField.byte, 0, 0]).flatten) }))
  ∧ (∀ (s : Part) (tag : Byte) (body : List Byte), s.Takes .assume tag body →
      let d := byteAt body 0
      let alike := fun (r : ResultCode) => Completes .assume s
        { s with lif := s.answer .assume tag (0 :: List.replicate (body.length - 1) r.byte) }
      (isDesk d = false → alike .badField)
      ∧ (isDesk d = true → (s.desk d).signedOn = 0 → alike .notSignedOn)
      ∧ (isDesk d = true → (s.desk d).signedOn ≠ 0 → ∃ t : Part, Completes .assume s t
        ∧ t = { (s.assumeItems d (byteList body 1) true).1 with lif := t.lif }
        ∧ t.lif = s.answer .assume tag (0 :: (s.assumeItems d (byteList body 1) true).2)))
  ∧ (∀ (s : Part) (tag : Byte) (body : List Byte), s.Takes .configPoints tag body → ∃ t : Part,
      Completes .configPoints s t ∧ t = { (configPointsHandler body s).1 with lif := t.lif }
      ∧ t.lif = s.answer .configPoints tag (configPointsHandler body s).2)
  ∧ (∀ (s : Part) (tag : Byte) (body : List Byte), s.Takes .conditions tag body → body.length = 3 →
      (isPoint (field16 body 0) = false ∨ 1 < byteAt body 2 →
        Completes .conditions s { s with lif := s.answer .conditions tag [0, ResultCode.badField.byte] })
      ∧ (isPoint (field16 body 0) = true → byteAt body 2 ≤ 1 → (s.pointS (field16 body 0)).configured = false →
        Completes .conditions s { s with lif := s.answer .conditions tag [0, ResultCode.badPoint.byte] }))

/-- R14 to R18, R87: a GROUP request. The generation and flag of the RELEASE record that R87 asks for follow R13 (log 8), and
that such records stand after all STATE records, in ascending area number, is the model's choice (log 36). -/
def Obligations.GroupRequestSwitchesItsMembers : Prop :=
  ∀ (s : Part) (tag : Byte) (body : List Byte), s.Takes .group tag body → s.PlantOk →
    (byteAt body 0 = 0 ∨ 64 < byteAt body 0 ∨ 1 < byteAt body 1 →
      Completes .group s { s with lif := s.answer .group tag [ResultCode.badField.byte] })
    ∧ (1 ≤ byteAt body 0 → byteAt body 0 ≤ 64 → byteAt body 1 ≤ 1 →
      getAt s.groups (byteAt body 0) = (byteAt body 1 == 1) →
        Completes .group s { s with lif := s.answer .group tag [ResultCode.repeated.byte] })
    ∧ (1 ≤ byteAt body 0 → byteAt body 0 ≤ 64 → byteAt body 1 ≤ 1 →
      getAt s.groups (byteAt body 0) ≠ (byteAt body 1 == 1) →
        ∃ t : Part, Completes .group s t ∧ t.lif = s.answer .group tag [0]
          ∧ s.GroupSwitched t (byteAt body 0) (byteAt body 1 == 1))

/-- R4, R107: what takes a point out of its queue or slot. R55 to R59: an ACK item, its checks in order, its refusal and its
acknowledgement, from a desk of the part; items from a desk outside 1..6 are in ItemsAreTakenInOrder. R87, R94: the RELEASE
record of an acknowledgement that leaves a RELEASING area CALM; its significant flag, which the table of R94 leaves out, follows
R13 and is the model's reading (log 8). -/
def Obligations.AckItemIsCheckedAndAcknowledged : Prop :=
  (∀ (s : Part) (p : Nat), isPoint p = true → s.Withdrew (s.withdraw p) p)
  ∧ ∀ (s : Part) (tag : Byte) (body : List Byte), s.Takes .ack tag body → body.length = 5 → isDesk (byteAt body 0) = true →
    let d := byteAt body 0
    let p := field16 body 1
    let code : ResultCode :=
      if isPoint p = false then .badField
      else if (s.pointS p).configured = false then .badPoint
      else if (s.desk d).signedOn = 0 then .notSignedOn
      else if allows (s.topLayer d) Perm.ack.set (s.pointS p).area = false then .denied
      else if (s.area (s.pointS p).area).pdesk ≠ d then .notYourArea
      else if (s.point p).state ≠ .unack ∧ (s.point p).state ≠ .rtnUnack then .nothingToAck
      else if word16 body 3 ≠ (s.point p).view then .staleView
      else .ok
    (code ≠ .ok → code ≠ .denied → code ≠ .notYourArea → code ≠ .staleView →
      Completes .ack s
        { s with
          lif := s.answer .ack tag
            (0 :: code.byte ::
              be16 (if code = .badField ∨ code = .badPoint then 0 else (s.point p).view.toNat)) })
    ∧ (code = .denied ∨ code = .notYourArea ∨ code = .staleView →
      ∃ t : Part, Completes .ack s t ∧ t.lif = s.answer .ack tag (0 :: code.byte :: be16 (s.point p).view.toNat)
        ∧ s.OnlyWrote t (s.records [(false, (s.generationOf (s.pointS p).area),
            { kind := .refusal, area := (s.pointS p).area, desk := d, credential := (s.desk d).signedOn, point := p
              priority := (s.pointS p).priority, value := w16 code.code })]))
    ∧ (code = .ok → s.InPlant p →
      ∃ t : Part, Completes .ack s t ∧ t.lif = s.answer .ack tag (0 :: 0 :: be16 (s.point p).view.toNat)
        ∧ s.Acknowledged t d p false)

/-- R118 to R120: an ACKNOWLEDGE press acts on the most urgent occupant of its desk, of several the one presented earliest:
it acknowledges it, or refreshes a stale slot, or is refused, or finds nothing. -/
def Obligations.AcknowledgePressActsOnTheMostUrgentSlot : Prop :=
  ∀ (s : Part) (d : Nat), s.resetLow = false → isDesk d = true → (s.desk d).ackPresses ≠ 0 →
    let u := s.modDesk d fun x => { x with ackPresses := x.ackPresses - 1 }
    let c := (s.desk d).signedOn
    (s.phase ≠ .running → Completes (.acknowledgePress d) s u)
    ∧ (s.phase = .running → (s.desk d).order = [] →
      ∃ t : Part, Completes (.acknowledgePress d) s t ∧ t.lif = s.lif
        ∧ u.OnlyWrote t (s.records [(false, 0, { kind := .buttonIdle, desk := d, credential := c, value := 1 })]))
    ∧ ∀ (k : Nat) (x : Slot), s.phase = .running → k ∈ (s.desk d).order → getAt (s.desk d).slots k = some x →
        (∀ j ∈ (s.desk d).order, s.slotPriority d k < s.slotPriority d j
          ∨ s.slotPriority d k = s.slotPriority d j ∧ (s.desk d).order.idxOf k ≤ (s.desk d).order.idxOf j) →
        s.InPlant x.point →
        let a := (s.pointS x.point).area
        let named : RecordFields :=
          { kind := .refusal, area := a, desk := d, credential := c, point := x.point
            priority := (s.pointS x.point).priority }
        (allows (s.topLayer d) Perm.ack.set a = false →
          ∃ t : Part, Completes (.acknowledgePress d) s t ∧ t.lif = s.lif
            ∧ u.OnlyWrote t (s.records [(false, (s.area a).generation, { named with value := 7 })]))
        ∧ (allows (s.topLayer d) Perm.ack.set a = true → x.view = (s.point x.point).view →
          ((s.point x.point).state = .unack ∨ (s.point x.point).state = .rtnUnack) →
          ∃ t : Part, Completes (.acknowledgePress d) s t ∧ t.lif = s.lif ∧ u.Acknowledged t d x.point true)
        ∧ (allows (s.topLayer d) Perm.ack.set a = true → x.view ≠ (s.point x.point).view →
          ∃ t : Part, Completes (.acknowledgePress d) s t ∧ t.lif = s.lif
            ∧ u.Wrote t (s.records [(false, (s.area a).generation,
                { named with kind := .stalePress, value := (s.point x.point).view })])
            ∧ t.desk d =
                { u.desk d with
                  slots := setAt (s.desk d).slots k
                    (some { x with view := (s.point x.point).view, silenced := false })
                  horn := .sounding, hornPattern := (t.desk d).hornPattern }
            ∧ u.HornMoved t d ∧ s.Fixed t ∧ s.PeopleKept t ∧ t.points = s.points ∧ t.areas = s.areas ∧ t.shelf = s.shelf
            ∧ t.sessions = s.sessions ∧ (∀ e ∈ numbers 6, e ≠ d → s.DeskKept t e) ∧ t.Told (deskEntry d))

/-! ### The desks -/

/-- R118, R122: a SILENCE request and a SILENCE press. What a press with nobody signed on does is the model's reading of the
rule (log 12). -/
def Obligations.SilenceRequestAndPress : Prop :=
  (∀ (s : Part) (tag : Byte) (body : List Byte), s.Takes .silence tag body →
    let d := byteAt body 0
    isDesk d = true → (s.desk d).signedOn ≠ 0 → (s.desk d).occupants ≠ [] →
    (∃ a ∈ numbers 16, (s.area a).pdesk = d ∧ allows (s.topLayer d) Perm.silence.set a = true) →
    ∃ t : Part, Completes .silence s t
      ∧ t.lif = s.answer .silence tag (0 :: be16 (getAt s.live.desks d).holdTime) ∧ s.Silenced t d)
  ∧ (∀ (s : Part) (d : Nat), s.resetLow = false → isDesk d = true → (s.desk d).silPresses ≠ 0 →
    let u := s.modDesk d fun x => { x with silPresses := x.silPresses - 1 }
    let c := (s.desk d).signedOn
    let may := ∃ a ∈ numbers 16, (s.area a).pdesk = d ∧ allows (s.topLayer d) Perm.silence.set a = true
    (s.phase ≠ .running → Completes (.silencePress d) s u)
    ∧ (s.phase = .running → c ≠ 0 → (s.desk d).occupants ≠ [] → may →
        ∃ t : Part, Completes (.silencePress d) s t ∧ t.lif = s.lif ∧ u.Silenced t d)
    ∧ (s.phase = .running → c ≠ 0 → (s.desk d).occupants = [] →
        ∃ t : Part, Completes (.silencePress d) s t ∧ t.lif = s.lif
          ∧ u.OnlyWrote t (s.records [(false, 0, { kind := .buttonIdle, desk := d, credential := c, value := 2 })]))
    ∧ (s.phase = .running → c = 0 ∨ ((s.desk d).occupants ≠ [] ∧ ¬may) →
        ∃ t : Part, Completes (.silencePress d) s t ∧ t.lif = s.lif
          ∧ u.OnlyWrote t (s.records [(false, 0, { kind := .refusal, desk := d, credential := c, value := 7 })])))

/-- R123, R129, R130: the expiry of a silence hold; a lamp test's start, its outputs and its end. That a LAMP_TEST which reloads
a running test queues its DESK report too is the model's reading (log 9), and that a test lights the lamps before the first frame
boundary after a commit is the model's choice (log 37). -/
def Obligations.SilenceHoldsAndLampTestsRunOut : Prop :=
  (∀ (s : Part) (d : Nat), s.resetLow = false → isDesk d = true →
    let idle : Timer := { remaining := 0, due := false }
    ((s.desk d).hold.due = false → Completes (.silenceHoldExpiry d) s s)
    ∧ ((s.desk d).hold.due = true → (∀ x ∈ (s.desk d).occupants, (s.point x.point).state ≠ .unack) →
        Completes (.silenceHoldExpiry d) s (s.modDesk d fun x => { x with hold := idle }))
    ∧ ((s.desk d).hold.due = true → (∃ x ∈ (s.desk d).occupants, (s.point x.point).state = .unack) →
        ∃ t : Part, Completes (.silenceHoldExpiry d) s t
          ∧ t.desk d =
              { s.desk d with
                hold := idle, horn := .sounding, hornPattern := (t.desk d).hornPattern
                slots := (s.desk d).slots.map fun o => o.map fun y => { y with silenced := false } }
          ∧ s.HornMoved t d ∧ s.WroteAnd t [] [deskEntry d] ∧ s.Fixed t ∧ s.PeopleKept t ∧ t.points = s.points
          ∧ t.areas = s.areas ∧ t.shelf = s.shelf
          ∧ t.sessions = s.sessions ∧ t.lif = s.lif ∧ (∀ e ∈ numbers 6, e ≠ d → s.DeskKept t e)
          ∧ t.Told (deskEntry d)))
  ∧ (∀ (s : Part) (tag : Byte) (body : List Byte), s.Takes .lampTest tag body → isDesk (byteAt body 0) = true →
    let d := byteAt body 0
    let n := if byteAt body 1 = 0 then 1 else if 60 < byteAt body 1 then 60 else byteAt body 1
    ∃ t : Part, Completes .lampTest s t ∧ t.lif = s.answer .lampTest tag [0, byteOf n]
      ∧ t.desk d =
          { s.desk d with
            lampTest := { remaining := n, due := false }
            horn := (t.desk d).horn, hornPattern := (t.desk d).hornPattern }
      ∧ s.HornMoved t d ∧ s.WroteAnd t [] [deskEntry d] ∧ s.Fixed t ∧ s.PeopleKept t ∧ t.points = s.points
      ∧ t.areas = s.areas ∧ t.shelf = s.shelf
      ∧ t.sessions = s.sessions ∧ (∀ e ∈ numbers 6, e ≠ d → s.DeskKept t e) ∧ t.Told (deskEntry d))
  ∧ (∀ (s : Part) (d : Nat), s.resetLow = false → s.phase = .running → (s.desk d).lampTest.remaining ≠ 0 →
      s.hornOut d = decide ((s.desk d).phase < 25) ∧ ∀ k, s.lampOut d k = true)
  ∧ (∀ (s : Part) (d : Nat), s.resetLow = false → isDesk d = true →
      ((s.desk d).lampTest.due = false → Completes (.lampTestExpiry d) s s)
      ∧ ((s.desk d).lampTest.due = true → ∃ t : Part, Completes (.lampTestExpiry d) s t
        ∧ t.desk d =
            { s.desk d with
              lampTest := { remaining := 0, due := false }
              horn := (t.desk d).horn, hornPattern := (t.desk d).hornPattern }
        ∧ s.HornMoved t d ∧ s.WroteAnd t [] [deskEntry d] ∧ s.Fixed t ∧ s.PeopleKept t ∧ t.points = s.points
        ∧ t.areas = s.areas ∧ t.shelf = s.shelf
        ∧ t.sessions = s.sessions ∧ t.lif = s.lif ∧ (∀ e ∈ numbers 6, e ≠ d → s.DeskKept t e)
        ∧ t.Told (deskEntry d)))

/-! ### Shelving and out of service -/

/-- R70, R74, R77, R78: the results of SHELVE, UNSHELVE, REMOVE and RESTORE, by their checks in order. -/
def Obligations.ShelvingRequestsAreCheckedInOrder : Prop :=
  ∀ (s : Part) (k : ReqKind) (tag : Byte) (body : List Byte), s.Takes k tag body →
    k ∈ [ReqKind.shelve, .unshelve, .remove, .restore] →
    let d := byteAt body 0
    let p := field16 body 1
    let perm : Perm := if k = .shelve then .shelve else if k = .unshelve then .unshelve
      else if k = .remove then .remove else .restore
    let st := (s.point p).state
    let code : ResultCode :=
      if isDesk d = false ∨ isPoint p = false ∨ (k = .shelve ∧ field16 body 3 = 0) then .badField
      else if (s.pointS p).configured = false then .badPoint
      else if (s.desk d).signedOn = 0 then .notSignedOn
      else if allows (s.topLayer d) perm.set (s.pointS p).area = false then .denied
      else if (s.area (s.pointS p).area).pdesk ≠ d then .notYourArea
      else if k = .shelve ∧ (s.pointS p).shelfLimit = 0 then .notShelvable
      else if k = .shelve ∧ st = .removed then .wrongState
      else if k = .shelve ∧ st ≠ .shelved ∧ (∀ n ∈ numbers 96, getAt s.shelf n ≠ none) then .noShelfSlot
      else if k = .unshelve ∧ st ≠ .shelved then .wrongState
      else if k = .restore ∧ st ≠ .removed then .wrongState
      else if k = .remove ∧ st = .removed then .repeated
      else .ok
    (∃ (t : Part) (reply : List Byte), Completes k.command s t ∧ t.lif = s.answer k tag (code.byte :: reply))
    ∧ (code = .denied ∨ code = .notYourArea →
      ∃ t : Part, Completes k.command s t ∧ t.lif = s.answer k tag [code.byte]
        ∧ s.OnlyWrote t (s.records [(false, s.generationOf (s.pointS p).area,
            { kind := .refusal, area := (s.pointS p).area, desk := d, credential := (s.desk d).signedOn, point := p
              priority := (s.pointS p).priority, value := w16 code.code })]))
    ∧ (code ≠ .ok → code ≠ .denied → code ≠ .notYourArea →
      Completes k.command s { s with lif := s.answer k tag [code.byte] })

/-- R70 to R72, R79, R87, R94: a SHELVE that passes, of a point not yet SHELVED and of a SHELVED one. The significant flag of a
RELEASE record, which the table of R94 leaves out, follows R13 and is the model's reading (log 8). -/
def Obligations.ShelveTakesAPointOut : Prop :=
  ∀ (s : Part) (tag : Byte) (body : List Byte), s.Takes .shelve tag body →
    let d := byteAt body 0
    let p := field16 body 1
    let granted := min (field16 body 3) (s.pointS p).shelfLimit
    s.MayAct d p .shelve → field16 body 3 ≠ 0 → (s.pointS p).shelfLimit ≠ 0 → (s.point p).state ≠ .removed →
    (∀ k ∈ numbers 96, (s.point p).state ≠ .shelved → getAt s.shelf k = none →
      (∀ j ∈ numbers 96, j < k → getAt s.shelf j ≠ none) →
      ∃ t : Part, Completes .shelve s t ∧ t.lif = s.answer .shelve tag (0 :: be16 granted ++ [byteOf k])
        ∧ s.Shelved t d p granted k)
    ∧ (∀ k, (s.point p).state = .shelved → (s.point p).shelfSlot = some k →
      ∃ t : Part, Completes .shelve s t ∧ t.lif = s.answer .shelve tag (0 :: be16 granted ++ [byteOf k])
        ∧ s.Extended t d p granted k)

/-- R69, R73 to R75, R78, R79: UNSHELVE, RESTORE and the expiry of a shelf slot bring a point back by the same logic. -/
def Obligations.PointsReturnToService : Prop :=
  (∀ (s : Part) (tag : Byte) (body : List Byte), s.Takes .unshelve tag body →
    s.MayAct (byteAt body 0) (field16 body 1) .unshelve → (s.point (field16 body 1)).state = .shelved →
    ∃ t : Part, Completes .unshelve s t
      ∧ t.lif = s.answer .unshelve tag (0 :: byteOf (t.point (field16 body 1)).state.code
          :: be16 (t.point (field16 body 1)).view.toNat)
      ∧ s.Returned t .unshelve (byteAt body 0) (s.desk (byteAt body 0)).signedOn (field16 body 1))
  ∧ (∀ (s : Part) (tag : Byte) (body : List Byte), s.Takes .restore tag body →
    s.MayAct (byteAt body 0) (field16 body 1) .restore → (s.point (field16 body 1)).state = .removed →
    ∃ t : Part, Completes .restore s t
      ∧ t.lif = s.answer .restore tag (0 :: byteOf (t.point (field16 body 1)).state.code
          :: be16 (t.point (field16 body 1)).view.toNat)
      ∧ s.Returned t .restore (byteAt body 0) (s.desk (byteAt body 0)).signedOn (field16 body 1))
  ∧ (∀ (s : Part) (k : Nat), s.resetLow = false → k ∈ numbers 96 →
    (∀ x, getAt s.shelf k = some x → x.timer.due = true → s.InPlant x.point → (s.point x.point).state = .shelved →
      (s.point x.point).shelfSlot = some k →
      ∃ t : Part, Completes (.shelfExpiry k) s t ∧ t.lif = s.lif ∧ s.Returned t .shelfExpire x.desk 0 x.point)
    ∧ ((∀ x ∈ getAt s.shelf k, x.timer.due = false) → Completes (.shelfExpiry k) s s))

/-- R77, R79, R87, R94: a REMOVE that passes. The significant flag of a RELEASE record, which the table of R94 leaves out,
follows R13 and is the model's reading (log 8). -/
def Obligations.RemoveTakesAPointOutOfService : Prop :=
  ∀ (s : Part) (tag : Byte) (body : List Byte), s.Takes .remove tag body →
    s.MayAct (byteAt body 0) (field16 body 1) .remove → (s.point (field16 body 1)).state ≠ .removed →
    ∃ t : Part, Completes .remove s t ∧ t.lif = s.answer .remove tag [0]
      ∧ s.Removed t (byteAt body 0) (field16 body 1)

/-! ### Flood control -/

/-- R82, R83, R86, R87, R91, R92, R94: the 1 s tick of an area, and a RELEASE_DEFERRED that passes: which points are released,
and the fill. The significant flag of the RELEASE record of a tick that also leaves FLOOD, which the table of R94 leaves out,
follows R13 and is the model's reading (log 8). -/
def Obligations.LoadDecaysAndDeferredPointsAreReleased : Prop :=
  (∀ (s : Part) (a : Nat), s.resetLow = false → isArea a = true →
    (getAt s.tset.loadDue a = 0 → Completes (.loadMonitorTick a) s s)
    ∧ (getAt s.tset.loadDue a ≠ 0 → ∃ t : Part, Completes (.loadMonitorTick a) s t ∧ t.lif = s.lif
      ∧ ({ s with
            tset := { s.tset with loadDue := setAt s.tset.loadDue a (getAt s.tset.loadDue a - 1) } } : Part).LoadTicked
          t a))
  ∧ ∀ (s : Part) (tag : Byte) (body : List Byte), s.Takes .releaseDeferred tag body →
    let d := byteAt body 0
    let a := byteAt body 1
    isDesk d = true → isArea a = true → (s.desk d).signedOn ≠ 0 →
    allows (s.topLayer d) Perm.release.set a = true → (s.area a).pdesk = d → (s.area a).deferredTotal ≠ 0 →
    ∃ t : Part, Completes .releaseDeferred s t
      ∧ t.lif = s.answer .releaseDeferred tag (0 :: be16 (s.area a).deferredTotal) ∧ s.ForciblyReleased t d a

/-! ### Authority -/

/-- R24 to R26, R28, R34, R36, R91, R122, R135, R137 to R139, R141, R142, R146, R148, R158, R189: the result code of a request by
the checks of its rule (`Part.resultOf`). R39, R59, R79, R91, R122, R151, R172, R189: a request answered with another result than
OK, GAP or an item list changes nothing, but for one REFUSAL record of a DENIED, NOT_YOUR_AREA or STALE_VIEW and the report that
it may call for; where every horn follows its slots that is JOURNAL_NEAR_FULL alone. REPORT_DISABLE has a statement of its own.
The place of BAD_FIELD for bits and codes outside R178 in R34 is the model's reading (log 16), and so is the area that the record
of a DENIED ELEVATE (log 11), ACCEPT or HAND_OFF (log 25) names; the area 0 of an OFFER to the own credential is its choice
(log 38). -/
def Obligations.RefusedRequestsChangeOnlyTheJournal : Prop :=
  ∀ (s : Part) (k : ReqKind) (tag : Byte) (body : List Byte), s.Takes k tag body → k ≠ .reportDisable →
    ∃ (t : Part) (code : Byte) (reply : List Byte), Completes k.command s t ∧ t.lif = { s.answer k tag (code :: reply) with
        continuation := t.lif.continuation }
      ∧ (∀ r ∈ s.resultOf k body, code = r.byte)
      ∧ (code ≠ 0 → code ≠ 24 →
          t = { s with lif := s.answer k tag (code :: reply) }
          ∨ ∃ r : JournalRecord, s.OnlyWrote t [r] ∧ r.kind = .refusal ∧ r.flags = 0 ∧ r.seq = s.rst.nextSeq
              ∧ r.time = s.now ∧ r.desk = byteAt body 0 ∧ r.credential = (s.desk (byteAt body 0)).signedOn
              ∧ r.area = s.refusalArea k body ∧ r.point = refusalPoint k body
              ∧ r.priority = (if refusalPoint k body = 0 then 0 else (s.pointS (refusalPoint k body)).priority)
              ∧ r.value = w16 code.toNat ∧ r.generation = s.generationOf r.area ∧ (code = 7 ∨ code = 8 ∨ code = 9)
              ∧ t.lif = s.answer k tag (code :: reply)
              ∧ (s.HornsFollow →
                let kept := if s.rst.nearFull = .armed ∧ t.rst.nearFull = .fired then
                    s.rst.queue s.journalSize { kind := .journalNearFull, subject := 0 }
                  else s.rst
                t.rst.reports = kept.reports ∧ t.rst.dropped = kept.dropped))

/-- R10, R11, R20 to R24, R39, R40: a SIGN_ON that passes. -/
def Obligations.SignOnSeatsACredential : Prop :=
  ∀ (s : Part) (tag : Byte) (body : List Byte) (c : Nat), s.Takes .signOn tag body →
    let d := byteAt body 0
    isDesk d = true → c ∈ numbers 64 → field32 body 1 ≠ 0 → (s.cred c).valid = true →
    (s.cred c).badge.toNat = field32 body 1 →
    (∀ j ∈ numbers 64, (s.cred j).valid = true → (s.cred j).badge = (s.cred c).badge → j = c) →
    getAt s.credDesk c = 0 → (s.desk d).signedOn = 0 → permsWithin Perm.view.set (s.effPerms c) = true →
    ∃ t : Part, Completes .signOn s t ∧ t.lif = s.answer .signOn tag [0, byteOf c] ∧ s.SignedOn t d c

/-- R108, R110: the returns of a desk that areas leave. R10, R11, R25, R39, R40, R109, R149: a SIGN_OFF that passes. That it
abandons several sessions in ascending session number is the model's choice (log 45). -/
def Obligations.SignOffUnseatsACredential : Prop :=
  (∀ (s : Part) (newDesk : Nat → Nat) (d : Nat), isDesk d = true → s.ReturnsMade (s.returnsAt newDesk d) newDesk d)
  ∧ ∀ (s : Part) (tag : Byte) (body : List Byte), s.Takes .signOff tag body →
    let d := byteAt body 0
    isDesk d = true → (s.desk d).signedOn ≠ 0 → (∀ a ∈ numbers 16, (s.area a).responsible ≠ (s.desk d).signedOn) →
    ∃ t : Part, Completes .signOff s t ∧ t.lif = s.answer .signOff tag [0] ∧ s.SignedOff t d
      ∧ (s.SignOnsAgree → ∀ k ∈ numbers 4, getAt (t.desk d).slots k = none)

/-- R26 to R30, R39, R40: an ELEVATE that passes pushes one layer and touches nothing else; DROP takes the top layer, and an
expiry takes its layer and every layer above it. -/
def Obligations.LayersArePushedAndEnd : Prop :=
  (∀ (s : Part) (tag : Byte) (body : List Byte) (c : Nat) (below : Layer), s.Takes .elevate tag body →
    let d := byteAt body 0
    let perms := word16 body 5
    let sc := word16 body 7
    let minutes := if 480 < field16 body 9 then 480 else field16 body 9
    isDesk d = true → perms.toNat < 4096 → minutes ≠ 0 → c ∈ numbers 64 → field32 body 1 ≠ 0 →
    (s.cred c).valid = true → (s.cred c).badge.toNat = field32 body 1 →
    (∀ j ∈ numbers 64, (s.cred j).valid = true → (s.cred j).badge = (s.cred c).badge → j = c) →
    (s.desk d).signedOn ≠ 0 → permsWithin (Perm.elevate.set ||| perms) (s.effPerms c) = true →
    sc &&& ~~~(s.cred c).scope = 0 → (s.desk d).stack.length < 4 → (s.desk d).stack.getLast? = some below →
    ∃ t : Part, Completes .elevate s t
      ∧ t.lif = s.answer .elevate tag (0 :: be16 minutes ++ [byteOf ((s.desk d).stack.length + 1)])
      ∧ s.Restacked t d ((s.desk d).stack ++
          [{ perms := below.perms ||| perms, scope := below.scope ||| sc
             elev := some
              { grantor := c, grantPerms := perms, grantScope := sc, minutes := minutes
                timer := { remaining := minutes * 60, due := false } } }])
      ∧ s.Wrote t (s.records [(false, 0, { kind := .elevate, desk := d, credential := c, value := w16 minutes })]))
  ∧ (∀ (s : Part) (tag : Byte) (body : List Byte), s.Takes .drop tag body → isDesk (byteAt body 0) = true →
    (s.desk (byteAt body 0)).signedOn ≠ 0 → 2 ≤ (s.desk (byteAt body 0)).stack.length →
    let d := byteAt body 0
    let n := (s.desk d).stack.length
    ∃ t : Part, Completes .drop s t ∧ t.lif = s.answer .drop tag [0, byteOf (n - 1)]
      ∧ s.Restacked t d ((s.desk d).stack.take (n - 1))
      ∧ s.Wrote t (s.records (layerEnds d n 1 (s.desk d).stack)))
  ∧ (∀ (s : Part) (d n : Nat) (x : Layer) (e : Elevation), s.resetLow = false → isDesk d = true → 2 ≤ n →
    (s.desk d).stack[n - 1]? = some x → x.elev = some e →
    (e.timer.due = false → Completes (.layerExpiry d n) s s)
    ∧ (e.timer.due = true → ∃ t : Part, Completes (.layerExpiry d n) s t ∧ t.lif = s.lif
      ∧ s.Restacked t d ((s.desk d).stack.take (n - 1))
      ∧ s.Wrote t (s.records (layerEnds d n 2 (s.desk d).stack))))

/-- R10 to R13, R32, R33, R39, R109: an ASSUME item, its checks in order, its refusal and its success. In a request of one area
its AUTHORITY report is that of the first success (log 15). -/
def Obligations.AssumeTakesAnArea : Prop :=
  ∀ (s : Part) (tag : Byte) (body : List Byte), s.Takes .assume tag body → body.length = 2 →
    let d := byteAt body 0
    let a := byteAt body 1
    let code : ResultCode :=
      if isArea a = false then .badField
      else if allows (s.baseLayer d) (Perm.take.set ||| Perm.ack.set) a = false then .denied
      else if (s.area a).responsible = (s.desk d).signedOn then .repeated
      else if (s.area a).responsible ≠ 0 ∨ (s.area a).session ≠ 0 then .areaBusy
      else .ok
    isDesk d = true → (s.desk d).signedOn ≠ 0 →
    (code = .ok → ∃ t : Part, Completes .assume s t ∧ t.lif = s.answer .assume tag [0, 0] ∧ s.Assumed t d a)
    ∧ (code = .denied → ∃ t : Part, Completes .assume s t ∧ t.lif = s.answer .assume tag [0, code.byte]
      ∧ s.OnlyWrote t (s.records [(false, (s.area a).generation,
          { kind := .refusal, area := a, desk := d, credential := (s.desk d).signedOn, value := 7 })]))
    ∧ (code ≠ .ok → code ≠ .denied →
      Completes .assume s { s with lif := s.answer .assume tag [0, code.byte] })

/-- R34, R35, R108, R109: an edit of a credential in RUNNING that passes, by a desk with CONFIGURE. That the edit is turned away
for permission bits 12 to 15 and for a status outside R178 is the model's reading (log 16). -/
def Obligations.RunningEditRebuildsTheStack : Prop :=
  ∀ (s : Part) (tag : Byte) (body : List Byte), s.Takes .configCredential tag body → s.phase = .running →
    let d := byteAt body 0
    let c := byteAt body 1
    let x : Credential :=
      { valid := true, badge := word32 body 3, role := byteAt body 7, grant := word16 body 8, deny := word16 body 10
        scope := word16 body 12 }
    isDesk d = true → (s.desk d).signedOn ≠ 0 → allowsPlantWide (s.topLayer d) Perm.configure.set = true →
    c ∈ numbers 64 → byteAt body 2 = 1 → x.badge ≠ 0 → x.role ∈ numbers 8 → x.grant.toNat < 4096 → x.deny.toNat < 4096 →
    (∀ j ∈ numbers 64, j ≠ c → (s.cred j).valid = true → (s.cred j).badge ≠ x.badge) →
    (∀ a ∈ numbers 16, (s.area a).responsible = c →
      permsWithin Perm.ack.set (effectivePerms (getAt s.live.roles x.role) x) = true ∧ inScope x.scope a = true) →
    s.SignOnsAgree →
    ∃ t : Part, Completes .configCredential s t ∧ t.lif = s.answer .configCredential tag [0] ∧ s.Edited t c x

/-- R36, R37, R39, R108 to R110: a REVOKE that passes releases everything the credential held or granted. -/
def Obligations.RevokeReleasesEverything : Prop :=
  ∀ (s : Part) (tag : Byte) (body : List Byte), s.Takes .revoke tag body →
    let d := byteAt body 0
    let c := byteAt body 1
    isDesk d = true → c ∈ numbers 64 → (s.desk d).signedOn ≠ 0 →
    allowsPlantWide (s.topLayer d) Perm.configure.set = true → (s.cred c).valid = true → s.SignOnsAgree →
    ∃ t : Part, Completes .revoke s t ∧ t.lif = s.answer .revoke tag [0] ∧ s.Revoked t d c

/-! ### Shift handover -/

/-- R132 to R136, R151: an OFFER that passes. -/
def Obligations.OfferCreatesASession : Prop :=
  ∀ (s : Part) (tag : Byte) (body : List Byte) (c n : Nat), s.Takes .offer tag body →
    let d := byteAt body 0
    let l := byteList body 5
    isDesk d = true → (∀ a ∈ l, isArea a = true) → l.Nodup → (s.desk d).signedOn ≠ 0 →
    (∀ a ∈ l, allows (s.baseLayer d) Perm.give.set a = true ∧ (s.area a).responsible = (s.desk d).signedOn) →
    c ∈ numbers 64 → field32 body 1 ≠ 0 → (s.cred c).valid = true → (s.cred c).badge.toNat = field32 body 1 →
    (∀ j ∈ numbers 64, (s.cred j).valid = true → (s.cred j).badge = (s.cred c).badge → j = c) →
    getAt s.credDesk c ≠ 0 → c ≠ (s.desk d).signedOn →
    (∀ a ∈ l, allows (s.baseLayer (getAt s.credDesk c)) (Perm.take.set ||| Perm.ack.set) a = true) →
    (∀ a ∈ l, (s.area a).session = 0) →
    n ∈ numbers 4 → (s.session n).state = .idle → (∀ m ∈ numbers 4, m < n → (s.session m).state ≠ .idle) →
    ∃ t : Part, Completes .offer s t ∧ t.lif = s.answer .offer tag [0, byteOf n] ∧ s.OfferMade t d c n l

/-- R138: TAKE_UP after the common checks. -/
def Obligations.TakeUpBeginsTheReview : Prop :=
  ∀ (s : Part) (tag : Byte) (body : List Byte), s.Takes .takeUp tag body →
    let d := byteAt body 0
    let n := byteAt body 1
    s.PartyAt d n .incoming →
    ((s.session n).state = .reviewing ∨ (s.session n).state = .ready →
      Completes .takeUp s { s with lif := s.answer .takeUp tag [ResultCode.repeated.byte] })
    ∧ ((s.session n).state = .offered →
      ∃ t : Part, Completes .takeUp s t ∧ t.lif = s.answer .takeUp tag (0 :: be16 s.live.plant.reviewTime)
        ∧ s.SessionBecame t n
            { s.session n with
              state := .reviewing, timer := { remaining := s.live.plant.reviewTime, due := false } }
            (s.records [(false, 0,
              { kind := .handoverTakeup, desk := d, credential := (s.session n).incoming, value := w16 n })])
        ∧ t.Told (sessionEntry n))

/-- R139, R140: one REVIEW_NEXT of an area not yet SWEPT. The snapshot generation stands in every reply (log 13). -/
def Obligations.ReviewNextSweepsStandingPoints : Prop :=
  ∀ (s : Part) (tag : Byte) (body : List Byte) (e : ReviewEntry), s.Takes .reviewNext tag body →
    let n := byteAt body 1
    let a := byteAt body 2
    s.PartyAt (byteAt body 0) n .incoming → (s.session n).state = .reviewing → s.EntryIs n a e →
    (e.sweep = .notStarted ∨ e.sweep = .sweeping) →
    let e1 := if e.sweep = .notStarted then
        { e with
          sweep := .sweeping, snapGen := (s.area a).generation, snapSeq := s.rst.nextSeq, deltaCursor := s.rst.nextSeq }
      else e
    ∃ (t : Part) (seen unseen : List Nat) (e2 : ReviewEntry), Completes .reviewNext s t
      ∧ (numbers 1024).filter (fun p => (s.pointS p).configured && (s.pointS p).area == a && decide (e.cursor ≤ p))
          = seen ++ unseen
      ∧ (seen.filter fun p => (s.point p).state != .normal).length ≤ 16
      ∧ (unseen ≠ [] → (seen.filter fun p => (s.point p).state != .normal).length = 16
          ∧ ∃ last, seen.getLast? = some last ∧ (s.point last).state ≠ .normal ∧ e2 = { e1 with cursor := last + 1 })
      ∧ (unseen = [] → e2 = { e1 with cursor := 1025, sweep := .swept })
      ∧ t.lif = s.answer .reviewNext tag
          (0 :: (if unseen = [] then 1 else 0)
            :: byteOf (seen.filter fun p => (s.point p).state != .normal).length
            :: be16 e2.cursor ++ be16 e2.snapGen.toNat
            ++ (seen.filter fun p => (s.point p).state != .normal).flatMap s.standingBytes)
      ∧ s.SessionBecame t n
          { s.session n with entries := (s.session n).entries.map fun x => if x.area = a then e2 else x } []
      ∧ (e2.sweep ≠ e.sweep → t.Told (sessionEntry n))

/-- R142, R143: one REVIEW_DELTA of a SWEPT area, by the age of its delta cursor. That the reply carries the snapshot generation
also with the end flag off is the model's reading (log 13), and so is GAP for every age above the number of retained records,
also of a cursor beyond the next sequence number (log 24). -/
def Obligations.ReviewDeltaReadsTheJournal : Prop :=
  ∀ (s : Part) (tag : Byte) (body : List Byte) (e : ReviewEntry), s.Takes .reviewDelta tag body →
    let n := byteAt body 1
    let a := byteAt body 2
    let age := (s.rst.nextSeq - e.deltaCursor).toNat
    s.PartyAt (byteAt body 0) n .incoming → (s.session n).state = .reviewing → s.EntryIs n a e → e.sweep = .swept →
    (s.rst.journal.length < age →
      ∃ t : Part, Completes .reviewDelta s t ∧ t.lif = s.answer .reviewDelta tag [ResultCode.gap.byte]
        ∧ s.SessionBecame t n
            { s.session n with
              entries := (s.session n).entries.map fun x => if x.area = a then
                  { area := a, sweep := .notStarted, cursor := s.firstPoint a, snapGen := 0, snapSeq := 0
                    deltaCursor := 0, confGen := 0 }
                else x } []
        ∧ t.Told (sessionEntry n))
    ∧ (age ≤ s.rst.journal.length →
      ∃ (t : Part) (read unread : List JournalRecord) (e2 : ReviewEntry), Completes .reviewDelta s t
        ∧ s.rst.journal.drop (s.rst.journal.length - age) = read ++ unread
        ∧ (read.filter fun x => x.significantIn a).length ≤ 11
        ∧ (unread ≠ [] → (read.filter fun x => x.significantIn a).length = 11
            ∧ (∃ last, read.getLast? = some last ∧ last.significantIn a = true)
            ∧ e2 = { e with deltaCursor := s.rst.nextSeq - BitVec.ofNat 32 unread.length })
        ∧ (unread = [] → e2 =
            { e with
              deltaCursor := s.rst.nextSeq, snapGen := (s.area a).generation, snapSeq := s.rst.nextSeq })
        ∧ t.lif = s.answer .reviewDelta tag
            (0 :: (if unread = [] then 1 else 0) :: byteOf (read.filter fun x => x.significantIn a).length
              :: be16 e2.snapGen.toNat ++ (read.filter fun x => x.significantIn a).flatMap recordBytes)
        ∧ s.SessionBecame t n
            { s.session n with entries := (s.session n).entries.map fun x => if x.area = a then e2 else x } [])

/-- R141: CONFIRM_AREA of an area of the session by its incoming party. -/
def Obligations.ConfirmAreaComparesGenerations : Prop :=
  ∀ (s : Part) (tag : Byte) (body : List Byte) (e : ReviewEntry), s.Takes .confirmArea tag body →
    let d := byteAt body 0
    let n := byteAt body 1
    let a := byteAt body 2
    let g := word16 body 3
    let reviewed := (s.session n).state = .reviewing ∧ e.sweep = .swept
    s.PartyAt d n .incoming → s.EntryIs n a e →
    (¬reviewed →
      Completes .confirmArea s { s with lif := s.answer .confirmArea tag [ResultCode.wrongState.byte] })
    ∧ (reviewed → g ≠ e.snapGen →
      Completes .confirmArea s { s with lif := s.answer .confirmArea tag [ResultCode.badField.byte] })
    ∧ (reviewed → g = e.snapGen → e.snapGen ≠ (s.area a).generation →
      Completes .confirmArea s
        { s with
          lif := s.answer .confirmArea tag (ResultCode.staleReview.byte :: be16 (s.area a).generation.toNat) })
    ∧ (reviewed → g = e.snapGen → e.snapGen = (s.area a).generation →
      ∃ t : Part, Completes .confirmArea s t ∧ t.lif = s.answer .confirmArea tag [0]
        ∧ (let entries := (s.session n).entries.map fun x =>
              if x.area = a then { e with sweep := .confirmed, confGen := g } else x
          s.SessionBecame t n
            (if entries.all fun x => x.sweep == .confirmed then
              { s.session n with entries := entries, state := .ready, accepted := false, handedOff := false }
            else { s.session n with entries := entries })
            (s.records [(false, (s.area a).generation,
              { kind := .handoverConfirm, area := a, desk := d, credential := (s.session n).incoming
                value := w16 n })]))
        ∧ t.Told (sessionEntry n))

/-- R108, R109, R146, R147: ACCEPT and HAND_OFF in READY: the first of them sets its flag, the second completes the handover. -/
def Obligations.AcceptAndHandOffComplete : Prop :=
  ∀ (s : Part) (q : Party) (tag : Byte) (body : List Byte),
    let k : ReqKind := if q = .incoming then .accept else .handOff
    let d := byteAt body 0
    let n := byteAt body 1
    s.Takes k tag body → s.PartyAt d n q →
    ((s.session n).state ≠ .ready →
      Completes k.command s { s with lif := s.answer k tag [ResultCode.notReady.byte] })
    ∧ ((s.session n).state = .ready → (s.session n).flag q = true →
      Completes k.command s { s with lif := s.answer k tag [ResultCode.repeated.byte] })
    ∧ ((s.session n).state = .ready → (s.session n).flag q = false → (s.session n).flag q.other = false →
      (∀ a ∈ (s.session n).areas, s.partyPasses n q a = true) →
      ∃ t : Part, Completes k.command s t ∧ t.lif = s.answer k tag [0, 0]
        ∧ s.SessionBecame t n
            (if q = .incoming then { s.session n with accepted := true } else { s.session n with handedOff := true }) []
        ∧ t.Told (sessionEntry n))
    ∧ ((s.session n).state = .ready → (s.session n).flag q = false → (s.session n).flag q.other = true →
      (∀ a ∈ (s.session n).areas, isArea a = true ∧ s.partyPasses n q a = true ∧ s.partyPasses n q.other a = true) →
      (s.session n).areas.Nodup →
      ∃ t : Part, Completes k.command s t ∧ t.lif = s.answer k tag [0, 1] ∧ s.Completed t d n)

/-- R148, R149, R151: WITHDRAW and the expiry of a session's timer abandon the session. -/
def Obligations.SessionsAreAbandoned : Prop :=
  (∀ (s : Part) (tag : Byte) (body : List Byte), s.Takes .withdraw tag body →
    s.PartyAt (byteAt body 0) (byteAt body 1) .outgoing →
    ∃ t : Part, Completes .withdraw s t ∧ t.lif = s.answer .withdraw tag [0]
      ∧ s.Abandoned t (byteAt body 1) 1 (byteAt body 0))
  ∧ (∀ (s : Part) (n : Nat), s.resetLow = false → n ∈ numbers 4 →
    ((s.session n).state = .idle ∨ (s.session n).timer.due = false → Completes (.sessionTimerExpiry n) s s)
    ∧ ((s.session n).state ≠ .idle → (s.session n).timer.due = true →
      ∃ t : Part, Completes (.sessionTimerExpiry n) s t ∧ t.lif = s.lif
        ∧ s.Abandoned t n (if (s.session n).state = .offered then 2 else 3) 0))

/-- R144: what the notice of a significant change does to the session of the area. -/
def Obligations.NoticeOfASignificantChange : Prop :=
  ∀ (x : Session) (a : Nat),
    (x.state = .idle ∨ x.state = .offered → x.notice a = x)
    ∧ ((∀ e ∈ x.entries, e.area = a → e.sweep ≠ .confirmed) → x.notice a = x)
    ∧ (x.state = .reviewing → x.notice a =
        { x with
          entries := x.entries.map fun e => if e.area = a ∧ e.sweep = .confirmed then { e with sweep := .swept } else e })
    ∧ (x.state = .ready → (∃ e ∈ x.entries, e.area = a ∧ e.sweep = .confirmed) → x.notice a =
        { x with
          state := .reviewing, accepted := false, handedOff := false
          entries := x.entries.map fun e => if e.area = a ∧ e.sweep = .confirmed then { e with sweep := .swept } else e })

/-! ### Status, journal, reports and time -/

/-- R63, R95, R115, R153, R177: the five status requests answer from the part as it stands and change nothing else. R178, R180 to
R183: the codes, and the fields of the bodies of points, areas, desks, sessions, the part and journal records at their offsets.
That a POINT_STATUS reads all its points in one step is the model's reading (log 21); the zeros in the view, time and flag of an
empty slot (log 42) and in bits that no field takes (log 43) are its choices. -/
def Obligations.StatusRequestsChangeNothing : Prop :=
  CodesFollow ∧ (∀ x : JournalRecord, x.LaidOut) ∧ (∀ x : Session, x.LaidOut)
  ∧ (∀ s : Part, s.StatusLaidOut ∧ ∀ n : Nat, s.PointLaidOut n ∧ s.AreaLaidOut n ∧ (isDesk n = true → s.DeskLaidOut n))
  ∧ ∀ (s : Part) (tag : Byte) (body : List Byte),
    (s.Takes .partStatus tag body →
      Completes .partStatus s { s with lif := s.answer .partStatus tag (0 :: s.statusBytes) }
      ∧ s.statusBytes.length = 34)
    ∧ (s.Takes .areaStatus tag body → isArea (byteAt body 0) = true →
      Completes .areaStatus s { s with lif := s.answer .areaStatus tag (0 :: s.areaItem (byteAt body 0)) }
      ∧ (s.areaItem (byteAt body 0)).length = 45
      ∧ (s.areaItem (byteAt body 0)).extract 11 13 = be16 (s.area (byteAt body 0)).load)
    ∧ (s.Takes .deskStatus tag body → isDesk (byteAt body 0) = true →
      Completes .deskStatus s
        { s with
          lif := s.answer .deskStatus tag
            (0 :: s.deskItem (byteAt body 0) ++ (s.desk (byteAt body 0)).rotation.map byteOf) }
      ∧ (s.deskItem (byteAt body 0)).length = 93)
    ∧ (s.Takes .sessionStatus tag body → byteAt body 0 ∈ numbers 4 →
      let x := s.session (byteAt body 0)
      let l := x.entries.drop ((if byteAt body 1 = 0 then 1 else byteAt body 1) - 1)
      (x.state = .idle → Completes .sessionStatus s { s with lif := s.answer .sessionStatus tag [0, 0] })
      ∧ (x.state ≠ .idle →
        Completes .sessionStatus s
          { s with
            lif := s.answer .sessionStatus tag
              (0 :: x.header ++ (if 14 < l.length then 1 else 0) :: (l.take 14).flatMap entryBytes) }
        ∧ x.header.length = 11))
    ∧ (s.Takes .pointStatus tag body → body.length = 2 →
      Completes .pointStatus s
        { s with
          lif := s.answer .pointStatus tag
            (if isPoint (field16 body 0) = false then [0, 1, ResultCode.badField.byte]
            else if (s.pointS (field16 body 0)).configured = false then [0, 1, ResultCode.badPoint.byte]
            else 0 :: 1 :: 0 :: s.pointItem (field16 body 0)) }
      ∧ (s.pointItem (field16 body 0)).length = 20)
    ∧ (s.Takes .pointStatus tag body →
      let l := (List.range (body.length / 2)).map fun i => s.pointAnswer (field16 body (2 * i))
      ∃ n : Nat, n ≤ l.length
        ∧ Completes .pointStatus s { s with lif := s.answer .pointStatus tag (0 :: byteOf n :: (l.take n).flatten) }
        ∧ 2 + (l.take n).flatten.length ≤ 240
        ∧ (n < l.length → 240 < 2 + (l.take (n + 1)).flatten.length))

/-- R156, R158, R159: JOURNAL_READ by the age of the number asked for, and JOURNAL_MARK. An s beyond the next sequence number
counts as newest of all (log 14). -/
def Obligations.JournalReadAndMark : Prop :=
  (∀ (s : Part) (tag : Byte) (body : List Byte), s.Takes .journalRead tag body →
    1 ≤ byteAt body 4 → byteAt body 4 ≤ 11 →
    let n := s.rst.journal.length
    let age := (s.rst.nextSeq - word32 body 0).toNat
    let oldest := (s.rst.nextSeq - BitVec.ofNat 32 n).toNat
    let reply := fun (gap : Byte) (l : List JournalRecord) =>
      s.answer .journalRead tag
        (0 :: gap :: byteOf l.length :: be32 oldest ++ be32 s.rst.nextSeq.toNat ++ l.flatMap recordBytes)
    (age = 0 ∨ 2147483648 < age → Completes .journalRead s { s with lif := reply 0 [] })
    ∧ (1 ≤ age → age ≤ 2147483648 → age ≤ n →
        Completes .journalRead s { s with lif := reply 0 ((s.rst.journal.drop (n - age)).take (byteAt body 4)) })
    ∧ (n < age → age ≤ 2147483648 →
        Completes .journalRead s { s with lif := reply 1 (s.rst.journal.take (byteAt body 4)) }))
  ∧ (∀ (s : Part) (tag : Byte) (body : List Byte), s.Takes .journalMark tag body →
    let q := word32 body 0
    let age := fun (x : W32) => (s.rst.nextSeq - x).toNat
    let newer := 2147483648 < age s.rst.mark ∨ 2147483648 < age q ∨ age q < age s.rst.mark
    let mark := if age q = 0 ∨ 2147483648 < age q then s.rst.nextSeq - 1 else q
    let count := min s.rst.journal.length (age mark - 1)
    (¬newer → Completes .journalMark s { s with lif := s.answer .journalMark tag (1 :: be32 s.rst.mark.toNat) })
    ∧ (newer → Completes .journalMark s
        { s with
          rst :=
            { s.rst with
              mark := mark, unarchived := count
              nearFull :=
                if count < s.journalSize - s.journalSize / 4 then .armed else s.rst.nearFull }
          lif := s.answer .journalMark tag (0 :: be32 mark.toNat) }))

/-- R3, R6, R40, R114, R131, R152, R160, R162: which reports an event calls for, and their order; R162, R163: what queueing one
does; R165, R174: REPORT_ENABLE and REPORT_DISABLE. That an event reports the fields that differ after it, and all sixteen lamp
sources among them, is the model's reading (logs 22 and 34). -/
def Obligations.ReportSettings : Prop :=
  (∀ (s t : Part) (always : List ReportEntry),
    (∀ e ∈ always,
      e.kind = .point ∧ e.subject ∈ numbers 1024 ∨ (e.kind = .desk ∨ e.kind = .authority) ∧ e.subject ∈ numbers 6) →
    (∀ e : ReportEntry, e ∈ eventReports s t always ↔ s.CallsFor t e ∨ e ∈ always)
    ∧ (eventReports s t always).Pairwise fun x y =>
        x.kind.code < y.kind.code ∨ x.kind.code = y.kind.code ∧ x.subject < y.subject)
  ∧ (∀ (size : Nat) (r : Rst) (e : ReportEntry),
    let on := if e.kind.code ≤ 6 then getAt r.enabled e.kind.code else true
    let overflow : ReportEntry := { kind := .overflow, subject := 0 }
    let room := (r.reports.filter fun x => x.kind != .overflow).length < 4096 - size - 1
    (on = false ∨ e ∈ r.reports → r.queue size e = r)
    ∧ (on = true → e ∉ r.reports → room → r.queue size e = { r with reports := r.reports ++ [e] })
    ∧ (on = true → e ∉ r.reports → ¬room → r.queue size e =
        { r with
          dropped := min 65535 (r.dropped + 1)
          reports := if overflow ∈ r.reports then r.reports else r.reports ++ [overflow] }))
  ∧
  (∀ (s : Part) (tag : Byte) (body : List Byte), s.Takes .reportEnable tag body →
    let l := byteList body 0
    ((∃ k ∈ l, k = 0 ∨ 8 < k) →
      Completes .reportEnable s { s with lif := s.answer .reportEnable tag [ResultCode.badField.byte] })
    ∧ ((∀ k ∈ l, 1 ≤ k ∧ k ≤ 8) →
      ∃ t : Part, Completes .reportEnable s t
        ∧ t.lif = s.answer .reportEnable tag
            [if ∀ k ∈ l, k ≤ 6 → getAt s.rst.enabled k = true then ResultCode.repeated.byte else 0]
        ∧ t = { s with rst := { s.rst with enabled := t.rst.enabled }, lif := t.lif }
        ∧ ∀ k ∈ numbers 6, getAt t.rst.enabled k = (getAt s.rst.enabled k || decide (k ∈ l))))
  ∧ (∀ (s : Part) (tag : Byte) (body : List Byte), s.Takes .reportDisable tag body →
    let l := byteList body 0
    ((∃ k ∈ l, k = 0 ∨ 6 < k) →
      Completes .reportDisable s { s with lif := s.answer .reportDisable tag [ResultCode.badField.byte] })
    ∧ ((∀ k ∈ l, 1 ≤ k ∧ k ≤ 6) →
      ∃ t : Part, Completes .reportDisable s t
        ∧ t.lif =
            { s.answer .reportDisable tag
                [if ∀ k ∈ l, getAt s.rst.enabled k = false then ResultCode.repeated.byte else 0] with
              continuation := if 4 ∈ l then none else s.lif.continuation }
        ∧ t = { s with rst := { s.rst with enabled := t.rst.enabled, reports := t.rst.reports }, lif := t.lif }
        ∧ t.rst.reports = (s.rst.reports.filter fun e => decide (e.kind.code ∉ l))
        ∧ ∀ k ∈ numbers 6, getAt t.rst.enabled k = (getAt s.rst.enabled k && decide (k ∉ l))))

/-- R66: SET_TIME, in every phase and from any clock. -/
def Obligations.SetTimeSetsTheClockAlone : Prop :=
  ∀ (s : Part) (tag : Byte) (body : List Byte), s.Offered .setTime tag body → body.length = 4 →
    Completes .setTime s
      { s with
        tset := { s.tset with clock := word32 body 0 }
        lif := s.answer .setTime tag (0 :: be32 s.tset.clock.toNat) }

/-! ### Configuration -/

/-- R19, R185, R186: in LOADING each configuration request whose fields pass writes the staged copy alone. -/
def Obligations.LoadingWritesTheStagedCopy : Prop :=
  ∀ (s : Part) (k : ReqKind) (tag : Byte) (body : List Byte), s.Takes k tag body → s.phase = .loading →
    let wrote := fun (c : Cfg) => Completes k.command s { s with staged := c, lif := s.answer k tag [0] }
    let refused := Completes k.command s { s with lif := s.answer k tag [ResultCode.badField.byte] }
    let b := byteAt body
    let w := field16 body
    (k = .configPlant →
      let ok := (b 0 ≤ 15 ∧ b 1 ≤ 15 ∧ b 2 ≤ 15 ∧ b 3 ≤ 15) ∧ (30 ≤ w 5 ∧ w 5 ≤ 3600) ∧ (60 ≤ w 7 ∧ w 7 ≤ 7200)
        ∧ 1 ≤ b 10 ∧ b 10 ≤ 60
      (¬ok → refused)
      ∧ (ok → wrote
          { s.staged with
            plant :=
              { weights := #v[b 0, b 1, b 2, b 3], jField := b 4, offerTime := w 5, reviewTime := w 7, pacing := b 9
                quietTime := b 10 } }))
    ∧ (k = .configArea →
      (isArea (b 0) = false → refused)
      ∧ (isArea (b 0) = true → wrote
          { s.staged with
            areas := setAt s.staged.areas (b 0)
              { fallback := b 1, high := w 2, low := w 4, cutoff := b 6, review := b 7, releaseRate := b 8 } }))
    ∧ (k = .configPoints → body.length = 8 →
      let ok := isPoint (w 0) = true ∧ (b 2 = 0 ∨ b 2 = 1 ∧ b 5 ≤ 64 ∧ w 6 ≤ 1440)
      (¬ok → Completes k.command s { s with lif := s.answer k tag [0, ResultCode.badField.byte] })
      ∧ (ok → Completes k.command s
          { s with
            lif := s.answer k tag [0, 0]
            staged :=
              { s.staged with
                points := setAt s.staged.points (w 0)
                  (if b 2 = 0 then { configured := false, area := 1, priority := 4, group := 0, shelfLimit := 0 }
                  else { configured := true, area := b 3, priority := b 4, group := b 5, shelfLimit := w 6 }) } }))
    ∧ (k = .configRole →
      let ok := (1 ≤ b 0 ∧ b 0 ≤ 8) ∧ w 1 < 4096
      (¬ok → refused) ∧ (ok → wrote { s.staged with roles := setAt s.staged.roles (b 0) (word16 body 1) }))
    ∧ (k = .configCredential →
      let ok := b 0 = 0 ∧ (1 ≤ b 1 ∧ b 1 ≤ 64) ∧ b 2 ≤ 1 ∧ w 8 < 4096 ∧ w 10 < 4096
      (¬ok → refused)
      ∧ (ok → wrote
          { s.staged with
            creds := setAt s.staged.creds (b 1)
              (if b 2 = 0 then { valid := false, badge := 0, role := 1, grant := 0, deny := 0, scope := 0 }
              else
                { valid := true, badge := word32 body 3, role := b 7, grant := word16 body 8, deny := word16 body 10
                  scope := word16 body 12 }) }))
    ∧ (k = .configDesk →
      let lamps := [3, 5, 7, 9]
      let ok := isDesk (b 0) = true ∧ (10 ≤ w 1 ∧ w 1 ≤ 600)
        ∧ ∀ i ∈ lamps, b i ≤ 15 ∧ (b (i + 1) < 4 ∨ 128 ≤ b (i + 1) ∧ b (i + 1) < 132)
      (¬ok → refused)
      ∧ (ok → ∃ x : DeskCfg, wrote { s.staged with desks := setAt s.staged.desks (b 0) x } ∧ x.holdTime = w 1
          ∧ ∀ j ∈ numbers 4, (getAt x.lamps j).source = b (2 * j + 1)
              ∧ (getAt x.lamps j).invert = decide (128 ≤ b (2 * j + 2))
              ∧ (getAt x.lamps j).pattern.code = b (2 * j + 2) % 128))

/-- R160, R189, R190: CONFIG_BEGIN in each phase; in RUNNING by a desk with CONFIGURE it is a configuration restart. That a frame
boundary and presses due and not yet taken do not outlive it is the model's choice (log 4). -/
def Obligations.ConfigBeginByPhase : Prop :=
  ∀ (s : Part) (tag : Byte) (body : List Byte), s.Takes .configBegin tag body →
    let d := byteAt body 0
    let kept := fun (t : Part) => t.resetLow = s.resetLow ∧ t.live = s.live ∧ t.staged = s.staged ∧ t.tset = s.tset
    (s.phase = .loading → Completes .configBegin s { s with lif := s.answer .configBegin tag [ResultCode.repeated.byte] })
    ∧ (s.phase = .blank → ∃ t : Part, Completes .configBegin s t ∧ t.lif = s.answer .configBegin tag [0]
      ∧ t = { s with phase := .loading, rst := t.rst, lif := t.lif }
      ∧ s.Wrote t (s.records [(false, 0, { kind := .phase, value := 1 })]))
    ∧ (s.phase = .running → isDesk d = true → (s.desk d).signedOn ≠ 0 →
      allowsPlantWide (s.topLayer d) Perm.configure.set = true →
      ∃ t : Part, Completes .configBegin s t
        ∧ t.lif = { s.answer .configBegin tag [0] with continuation := none }
        ∧ t.phase = .loading ∧ kept t
        ∧ (∀ n ∈ numbers 4, t.session n = if (s.session n).state = .idle then s.session n else Session.idle)
        ∧ (∀ p ∈ numbers 1024, t.point p =
            { state := .normal, shadow := false, view := 0, occurrences := 0, firstActive := none, lastChange := s.now
              placement := .none, shelfSlot := none })
        ∧ (∀ a ∈ numbers 16, t.area a = Area.resting) ∧ (∀ g ∈ numbers 64, getAt t.groups g = false)
        ∧ (∀ k ∈ numbers 96, getAt t.shelf k = none) ∧ (∀ c ∈ numbers 64, getAt t.credDesk c = 0)
        ∧ (∀ e ∈ numbers 6, t.desk e =
            { s.desk e with
              signedOn := 0, stack := [], slots := #v[none, none, none, none], order := []
              rotation := [1, 2, 3, 4, 5, 6, 7, 8, 9, 10, 11, 12, 13, 14, 15, 16], horn := .off, hornPattern := 0
              boundaryDue := false, lampsFollow := false
              lamps := if (s.desk e).boundaryDue then (getAt s.live.desks e).lamps else (s.desk e).lamps
              ackPresses := 0, silPresses := 0, hold := { remaining := 0, due := false }
              lampTest := { remaining := 0, due := false } })
        ∧ s.Recorded t (s.records (s.abandonRecords (s.abandoned fun _ => true) 6 0
            ++ [(false, 0, { kind := .configRestart, desk := d, credential := (s.desk d).signedOn }),
              (false, 0, { kind := .phase, value := 1 })]))
        ∧ (let before := s.rst.unarchived + (s.abandoned fun _ => true).length
          let full := s.journalSize - s.journalSize / 8
          s.live.plant.jField ≤ 15 → t.rst.dropped = 0 ∧ t.rst.reports =
            if s.rst.nearFull = .armed ∧ getAt s.rst.enabled 6 = true ∧ before < full ∧ full ≤ before + 2 then
              [{ kind := .journalNearFull, subject := 0 }]
            else []))

/-- R187: the first item of a staged copy that fails. R157, R160, R166, R188: CONFIG_COMMIT of a staged copy that passes, and of
one that does not. That a frame boundary and presses due and not yet taken do not outlive a commit is the model's choice
(log 4). -/
def Obligations.CommitMakesTheStagedCopyLive : Prop :=
  (∀ c : Cfg, (∀ k n : Nat, c.failing = some (k, n) ↔ c.FailsFirst k n)
    ∧ (c.failing = none ↔ ∀ k ∈ numbers 5, ∀ n ∈ 0 :: numbers 1024, ¬c.Fails k n))
  ∧ ∀ (s : Part) (tag : Byte) (body : List Byte), s.Takes .configCommit tag body →
    (∀ k n, s.staged.failing = some (k, n) →
      Completes .configCommit s
        { s with lif := s.answer .configCommit tag (ResultCode.commitFailed.byte :: byteOf k :: be16 n) })
    ∧ (s.staged.failing = none → ∃ t : Part, Completes .configCommit s t
      ∧ t.lif = { s.answer .configCommit tag [0] with continuation := none }
      ∧ t.phase = .running ∧ t.live = s.staged ∧ t.staged = s.staged ∧ t.tset = s.tset ∧ t.resetLow = s.resetLow
      ∧ (∀ p ∈ numbers 1024, t.point p =
          { state := .normal, shadow := false, view := 0, occurrences := 0, firstActive := none, lastChange := s.now
            placement := .none, shelfSlot := none })
      ∧ (∀ a ∈ numbers 16, t.area a = Area.resting) ∧ (∀ g ∈ numbers 64, getAt t.groups g = false)
      ∧ (∀ k ∈ numbers 96, getAt t.shelf k = none) ∧ (∀ c ∈ numbers 64, getAt t.credDesk c = 0)
      ∧ (∀ n ∈ numbers 4, t.session n = Session.idle)
      ∧ (∀ e ∈ numbers 6, t.desk e =
          { s.desk e with
            signedOn := 0, stack := [], slots := #v[none, none, none, none], order := []
            rotation := [1, 2, 3, 4, 5, 6, 7, 8, 9, 10, 11, 12, 13, 14, 15, 16], horn := .off, hornPattern := 0
            boundaryDue := false, lampsFollow := false
            lamps := if (s.desk e).boundaryDue then (getAt s.live.desks e).lamps else (s.desk e).lamps
            ackPresses := 0, silPresses := 0, hold := { remaining := 0, due := false }
            lampTest := { remaining := 0, due := false } })
      ∧ (let phaseRecord := s.record 0 false 0 { kind := .phase, value := 2 }
        t.rst.journal =
          if s.staged.plant.jField = s.live.plant.jField then
            (s.rst.journal ++ [phaseRecord]).drop ((s.rst.journal ++ [phaseRecord]).length - 256 * s.live.plant.jField)
          else [phaseRecord])
      ∧ t.rst.nextSeq = s.rst.nextSeq + 1 ∧ t.rst.mark = s.rst.mark ∧ t.rst.enabled = s.rst.enabled
      ∧ (let size := 256 * s.staged.plant.jField
        let same := s.staged.plant.jField = s.live.plant.jField
        let count := if same then s.rst.unarchived else 0
        let state := if same then s.rst.nearFull else .armed
        let fires := state = .armed ∧ count < size - size / 8 ∧ size - size / 8 ≤ count + 1
        t.rst.unarchived = (if count < size then count + 1 else count)
        ∧ t.rst.nearFull = (if fires then .fired else state)
        ∧ t.rst.reports = { kind := .resync, subject := 0 }
            :: if fires ∧ getAt s.rst.enabled 6 = true then [{ kind := .journalNearFull, subject := 0 }] else [])
      ∧ t.rst.resyncReason = some .commit ∧ t.rst.dropped = 0)

/-! ### What every step keeps -/

/-- R156, R160: the journal stays one unbroken run of at most J records. -/
def Obligations.EveryStepKeepsTheJournalRun : Prop :=
  ∀ s t : State, s.part.JournalRun → step s = .next t → t.part.JournalRun

/-- R154, R162, R163: the report queue stays within its bounds and without repetition. -/
def Obligations.EveryStepKeepsTheReportBounds : Prop :=
  ∀ s t : State, s.part.ReportsBounded → step s = .next t → t.part.ReportsBounded

/-- R80, R89: load indices and flood states stay in step with the thresholds. -/
def Obligations.EveryStepKeepsTheFloodBounds : Prop :=
  ∀ s t : State, s.part.FloodBounded → step s = .next t → t.part.FloodBounded

/-- R20, R21, R23: sign-ons and authority stacks stay consistent. -/
def Obligations.EveryStepKeepsSignOnsAndStacks : Prop :=
  ∀ s t : State, s.part.SignOnsAgree → step s = .next t → t.part.SignOnsAgree

/-- R125: every horn goes on following the slots of its desk. -/
def Obligations.EveryStepKeepsHornsFollowing : Prop :=
  ∀ s t : State, s.part.HornsFollow → step s = .next t → t.part.HornsFollow

/-- R168, R170, R171, R173, R174: the Link Interface stays within its bounds. -/
def Obligations.EveryStepKeepsTheLinkBounds : Prop :=
  ∀ s t : State, s.part.LinkBounded → step s = .next t → t.part.LinkBounded

/-- R1, R2, R4, R7, R69, R97, R99, R187: every point stays where its placement and its shelf slot say, and nowhere else, and
every rotation order goes on listing the 16 areas once each. -/
def Obligations.EveryStepKeepsPointsInPlace : Prop :=
  ∀ s t : State, s.part.PointsInPlace → step s = .next t → t.part.PointsInPlace

/-- R9: every area's counts stay the numbers of its points in each state. -/
def Obligations.EveryStepKeepsTheCounts : Prop :=
  ∀ s t : State, s.part.PointsInPlace → s.part.CountsAgree → step s = .next t → t.part.CountsAgree

/-- The invariants hold right after reset. -/
def Obligations.ResetHasTheInvariants : Prop :=
  State.reset.part.JournalRun ∧ State.reset.part.ReportsBounded ∧ State.reset.part.FloodBounded
    ∧ State.reset.part.SignOnsAgree ∧ State.reset.part.HornsFollow ∧ State.reset.part.LinkBounded
    ∧ State.reset.part.PointsInPlace ∧ State.reset.part.CountsAgree
end

