-- ==== Sys2Proof/Laws/State.lean ====
section
/-! SUPPORT. One lemma per field per update of the part and of the machine, each true by definition. -/

namespace Sys2Proof.Machine

/-! ### modPoint -/

@[simp] theorem Part.modPoint_resetLow (s : Part) (p : Nat) (f : Point → Point) : (s.modPoint p f).resetLow = s.resetLow := rfl
@[simp] theorem Part.modPoint_phase (s : Part) (p : Nat) (f : Point → Point) : (s.modPoint p f).phase = s.phase := rfl
@[simp] theorem Part.modPoint_staged (s : Part) (p : Nat) (f : Point → Point) : (s.modPoint p f).staged = s.staged := rfl
@[simp] theorem Part.modPoint_live (s : Part) (p : Nat) (f : Point → Point) : (s.modPoint p f).live = s.live := rfl
@[simp] theorem Part.modPoint_tset (s : Part) (p : Nat) (f : Point → Point) : (s.modPoint p f).tset = s.tset := rfl
@[simp] theorem Part.modPoint_shelf (s : Part) (p : Nat) (f : Point → Point) : (s.modPoint p f).shelf = s.shelf := rfl
@[simp] theorem Part.modPoint_points (s : Part) (p : Nat) (f : Point → Point) : (s.modPoint p f).points = modAt s.points p f := rfl
@[simp] theorem Part.modPoint_groups (s : Part) (p : Nat) (f : Point → Point) : (s.modPoint p f).groups = s.groups := rfl
@[simp] theorem Part.modPoint_areas (s : Part) (p : Nat) (f : Point → Point) : (s.modPoint p f).areas = s.areas := rfl
@[simp] theorem Part.modPoint_credDesk (s : Part) (p : Nat) (f : Point → Point) : (s.modPoint p f).credDesk = s.credDesk := rfl
@[simp] theorem Part.modPoint_desks (s : Part) (p : Nat) (f : Point → Point) : (s.modPoint p f).desks = s.desks := rfl
@[simp] theorem Part.modPoint_sessions (s : Part) (p : Nat) (f : Point → Point) : (s.modPoint p f).sessions = s.sessions := rfl
@[simp] theorem Part.modPoint_rst (s : Part) (p : Nat) (f : Point → Point) : (s.modPoint p f).rst = s.rst := rfl
@[simp] theorem Part.modPoint_lif (s : Part) (p : Nat) (f : Point → Point) : (s.modPoint p f).lif = s.lif := rfl

/-! ### modArea -/

@[simp] theorem Part.modArea_resetLow (s : Part) (a : Nat) (f : Area → Area) : (s.modArea a f).resetLow = s.resetLow := rfl
@[simp] theorem Part.modArea_phase (s : Part) (a : Nat) (f : Area → Area) : (s.modArea a f).phase = s.phase := rfl
@[simp] theorem Part.modArea_staged (s : Part) (a : Nat) (f : Area → Area) : (s.modArea a f).staged = s.staged := rfl
@[simp] theorem Part.modArea_live (s : Part) (a : Nat) (f : Area → Area) : (s.modArea a f).live = s.live := rfl
@[simp] theorem Part.modArea_tset (s : Part) (a : Nat) (f : Area → Area) : (s.modArea a f).tset = s.tset := rfl
@[simp] theorem Part.modArea_shelf (s : Part) (a : Nat) (f : Area → Area) : (s.modArea a f).shelf = s.shelf := rfl
@[simp] theorem Part.modArea_points (s : Part) (a : Nat) (f : Area → Area) : (s.modArea a f).points = s.points := rfl
@[simp] theorem Part.modArea_groups (s : Part) (a : Nat) (f : Area → Area) : (s.modArea a f).groups = s.groups := rfl
@[simp] theorem Part.modArea_areas (s : Part) (a : Nat) (f : Area → Area) : (s.modArea a f).areas = modAt s.areas a f := rfl
@[simp] theorem Part.modArea_credDesk (s : Part) (a : Nat) (f : Area → Area) : (s.modArea a f).credDesk = s.credDesk := rfl
@[simp] theorem Part.modArea_desks (s : Part) (a : Nat) (f : Area → Area) : (s.modArea a f).desks = s.desks := rfl
@[simp] theorem Part.modArea_sessions (s : Part) (a : Nat) (f : Area → Area) : (s.modArea a f).sessions = s.sessions := rfl
@[simp] theorem Part.modArea_rst (s : Part) (a : Nat) (f : Area → Area) : (s.modArea a f).rst = s.rst := rfl
@[simp] theorem Part.modArea_lif (s : Part) (a : Nat) (f : Area → Area) : (s.modArea a f).lif = s.lif := rfl

/-! ### modDesk -/

@[simp] theorem Part.modDesk_resetLow (s : Part) (d : Nat) (f : Desk → Desk) : (s.modDesk d f).resetLow = s.resetLow := rfl
@[simp] theorem Part.modDesk_phase (s : Part) (d : Nat) (f : Desk → Desk) : (s.modDesk d f).phase = s.phase := rfl
@[simp] theorem Part.modDesk_staged (s : Part) (d : Nat) (f : Desk → Desk) : (s.modDesk d f).staged = s.staged := rfl
@[simp] theorem Part.modDesk_live (s : Part) (d : Nat) (f : Desk → Desk) : (s.modDesk d f).live = s.live := rfl
@[simp] theorem Part.modDesk_tset (s : Part) (d : Nat) (f : Desk → Desk) : (s.modDesk d f).tset = s.tset := rfl
@[simp] theorem Part.modDesk_shelf (s : Part) (d : Nat) (f : Desk → Desk) : (s.modDesk d f).shelf = s.shelf := rfl
@[simp] theorem Part.modDesk_points (s : Part) (d : Nat) (f : Desk → Desk) : (s.modDesk d f).points = s.points := rfl
@[simp] theorem Part.modDesk_groups (s : Part) (d : Nat) (f : Desk → Desk) : (s.modDesk d f).groups = s.groups := rfl
@[simp] theorem Part.modDesk_areas (s : Part) (d : Nat) (f : Desk → Desk) : (s.modDesk d f).areas = s.areas := rfl
@[simp] theorem Part.modDesk_credDesk (s : Part) (d : Nat) (f : Desk → Desk) : (s.modDesk d f).credDesk = s.credDesk := rfl
@[simp] theorem Part.modDesk_desks (s : Part) (d : Nat) (f : Desk → Desk) : (s.modDesk d f).desks = modAt s.desks d f := rfl
@[simp] theorem Part.modDesk_sessions (s : Part) (d : Nat) (f : Desk → Desk) : (s.modDesk d f).sessions = s.sessions := rfl
@[simp] theorem Part.modDesk_rst (s : Part) (d : Nat) (f : Desk → Desk) : (s.modDesk d f).rst = s.rst := rfl
@[simp] theorem Part.modDesk_lif (s : Part) (d : Nat) (f : Desk → Desk) : (s.modDesk d f).lif = s.lif := rfl

/-! ### modSession -/

@[simp] theorem Part.modSession_resetLow (s : Part) (n : Nat) (f : Session → Session) : (s.modSession n f).resetLow = s.resetLow := rfl
@[simp] theorem Part.modSession_phase (s : Part) (n : Nat) (f : Session → Session) : (s.modSession n f).phase = s.phase := rfl
@[simp] theorem Part.modSession_staged (s : Part) (n : Nat) (f : Session → Session) : (s.modSession n f).staged = s.staged := rfl
@[simp] theorem Part.modSession_live (s : Part) (n : Nat) (f : Session → Session) : (s.modSession n f).live = s.live := rfl
@[simp] theorem Part.modSession_tset (s : Part) (n : Nat) (f : Session → Session) : (s.modSession n f).tset = s.tset := rfl
@[simp] theorem Part.modSession_shelf (s : Part) (n : Nat) (f : Session → Session) : (s.modSession n f).shelf = s.shelf := rfl
@[simp] theorem Part.modSession_points (s : Part) (n : Nat) (f : Session → Session) : (s.modSession n f).points = s.points := rfl
@[simp] theorem Part.modSession_groups (s : Part) (n : Nat) (f : Session → Session) : (s.modSession n f).groups = s.groups := rfl
@[simp] theorem Part.modSession_areas (s : Part) (n : Nat) (f : Session → Session) : (s.modSession n f).areas = s.areas := rfl
@[simp] theorem Part.modSession_credDesk (s : Part) (n : Nat) (f : Session → Session) : (s.modSession n f).credDesk = s.credDesk := rfl
@[simp] theorem Part.modSession_desks (s : Part) (n : Nat) (f : Session → Session) : (s.modSession n f).desks = s.desks := rfl
@[simp] theorem Part.modSession_sessions (s : Part) (n : Nat) (f : Session → Session) : (s.modSession n f).sessions = modAt s.sessions n f := rfl
@[simp] theorem Part.modSession_rst (s : Part) (n : Nat) (f : Session → Session) : (s.modSession n f).rst = s.rst := rfl
@[simp] theorem Part.modSession_lif (s : Part) (n : Nat) (f : Session → Session) : (s.modSession n f).lif = s.lif := rfl

/-! ### modRst -/

@[simp] theorem Part.modRst_resetLow (s : Part) (f : Rst → Rst) : (s.modRst f).resetLow = s.resetLow := rfl
@[simp] theorem Part.modRst_phase (s : Part) (f : Rst → Rst) : (s.modRst f).phase = s.phase := rfl
@[simp] theorem Part.modRst_staged (s : Part) (f : Rst → Rst) : (s.modRst f).staged = s.staged := rfl
@[simp] theorem Part.modRst_live (s : Part) (f : Rst → Rst) : (s.modRst f).live = s.live := rfl
@[simp] theorem Part.modRst_tset (s : Part) (f : Rst → Rst) : (s.modRst f).tset = s.tset := rfl
@[simp] theorem Part.modRst_shelf (s : Part) (f : Rst → Rst) : (s.modRst f).shelf = s.shelf := rfl
@[simp] theorem Part.modRst_points (s : Part) (f : Rst → Rst) : (s.modRst f).points = s.points := rfl
@[simp] theorem Part.modRst_groups (s : Part) (f : Rst → Rst) : (s.modRst f).groups = s.groups := rfl
@[simp] theorem Part.modRst_areas (s : Part) (f : Rst → Rst) : (s.modRst f).areas = s.areas := rfl
@[simp] theorem Part.modRst_credDesk (s : Part) (f : Rst → Rst) : (s.modRst f).credDesk = s.credDesk := rfl
@[simp] theorem Part.modRst_desks (s : Part) (f : Rst → Rst) : (s.modRst f).desks = s.desks := rfl
@[simp] theorem Part.modRst_sessions (s : Part) (f : Rst → Rst) : (s.modRst f).sessions = s.sessions := rfl
@[simp] theorem Part.modRst_rst (s : Part) (f : Rst → Rst) : (s.modRst f).rst = f s.rst := rfl
@[simp] theorem Part.modRst_lif (s : Part) (f : Rst → Rst) : (s.modRst f).lif = s.lif := rfl

/-! ### modLif -/

@[simp] theorem Part.modLif_resetLow (s : Part) (f : Lif → Lif) : (s.modLif f).resetLow = s.resetLow := rfl
@[simp] theorem Part.modLif_phase (s : Part) (f : Lif → Lif) : (s.modLif f).phase = s.phase := rfl
@[simp] theorem Part.modLif_staged (s : Part) (f : Lif → Lif) : (s.modLif f).staged = s.staged := rfl
@[simp] theorem Part.modLif_live (s : Part) (f : Lif → Lif) : (s.modLif f).live = s.live := rfl
@[simp] theorem Part.modLif_tset (s : Part) (f : Lif → Lif) : (s.modLif f).tset = s.tset := rfl
@[simp] theorem Part.modLif_shelf (s : Part) (f : Lif → Lif) : (s.modLif f).shelf = s.shelf := rfl
@[simp] theorem Part.modLif_points (s : Part) (f : Lif → Lif) : (s.modLif f).points = s.points := rfl
@[simp] theorem Part.modLif_groups (s : Part) (f : Lif → Lif) : (s.modLif f).groups = s.groups := rfl
@[simp] theorem Part.modLif_areas (s : Part) (f : Lif → Lif) : (s.modLif f).areas = s.areas := rfl
@[simp] theorem Part.modLif_credDesk (s : Part) (f : Lif → Lif) : (s.modLif f).credDesk = s.credDesk := rfl
@[simp] theorem Part.modLif_desks (s : Part) (f : Lif → Lif) : (s.modLif f).desks = s.desks := rfl
@[simp] theorem Part.modLif_sessions (s : Part) (f : Lif → Lif) : (s.modLif f).sessions = s.sessions := rfl
@[simp] theorem Part.modLif_rst (s : Part) (f : Lif → Lif) : (s.modLif f).rst = s.rst := rfl
@[simp] theorem Part.modLif_lif (s : Part) (f : Lif → Lif) : (s.modLif f).lif = f s.lif := rfl

/-! ### emptySlot -/

@[simp] theorem Part.emptySlot_resetLow (s : Part) (d k : Nat) : (s.emptySlot d k).resetLow = s.resetLow := rfl
@[simp] theorem Part.emptySlot_phase (s : Part) (d k : Nat) : (s.emptySlot d k).phase = s.phase := rfl
@[simp] theorem Part.emptySlot_staged (s : Part) (d k : Nat) : (s.emptySlot d k).staged = s.staged := rfl
@[simp] theorem Part.emptySlot_live (s : Part) (d k : Nat) : (s.emptySlot d k).live = s.live := rfl
@[simp] theorem Part.emptySlot_tset (s : Part) (d k : Nat) : (s.emptySlot d k).tset = s.tset := rfl
@[simp] theorem Part.emptySlot_shelf (s : Part) (d k : Nat) : (s.emptySlot d k).shelf = s.shelf := rfl
@[simp] theorem Part.emptySlot_points (s : Part) (d k : Nat) : (s.emptySlot d k).points = s.points := rfl
@[simp] theorem Part.emptySlot_groups (s : Part) (d k : Nat) : (s.emptySlot d k).groups = s.groups := rfl
@[simp] theorem Part.emptySlot_areas (s : Part) (d k : Nat) : (s.emptySlot d k).areas = s.areas := rfl
@[simp] theorem Part.emptySlot_credDesk (s : Part) (d k : Nat) : (s.emptySlot d k).credDesk = s.credDesk := rfl
@[simp] theorem Part.emptySlot_desks (s : Part) (d k : Nat) : (s.emptySlot d k).desks = modAt s.desks d fun x => { x with slots := setAt x.slots k none, order := x.order.filter (· != k) } := rfl
@[simp] theorem Part.emptySlot_sessions (s : Part) (d k : Nat) : (s.emptySlot d k).sessions = s.sessions := rfl
@[simp] theorem Part.emptySlot_rst (s : Part) (d k : Nat) : (s.emptySlot d k).rst = s.rst := rfl
@[simp] theorem Part.emptySlot_lif (s : Part) (d k : Nat) : (s.emptySlot d k).lif = s.lif := rfl

/-! ### bump -/

@[simp] theorem Part.bump_resetLow (s : Part) (a : Nat) : (s.bump a).resetLow = s.resetLow := rfl
@[simp] theorem Part.bump_phase (s : Part) (a : Nat) : (s.bump a).phase = s.phase := rfl
@[simp] theorem Part.bump_staged (s : Part) (a : Nat) : (s.bump a).staged = s.staged := rfl
@[simp] theorem Part.bump_live (s : Part) (a : Nat) : (s.bump a).live = s.live := rfl
@[simp] theorem Part.bump_tset (s : Part) (a : Nat) : (s.bump a).tset = s.tset := rfl
@[simp] theorem Part.bump_shelf (s : Part) (a : Nat) : (s.bump a).shelf = s.shelf := rfl
@[simp] theorem Part.bump_points (s : Part) (a : Nat) : (s.bump a).points = s.points := rfl
@[simp] theorem Part.bump_groups (s : Part) (a : Nat) : (s.bump a).groups = s.groups := rfl
@[simp] theorem Part.bump_areas (s : Part) (a : Nat) : (s.bump a).areas = modAt s.areas a fun x => { x with generation := x.generation + 1 } := rfl
@[simp] theorem Part.bump_credDesk (s : Part) (a : Nat) : (s.bump a).credDesk = s.credDesk := rfl
@[simp] theorem Part.bump_desks (s : Part) (a : Nat) : (s.bump a).desks = s.desks := rfl
@[simp] theorem Part.bump_sessions (s : Part) (a : Nat) : (s.bump a).sessions = s.sessions := rfl
@[simp] theorem Part.bump_rst (s : Part) (a : Nat) : (s.bump a).rst = s.rst := rfl
@[simp] theorem Part.bump_lif (s : Part) (a : Nat) : (s.bump a).lif = s.lif := rfl

/-! ### write -/

@[simp] theorem Part.write_resetLow (s : Part) (sig : Bool) (f : RecordFields) : (s.write sig f).resetLow = s.resetLow := rfl
@[simp] theorem Part.write_phase (s : Part) (sig : Bool) (f : RecordFields) : (s.write sig f).phase = s.phase := rfl
@[simp] theorem Part.write_staged (s : Part) (sig : Bool) (f : RecordFields) : (s.write sig f).staged = s.staged := rfl
@[simp] theorem Part.write_live (s : Part) (sig : Bool) (f : RecordFields) : (s.write sig f).live = s.live := rfl
@[simp] theorem Part.write_tset (s : Part) (sig : Bool) (f : RecordFields) : (s.write sig f).tset = s.tset := rfl
@[simp] theorem Part.write_shelf (s : Part) (sig : Bool) (f : RecordFields) : (s.write sig f).shelf = s.shelf := rfl
@[simp] theorem Part.write_points (s : Part) (sig : Bool) (f : RecordFields) : (s.write sig f).points = s.points := rfl
@[simp] theorem Part.write_groups (s : Part) (sig : Bool) (f : RecordFields) : (s.write sig f).groups = s.groups := rfl
@[simp] theorem Part.write_areas (s : Part) (sig : Bool) (f : RecordFields) : (s.write sig f).areas = s.areas := rfl
@[simp] theorem Part.write_credDesk (s : Part) (sig : Bool) (f : RecordFields) : (s.write sig f).credDesk = s.credDesk := rfl
@[simp] theorem Part.write_desks (s : Part) (sig : Bool) (f : RecordFields) : (s.write sig f).desks = s.desks := rfl
@[simp] theorem Part.write_sessions (s : Part) (sig : Bool) (f : RecordFields) : (s.write sig f).sessions = s.sessions := rfl
@[simp] theorem Part.write_lif (s : Part) (sig : Bool) (f : RecordFields) : (s.write sig f).lif = s.lif := rfl

/-! ### queueReports -/

@[simp] theorem Part.queueReports_resetLow (s : Part) (l : List ReportEntry) : (s.queueReports l).resetLow = s.resetLow := rfl
@[simp] theorem Part.queueReports_phase (s : Part) (l : List ReportEntry) : (s.queueReports l).phase = s.phase := rfl
@[simp] theorem Part.queueReports_staged (s : Part) (l : List ReportEntry) : (s.queueReports l).staged = s.staged := rfl
@[simp] theorem Part.queueReports_live (s : Part) (l : List ReportEntry) : (s.queueReports l).live = s.live := rfl
@[simp] theorem Part.queueReports_tset (s : Part) (l : List ReportEntry) : (s.queueReports l).tset = s.tset := rfl
@[simp] theorem Part.queueReports_shelf (s : Part) (l : List ReportEntry) : (s.queueReports l).shelf = s.shelf := rfl
@[simp] theorem Part.queueReports_points (s : Part) (l : List ReportEntry) : (s.queueReports l).points = s.points := rfl
@[simp] theorem Part.queueReports_groups (s : Part) (l : List ReportEntry) : (s.queueReports l).groups = s.groups := rfl
@[simp] theorem Part.queueReports_areas (s : Part) (l : List ReportEntry) : (s.queueReports l).areas = s.areas := rfl
@[simp] theorem Part.queueReports_credDesk (s : Part) (l : List ReportEntry) : (s.queueReports l).credDesk = s.credDesk := rfl
@[simp] theorem Part.queueReports_desks (s : Part) (l : List ReportEntry) : (s.queueReports l).desks = s.desks := rfl
@[simp] theorem Part.queueReports_sessions (s : Part) (l : List ReportEntry) : (s.queueReports l).sessions = s.sessions := rfl
@[simp] theorem Part.queueReports_lif (s : Part) (l : List ReportEntry) : (s.queueReports l).lif = s.lif := rfl

/-! ### What the records read after an update of another table -/

@[simp] theorem Part.modPoint_pointS (s : Part) (p : Nat) (f : Point → Point) (q : Nat) : (s.modPoint p f).pointS q = s.pointS q := rfl
@[simp] theorem Part.modPoint_area_other (s : Part) (p : Nat) (f : Point → Point) (q : Nat) : (s.modPoint p f).area q = s.area q := rfl
@[simp] theorem Part.modPoint_areaS (s : Part) (p : Nat) (f : Point → Point) (q : Nat) : (s.modPoint p f).areaS q = s.areaS q := rfl
@[simp] theorem Part.modPoint_desk_other (s : Part) (p : Nat) (f : Point → Point) (q : Nat) : (s.modPoint p f).desk q = s.desk q := rfl
@[simp] theorem Part.modPoint_cred (s : Part) (p : Nat) (f : Point → Point) (q : Nat) : (s.modPoint p f).cred q = s.cred q := rfl
@[simp] theorem Part.modPoint_session_other (s : Part) (p : Nat) (f : Point → Point) (q : Nat) : (s.modPoint p f).session q = s.session q := rfl
@[simp] theorem Part.modPoint_now (s : Part) (p : Nat) (f : Point → Point) : (s.modPoint p f).now = s.now := rfl
@[simp] theorem Part.modPoint_journalSize (s : Part) (p : Nat) (f : Point → Point) : (s.modPoint p f).journalSize = s.journalSize := rfl

@[simp] theorem Part.modArea_point_other (s : Part) (a : Nat) (f : Area → Area) (q : Nat) : (s.modArea a f).point q = s.point q := rfl
@[simp] theorem Part.modArea_pointS (s : Part) (a : Nat) (f : Area → Area) (q : Nat) : (s.modArea a f).pointS q = s.pointS q := rfl
@[simp] theorem Part.modArea_areaS (s : Part) (a : Nat) (f : Area → Area) (q : Nat) : (s.modArea a f).areaS q = s.areaS q := rfl
@[simp] theorem Part.modArea_desk_other (s : Part) (a : Nat) (f : Area → Area) (q : Nat) : (s.modArea a f).desk q = s.desk q := rfl
@[simp] theorem Part.modArea_cred (s : Part) (a : Nat) (f : Area → Area) (q : Nat) : (s.modArea a f).cred q = s.cred q := rfl
@[simp] theorem Part.modArea_session_other (s : Part) (a : Nat) (f : Area → Area) (q : Nat) : (s.modArea a f).session q = s.session q := rfl
@[simp] theorem Part.modArea_now (s : Part) (a : Nat) (f : Area → Area) : (s.modArea a f).now = s.now := rfl
@[simp] theorem Part.modArea_journalSize (s : Part) (a : Nat) (f : Area → Area) : (s.modArea a f).journalSize = s.journalSize := rfl

@[simp] theorem Part.modDesk_point_other (s : Part) (d : Nat) (f : Desk → Desk) (q : Nat) : (s.modDesk d f).point q = s.point q := rfl
@[simp] theorem Part.modDesk_pointS (s : Part) (d : Nat) (f : Desk → Desk) (q : Nat) : (s.modDesk d f).pointS q = s.pointS q := rfl
@[simp] theorem Part.modDesk_area_other (s : Part) (d : Nat) (f : Desk → Desk) (q : Nat) : (s.modDesk d f).area q = s.area q := rfl
@[simp] theorem Part.modDesk_areaS (s : Part) (d : Nat) (f : Desk → Desk) (q : Nat) : (s.modDesk d f).areaS q = s.areaS q := rfl
@[simp] theorem Part.modDesk_cred (s : Part) (d : Nat) (f : Desk → Desk) (q : Nat) : (s.modDesk d f).cred q = s.cred q := rfl
@[simp] theorem Part.modDesk_session_other (s : Part) (d : Nat) (f : Desk → Desk) (q : Nat) : (s.modDesk d f).session q = s.session q := rfl
@[simp] theorem Part.modDesk_now (s : Part) (d : Nat) (f : Desk → Desk) : (s.modDesk d f).now = s.now := rfl
@[simp] theorem Part.modDesk_journalSize (s : Part) (d : Nat) (f : Desk → Desk) : (s.modDesk d f).journalSize = s.journalSize := rfl

@[simp] theorem Part.modSession_point_other (s : Part) (n : Nat) (f : Session → Session) (q : Nat) : (s.modSession n f).point q = s.point q := rfl
@[simp] theorem Part.modSession_pointS (s : Part) (n : Nat) (f : Session → Session) (q : Nat) : (s.modSession n f).pointS q = s.pointS q := rfl
@[simp] theorem Part.modSession_area_other (s : Part) (n : Nat) (f : Session → Session) (q : Nat) : (s.modSession n f).area q = s.area q := rfl
@[simp] theorem Part.modSession_areaS (s : Part) (n : Nat) (f : Session → Session) (q : Nat) : (s.modSession n f).areaS q = s.areaS q := rfl
@[simp] theorem Part.modSession_desk_other (s : Part) (n : Nat) (f : Session → Session) (q : Nat) : (s.modSession n f).desk q = s.desk q := rfl
@[simp] theorem Part.modSession_cred (s : Part) (n : Nat) (f : Session → Session) (q : Nat) : (s.modSession n f).cred q = s.cred q := rfl
@[simp] theorem Part.modSession_now (s : Part) (n : Nat) (f : Session → Session) : (s.modSession n f).now = s.now := rfl
@[simp] theorem Part.modSession_journalSize (s : Part) (n : Nat) (f : Session → Session) : (s.modSession n f).journalSize = s.journalSize := rfl

@[simp] theorem Part.modRst_point_other (s : Part) (f : Rst → Rst) (q : Nat) : (s.modRst f).point q = s.point q := rfl
@[simp] theorem Part.modRst_pointS (s : Part) (f : Rst → Rst) (q : Nat) : (s.modRst f).pointS q = s.pointS q := rfl
@[simp] theorem Part.modRst_area_other (s : Part) (f : Rst → Rst) (q : Nat) : (s.modRst f).area q = s.area q := rfl
@[simp] theorem Part.modRst_areaS (s : Part) (f : Rst → Rst) (q : Nat) : (s.modRst f).areaS q = s.areaS q := rfl
@[simp] theorem Part.modRst_desk_other (s : Part) (f : Rst → Rst) (q : Nat) : (s.modRst f).desk q = s.desk q := rfl
@[simp] theorem Part.modRst_cred (s : Part) (f : Rst → Rst) (q : Nat) : (s.modRst f).cred q = s.cred q := rfl
@[simp] theorem Part.modRst_session_other (s : Part) (f : Rst → Rst) (q : Nat) : (s.modRst f).session q = s.session q := rfl
@[simp] theorem Part.modRst_now (s : Part) (f : Rst → Rst) : (s.modRst f).now = s.now := rfl
@[simp] theorem Part.modRst_journalSize (s : Part) (f : Rst → Rst) : (s.modRst f).journalSize = s.journalSize := rfl

@[simp] theorem Part.modLif_point_other (s : Part) (f : Lif → Lif) (q : Nat) : (s.modLif f).point q = s.point q := rfl
@[simp] theorem Part.modLif_pointS (s : Part) (f : Lif → Lif) (q : Nat) : (s.modLif f).pointS q = s.pointS q := rfl
@[simp] theorem Part.modLif_area_other (s : Part) (f : Lif → Lif) (q : Nat) : (s.modLif f).area q = s.area q := rfl
@[simp] theorem Part.modLif_areaS (s : Part) (f : Lif → Lif) (q : Nat) : (s.modLif f).areaS q = s.areaS q := rfl
@[simp] theorem Part.modLif_desk_other (s : Part) (f : Lif → Lif) (q : Nat) : (s.modLif f).desk q = s.desk q := rfl
@[simp] theorem Part.modLif_cred (s : Part) (f : Lif → Lif) (q : Nat) : (s.modLif f).cred q = s.cred q := rfl
@[simp] theorem Part.modLif_session_other (s : Part) (f : Lif → Lif) (q : Nat) : (s.modLif f).session q = s.session q := rfl
@[simp] theorem Part.modLif_now (s : Part) (f : Lif → Lif) : (s.modLif f).now = s.now := rfl
@[simp] theorem Part.modLif_journalSize (s : Part) (f : Lif → Lif) : (s.modLif f).journalSize = s.journalSize := rfl

@[simp] theorem Part.emptySlot_point_other (s : Part) (d k : Nat) (q : Nat) : (s.emptySlot d k).point q = s.point q := rfl
@[simp] theorem Part.emptySlot_pointS (s : Part) (d k : Nat) (q : Nat) : (s.emptySlot d k).pointS q = s.pointS q := rfl
@[simp] theorem Part.emptySlot_area_other (s : Part) (d k : Nat) (q : Nat) : (s.emptySlot d k).area q = s.area q := rfl
@[simp] theorem Part.emptySlot_areaS (s : Part) (d k : Nat) (q : Nat) : (s.emptySlot d k).areaS q = s.areaS q := rfl
@[simp] theorem Part.emptySlot_cred (s : Part) (d k : Nat) (q : Nat) : (s.emptySlot d k).cred q = s.cred q := rfl
@[simp] theorem Part.emptySlot_session_other (s : Part) (d k : Nat) (q : Nat) : (s.emptySlot d k).session q = s.session q := rfl
@[simp] theorem Part.emptySlot_now (s : Part) (d k : Nat) : (s.emptySlot d k).now = s.now := rfl
@[simp] theorem Part.emptySlot_journalSize (s : Part) (d k : Nat) : (s.emptySlot d k).journalSize = s.journalSize := rfl

@[simp] theorem Part.bump_point_other (s : Part) (a : Nat) (q : Nat) : (s.bump a).point q = s.point q := rfl
@[simp] theorem Part.bump_pointS (s : Part) (a : Nat) (q : Nat) : (s.bump a).pointS q = s.pointS q := rfl
@[simp] theorem Part.bump_areaS (s : Part) (a : Nat) (q : Nat) : (s.bump a).areaS q = s.areaS q := rfl
@[simp] theorem Part.bump_desk_other (s : Part) (a : Nat) (q : Nat) : (s.bump a).desk q = s.desk q := rfl
@[simp] theorem Part.bump_cred (s : Part) (a : Nat) (q : Nat) : (s.bump a).cred q = s.cred q := rfl
@[simp] theorem Part.bump_session_other (s : Part) (a : Nat) (q : Nat) : (s.bump a).session q = s.session q := rfl
@[simp] theorem Part.bump_now (s : Part) (a : Nat) : (s.bump a).now = s.now := rfl
@[simp] theorem Part.bump_journalSize (s : Part) (a : Nat) : (s.bump a).journalSize = s.journalSize := rfl

@[simp] theorem Part.write_point_other (s : Part) (sig : Bool) (f : RecordFields) (q : Nat) : (s.write sig f).point q = s.point q := rfl
@[simp] theorem Part.write_pointS (s : Part) (sig : Bool) (f : RecordFields) (q : Nat) : (s.write sig f).pointS q = s.pointS q := rfl
@[simp] theorem Part.write_area_other (s : Part) (sig : Bool) (f : RecordFields) (q : Nat) : (s.write sig f).area q = s.area q := rfl
@[simp] theorem Part.write_areaS (s : Part) (sig : Bool) (f : RecordFields) (q : Nat) : (s.write sig f).areaS q = s.areaS q := rfl
@[simp] theorem Part.write_desk_other (s : Part) (sig : Bool) (f : RecordFields) (q : Nat) : (s.write sig f).desk q = s.desk q := rfl
@[simp] theorem Part.write_cred (s : Part) (sig : Bool) (f : RecordFields) (q : Nat) : (s.write sig f).cred q = s.cred q := rfl
@[simp] theorem Part.write_session_other (s : Part) (sig : Bool) (f : RecordFields) (q : Nat) : (s.write sig f).session q = s.session q := rfl
@[simp] theorem Part.write_now (s : Part) (sig : Bool) (f : RecordFields) : (s.write sig f).now = s.now := rfl
@[simp] theorem Part.write_journalSize (s : Part) (sig : Bool) (f : RecordFields) : (s.write sig f).journalSize = s.journalSize := rfl

@[simp] theorem Part.queueReports_point_other (s : Part) (l : List ReportEntry) (q : Nat) : (s.queueReports l).point q = s.point q := rfl
@[simp] theorem Part.queueReports_pointS (s : Part) (l : List ReportEntry) (q : Nat) : (s.queueReports l).pointS q = s.pointS q := rfl
@[simp] theorem Part.queueReports_area_other (s : Part) (l : List ReportEntry) (q : Nat) : (s.queueReports l).area q = s.area q := rfl
@[simp] theorem Part.queueReports_areaS (s : Part) (l : List ReportEntry) (q : Nat) : (s.queueReports l).areaS q = s.areaS q := rfl
@[simp] theorem Part.queueReports_desk_other (s : Part) (l : List ReportEntry) (q : Nat) : (s.queueReports l).desk q = s.desk q := rfl
@[simp] theorem Part.queueReports_cred (s : Part) (l : List ReportEntry) (q : Nat) : (s.queueReports l).cred q = s.cred q := rfl
@[simp] theorem Part.queueReports_session_other (s : Part) (l : List ReportEntry) (q : Nat) : (s.queueReports l).session q = s.session q := rfl
@[simp] theorem Part.queueReports_now (s : Part) (l : List ReportEntry) : (s.queueReports l).now = s.now := rfl
@[simp] theorem Part.queueReports_journalSize (s : Part) (l : List ReportEntry) : (s.queueReports l).journalSize = s.journalSize := rfl

/-! ### The machine -/

@[simp] theorem onPart_eq (f : Part → Part) (s : State) :
    onPart f s = .next { s with part := if s.part.resetLow then s.part else f s.part } := rfl
@[simp] theorem onRequest_eq (k : ReqKind) (h : Handler) (s : State) :
    onRequest k h s = onPart (fun p => p.serve k h) s := rfl
theorem step_idle (s : State) (h : s.pending = []) : step s = .next s := by unfold step; rw [h]
theorem step_front (c : Instr) (s : State) : step { s with pending := c :: s.pending } = exec c s := rfl

end Sys2Proof.Machine
end

