-- ==== Sys2Proof/Laws/Store.lean ====
section
/-! SUPPORT. Everything the Record Store's two shared operations can do: writing journal records and queueing reports. -/

namespace Sys2Proof.Machine

/-! ### Writing records -/

/-- The last `n` entries of a list do not depend on what was overwritten earlier. -/
theorem lastEntries_append {α : Type} (n : Nat) (l m : List α) :
    (l.drop (l.length - n) ++ m).drop ((l.drop (l.length - n) ++ m).length - n)
      = (l ++ m).drop ((l ++ m).length - n) := by
  simp only [List.length_append, List.length_drop, List.drop_append, List.drop_drop]
  congr 1 <;> congr 1 <;> omega

/-- A record changes the Record Store alone. -/
theorem Part.write_rest (s : Part) (sig : Bool) (f : RecordFields) :
    s.write sig f = { s with rst := (s.write sig f).rst } := rfl

/-- What a record makes of the Record Store: reports, settings and the mark are kept. -/
theorem Part.write_rst (s : Part) (sig : Bool) (f : RecordFields) :
    (s.write sig f).rst =
      { s.rst with
        journal := (s.write sig f).rst.journal, nextSeq := s.rst.nextSeq + 1
        unarchived := (s.write sig f).rst.unarchived, nearFull := (s.write sig f).rst.nearFull } := rfl

/-- The unarchived count rises by one, and stops at J. -/
theorem Part.write_unarchived (s : Part) (sig : Bool) (f : RecordFields) :
    (s.write sig f).rst.unarchived
      = if s.rst.unarchived < s.journalSize then s.rst.unarchived + 1 else s.rst.unarchived := by
  simp [Part.write, Part.modRst, Rst.append]

/-- One written record, as the statements say it. -/
theorem Part.write_recorded (s : Part) (sig : Bool) (f : RecordFields) :
    s.Recorded (s.write sig f) [s.record 0 sig (s.generationOf f.area) f] := by
  refine ⟨?_, ?_, rfl, rfl, rfl, ?_, ?_⟩
  · simp [Part.write, Part.modRst, Rst.append, Part.record]
  · simp [Part.write, Part.modRst, Rst.append]
  · rw [Part.write_unarchived, List.length_singleton]
    split <;> omega
  · simp only [Part.write, Part.modRst, Rst.append, List.length_singleton]
    refine if_congr (and_congr_right fun _ => ?_) rfl rfl
    split <;> omega

/-- An event that writes nothing. -/
theorem Part.recorded_nothing {s t : Part} (h : t.rst.journal = s.rst.journal) (h1 : t.rst.nextSeq = s.rst.nextSeq)
    (h2 : t.rst.mark = s.rst.mark) (h3 : t.rst.enabled = s.rst.enabled) (h4 : t.rst.resyncReason = s.rst.resyncReason)
    (h5 : t.rst.unarchived = s.rst.unarchived) (h6 : t.rst.nearFull = s.rst.nearFull) : s.Recorded t [] := by
  refine ⟨by simpa using h, by simpa using h1, h2, h3, h4, ?_, ?_⟩
  · rw [h5, List.length_nil]; split <;> omega
  · rw [h6, List.length_nil, if_neg (by omega)]

/-- Records written one after the other are written together. -/
theorem Part.Recorded.append {s t u : Part} {l m : List JournalRecord} (h : s.Recorded t l) (k : t.Recorded u m)
    (size : t.journalSize = s.journalSize) : s.Recorded u (l ++ m) := by
  obtain ⟨hj, hn, hm, he, hr, hu, hf⟩ := h
  obtain ⟨kj, kn, km, ke, kr, ku, kf⟩ := k
  rw [size] at kj ku kf
  refine ⟨?_, ?_, km.trans hm, ke.trans he, kr.trans hr, ?_, ?_⟩
  · rw [kj, hj]
    by_cases hl : l = []
    · subst hl; by_cases hm0 : m = [] <;> simp [hm0]
    · by_cases hm0 : m = []
      · subst hm0; simp [hl]
      · simp only [hl, hm0, if_false, List.append_eq_nil_iff, false_and, if_false]
        rw [lastEntries_append, List.append_assoc]
  · rw [kn, hn, List.length_append, BitVec.add_assoc, BitVec.ofNat_add]
  · rw [ku, hu, List.length_append]
    split_ifs <;> omega
  · rw [kf, hf, hu, List.length_append]
    cases s.rst.nearFull with
    | fired => simp
    | armed =>
      simp only [true_and]
      split
      · simp only [reduceCtorEq, false_and, if_false]
        rw [if_pos (by omega)]
      · simp only [true_and]
        refine if_congr ?_ rfl rfl
        split <;> omega

/-! ### Queueing reports -/

/-- A report changes the queue and the count of dropped reports alone. -/
theorem Rst.queue_rest (size : Nat) (r : Rst) (e : ReportEntry) :
    r.queue size e = { r with reports := (r.queue size e).reports, dropped := (r.queue size e).dropped } := by
  unfold Rst.queue
  dsimp only
  split
  · rfl
  · split
    · rfl
    · split <;> rfl

/-- No entry leaves the queue when another is queued. -/
theorem Rst.queue_mono (size : Nat) (r : Rst) (e x : ReportEntry) (h : x ∈ r.reports) : x ∈ (r.queue size e).reports := by
  unfold Rst.queue
  dsimp only
  split
  · exact h
  · split
    · exact h
    · split
      · dsimp only; split
        · exact h
        · exact List.mem_append_left _ h
      · exact List.mem_append_left _ h

/-- R162, R163: a report of an enabled kind stands in the queue afterwards, or OVERFLOW does. -/
theorem Rst.queue_told (size : Nat) (r : Rst) (e : ReportEntry) (h : r.kindEnabled e.kind = true) :
    e ∈ (r.queue size e).reports ∨ ({ kind := .overflow, subject := 0 } : ReportEntry) ∈ (r.queue size e).reports := by
  unfold Rst.queue
  dsimp only
  simp only [h, Bool.not_true, Bool.false_eq_true, if_false]
  split
  · next hc => left; simpa using hc
  · split
    · right; dsimp only; split
      · next hc => simpa using hc
      · simp
    · left; simp

/-- Queueing one report leaves the settings alone. -/
theorem Rst.queue_enabled (size : Nat) (r : Rst) (e : ReportEntry) (k : ReportKind) :
    (r.queue size e).kindEnabled k = r.kindEnabled k := by rw [Rst.queue_rest]; rfl

/-- The reports of an event change the queue and the count of dropped reports alone. -/
theorem Rst.queueAll_rest (size : Nat) (l : List ReportEntry) (r : Rst) :
    l.foldl (fun r e => r.queue size e) r =
      { r with
        reports := (l.foldl (fun r e => r.queue size e) r).reports
        dropped := (l.foldl (fun r e => r.queue size e) r).dropped } := by
  induction l generalizing r with
  | nil => rfl
  | cons e l ih => rw [List.foldl_cons, ih, Rst.queue_rest]

theorem Rst.queueAll_mono (size : Nat) (l : List ReportEntry) (r : Rst) (x : ReportEntry) (h : x ∈ r.reports) :
    x ∈ (l.foldl (fun r e => r.queue size e) r).reports := by
  induction l generalizing r with
  | nil => exact h
  | cons e l ih => exact ih _ (r.queue_mono size e x h)

/-- What queueing makes of the reports and the count depends on them and the settings alone. -/
theorem Rst.queueAll_congr (size : Nat) (l : List ReportEntry) {r q : Rst} (h : r.reports = q.reports)
    (h1 : r.dropped = q.dropped) (h2 : r.enabled = q.enabled) :
    (l.foldl (fun r e => r.queue size e) r).reports = (l.foldl (fun r e => r.queue size e) q).reports
    ∧ (l.foldl (fun r e => r.queue size e) r).dropped = (l.foldl (fun r e => r.queue size e) q).dropped := by
  induction l generalizing r q with
  | nil => exact ⟨h, h1⟩
  | cons e l ih =>
    have hk : r.kindEnabled e.kind = q.kindEnabled e.kind := by simp only [Rst.kindEnabled, h2]
    refine ih ?_ ?_ ?_ <;> unfold Rst.queue <;> dsimp only <;> rw [hk, h] <;>
      (split; · simp only [h, h1, h2]) <;> (split; · simp only [h, h1, h2]) <;> split <;> simp only [h1, h2]

/-- The reports of an event change nothing outside the Record Store. -/
theorem Part.queueReports_rest (s : Part) (l : List ReportEntry) :
    s.queueReports l =
      { s with
        rst :=
          { s.rst with reports := (s.queueReports l).rst.reports, dropped := (s.queueReports l).rst.dropped } } := by
  have h := Rst.queueAll_rest s.journalSize l s.rst
  simp only [Part.queueReports, Part.modRst] at h ⊢
  rw [← h]

/-- Every report that an event queues has been told, as the statements say it. -/
theorem Part.queueReports_told (s : Part) (l : List ReportEntry) (e : ReportEntry) (he : e ∈ l) :
    (s.queueReports l).Told e := by
  intro h
  have henab : ∀ (l : List ReportEntry) (r : Rst),
      (l.foldl (fun r e => r.queue s.journalSize e) r).kindEnabled e.kind = r.kindEnabled e.kind := by
    intro l r; rw [Rst.queueAll_rest]; rfl
  have key : ∀ (l : List ReportEntry) (r : Rst), e ∈ l → r.kindEnabled e.kind = true →
      e ∈ (l.foldl (fun r e => r.queue s.journalSize e) r).reports
        ∨ ({ kind := .overflow, subject := 0 } : ReportEntry) ∈ (l.foldl (fun r e => r.queue s.journalSize e) r).reports := by
    intro l
    induction l with
    | nil => intro r h; simp at h
    | cons x l ih =>
      intro r hx hr
      rcases List.mem_cons.1 hx with rfl | hx
      · rcases r.queue_told s.journalSize e hr with h | h
        · exact .inl (Rst.queueAll_mono _ l _ _ h)
        · exact .inr (Rst.queueAll_mono _ l _ _ h)
      · exact ih _ hx (by rw [Rst.queue_enabled]; exact hr)
  exact key l s.rst he ((henab l s.rst).symm.trans h)

end Sys2Proof.Machine
end

