-- ==== Sys2Proof/Laws/Tables.lean ====
section
/-! SUPPORT. What reading an entry of a table numbered from 1 gives after a write, a map or a fresh table. -/

namespace Sys2Proof.Machine

variable {α : Type} [Inhabited α] {n : Nat}

/-- An entry of the table is read as the vector's element. -/
theorem getAt_eq (v : Vector α n) (i : Nat) (h : 1 ≤ i ∧ i ≤ n) : getAt v i = v[i - 1]'(by omega) := by
  obtain ⟨h1, h2⟩ := h
  cases i with
  | zero => omega
  | succ k => simp [getAt, Vector.getD, show k < n by omega]

/-- Outside the table the default record is read. -/
theorem getAt_out (v : Vector α n) (i : Nat) (h : ¬(1 ≤ i ∧ i ≤ n)) : getAt v i = default := by
  cases i with
  | zero => rfl
  | succ k => simp [getAt, Vector.getD, show ¬k < n by omega]

omit [Inhabited α] in
/-- A write outside the table changes nothing. -/
theorem setAt_out (v : Vector α n) (i : Nat) (x : α) (h : ¬(1 ≤ i ∧ i ≤ n)) : setAt v i x = v := by
  cases i with
  | zero => rfl
  | succ k =>
    apply Vector.ext
    intro j hj
    simp only [setAt, Vector.getElem_setIfInBounds]
    split
    · omega
    · rfl

/-- Reading after a write: the written entry, or the old one. -/
theorem getAt_setAt (v : Vector α n) (i j : Nat) (x : α) :
    getAt (setAt v i x) j = if i = j ∧ 1 ≤ i ∧ i ≤ n then x else getAt v j := by
  by_cases hj : 1 ≤ j ∧ j ≤ n
  · rw [getAt_eq _ _ hj, getAt_eq _ _ hj]
    cases i with
    | zero => simp [setAt]
    | succ k =>
      simp only [setAt, Vector.getElem_setIfInBounds]
      by_cases h : k = j - 1
      · simp [h, show j - 1 + 1 = j by omega, hj.1, hj.2]
      · simp [h, show ¬(k + 1 = j) by omega]
  · rw [getAt_out _ _ hj, getAt_out _ _ hj]
    rw [if_neg]
    rintro ⟨rfl, h⟩
    exact hj h

@[simp] theorem getAt_setAt_same (v : Vector α n) (i : Nat) (x : α) (h : 1 ≤ i) (h' : i ≤ n) :
    getAt (setAt v i x) i = x := by simp [getAt_setAt, h, h']

@[simp] theorem getAt_setAt_ne (v : Vector α n) (i j : Nat) (x : α) (h : i ≠ j) :
    getAt (setAt v i x) j = getAt v j := by simp [getAt_setAt, h]

/-- Reading after a change by `f`. -/
theorem getAt_modAt (v : Vector α n) (i j : Nat) (f : α → α) :
    getAt (modAt v i f) j = if i = j ∧ 1 ≤ i ∧ i ≤ n then f (getAt v j) else getAt v j := by
  unfold modAt
  rw [getAt_setAt]
  split
  · next h => rw [h.1]
  · rfl

@[simp] theorem getAt_modAt_same (v : Vector α n) (i : Nat) (f : α → α) (h : 1 ≤ i) (h' : i ≤ n) :
    getAt (modAt v i f) i = f (getAt v i) := by simp [getAt_modAt, h, h']

@[simp] theorem getAt_modAt_ne (v : Vector α n) (i j : Nat) (f : α → α) (h : i ≠ j) :
    getAt (modAt v i f) j = getAt v j := by simp [getAt_modAt, h]

/-- A change by `f` leaves what `g` reads of every entry, when `f` leaves what `g` reads. -/
theorem getAt_modAt_keeps {β : Type} (v : Vector α n) (i j : Nat) (f : α → α) (g : α → β) (h : ∀ x, g (f x) = g x) :
    g (getAt (modAt v i f) j) = g (getAt v j) := by
  rw [getAt_modAt]
  split
  · exact h _
  · rfl

@[simp] theorem getAt_replicate (x : α) (i : Nat) (h : 1 ≤ i) (h' : i ≤ n) : getAt (Vector.replicate n x) i = x := by
  rw [getAt_eq _ _ ⟨h, h'⟩]; simp

@[simp] theorem getAt_map {β : Type} [Inhabited β] (f : α → β) (v : Vector α n) (i : Nat) (h : 1 ≤ i) (h' : i ≤ n) :
    getAt (v.map f) i = f (getAt v i) := by
  rw [getAt_eq _ _ ⟨h, h'⟩, getAt_eq _ _ ⟨h, h'⟩]; simp

@[simp] theorem getAt_mapIdx {β : Type} [Inhabited β] (f : Nat → α → β) (v : Vector α n) (i : Nat) (h : 1 ≤ i)
    (h' : i ≤ n) : getAt (v.mapIdx f) i = f (i - 1) (getAt v i) := by
  rw [getAt_eq _ _ ⟨h, h'⟩, getAt_eq _ _ ⟨h, h'⟩]; simp

/-- Two tables with the same entries are the same table. -/
theorem table_ext (u v : Vector α n) (h : ∀ i, 1 ≤ i → i ≤ n → getAt u i = getAt v i) : u = v := by
  apply Vector.ext
  intro i hi
  have := h (i + 1) (by omega) (by omega)
  rw [getAt_eq _ _ (by omega), getAt_eq _ _ (by omega)] at this
  simpa using this

/-- A number is in `numbers n` when it is one of 1..n. -/
@[simp] theorem mem_numbers (i : Nat) : i ∈ numbers n ↔ 1 ≤ i ∧ i ≤ n := by
  unfold numbers
  rw [List.mem_range'_1]
  omega

/-! ### The records of the part -/

theorem Part.modPoint_point (s : Part) (p q : Nat) (f : Point → Point) :
    (s.modPoint p f).point q = if p = q ∧ 1 ≤ p ∧ p ≤ 1024 then f (s.point q) else s.point q := getAt_modAt ..
theorem Part.modArea_area (s : Part) (a b : Nat) (f : Area → Area) :
    (s.modArea a f).area b = if a = b ∧ 1 ≤ a ∧ a ≤ 16 then f (s.area b) else s.area b := getAt_modAt ..
theorem Part.modDesk_desk (s : Part) (d e : Nat) (f : Desk → Desk) :
    (s.modDesk d f).desk e = if d = e ∧ 1 ≤ d ∧ d ≤ 6 then f (s.desk e) else s.desk e := getAt_modAt ..
theorem Part.modSession_session (s : Part) (n m : Nat) (f : Session → Session) :
    (s.modSession n f).session m = if n = m ∧ 1 ≤ n ∧ n ≤ 4 then f (s.session m) else s.session m := getAt_modAt ..

end Sys2Proof.Machine
end

