-- ==== Sys2Proof/Laws/Events.lean ====
section
/-! SUPPORT. What frames every event: the taking of a request and its answer, the end of an event, and the one form in which
every command completes. -/

namespace Sys2Proof.Machine

/-! ### Completing -/

/-- A command that is not a reset runs its change of the part unless RESET# is low. -/
theorem onPart_next (f : Part → Part) (q : List Instr) (s : Part) :
    onPart f { pending := q, part := s } = .next { pending := q, part := if s.resetLow then s else f s } := rfl

/-- A change of the part that leads from `s` to `t` while RESET# is high is a completion. -/
theorem onPart_completes {f : Part → Part} {s t : Part} (h : s.resetLow = false) (hf : f s = t) (q : List Instr) :
    onPart f { pending := q, part := s } = .next { pending := q, part := t } := by
  rw [onPart_next, h, hf]; rfl

/-! ### Requests (R172) -/

theorem byteOf_toNat (n : Nat) : (byteOf n).toNat = n % 256 := by simp [byteOf]

/-- A request kind stands in a KIND byte below 80h. -/
theorem ReqKind.code_lt (k : ReqKind) : k.code < 128 := by cases k <;> decide

/-- Different request kinds have different codes. -/
theorem ReqKind.code_inj (k l : ReqKind) (h : k.code = l.code) : k = l := by
  revert h; cases k <;> cases l <;> first | (intro _; rfl) | (intro h; exact absurd h (by decide))

/-- The part with the oldest frame of the input queue taken. -/
def Part.taken (s : Part) : Part := s.modLif fun l => { l with inputQueue := l.inputQueue.tail }

/-- R172: the reply's kind is the request's plus 80h. -/
theorem replyKind_code (k : ReqKind) : replyKind (byteOf k.code) = byteOf (k.code + 128) := by cases k <;> decide

/-- A request that is offered is handled whole and answered. -/
theorem Part.serve_offered {s : Part} {k : ReqKind} {tag : Byte} {body : List Byte} (h : s.Offered k tag body) (f : Handler) :
    s.serve k f =
      ((s.taken.handle k f body).1).reply tag (byteOf k.code) ((s.taken.handle k f body).2) := by
  obtain ⟨_, h1, h2⟩ := h
  unfold Part.serve
  cases hq : s.lif.inputQueue with
  | nil => simp [hq] at h2
  | cons g rest =>
    rw [hq] at h2
    obtain rfl : g = { tag := tag, kind := byteOf k.code, body := body } := by simpa using h2
    have hk := ReqKind.code_lt k
    have ht : s.taken = s.modLif fun l => { l with inputQueue := rest } := by simp [Part.taken, Part.modLif, hq]
    simp only [h1, byteOf_toNat, show k.code % 256 = k.code by omega, if_true, ht]

/-- A request that passes the checks of the link reaches its owning block. -/
theorem Part.handle_taken {s : Part} {k : ReqKind} {tag : Byte} {body : List Byte} (h : s.Takes k tag body) (f : Handler) :
    s.taken.handle k f body = f body s.taken := by
  obtain ⟨_, h1, h2⟩ := h
  have hp : s.taken.phase = s.phase := rfl
  simp [Part.handle, h1, h2, hp]

/-- An owning block that leaves the Link Interface alone leaves it with the answer in the slot. -/
theorem Part.reply_lif {s t : Part} (k : ReqKind) (tag : Byte) (body : List Byte) (h : t.lif = s.taken.lif) :
    (t.reply tag (byteOf k.code) body).lif = s.answer k tag body := by
  simp [Part.reply, Part.modLif, h, Part.taken, Part.answer, replyKind_code]

/-- The answer changes nothing but the Link Interface. -/
theorem Part.reply_rest (s : Part) (tag kind : Byte) (body : List Byte) :
    s.reply tag kind body = { s with lif := (s.reply tag kind body).lif } := rfl

/-! ### The end of an event -/

/-- A change of each of the first `n` desks in turn. -/
theorem foldl_modDesk (f : Nat → Desk → Desk) (n : Nat) (s : Part) :
    (numbers n).foldl (fun t d => t.modDesk d (f d)) s
      = { s with desks := ((numbers n).foldl (fun t d => t.modDesk d (f d)) s).desks }
    ∧ ∀ d, 1 ≤ d → d ≤ 6 → ((numbers n).foldl (fun t d => t.modDesk d (f d)) s).desk d
        = if d ≤ n then f d (s.desk d) else s.desk d := by
  induction n with
  | zero =>
    refine ⟨rfl, fun d h _ => ?_⟩
    simp [numbers, show ¬d = 0 by omega]
  | succ n ih =>
    obtain ⟨ih1, ih2⟩ := ih
    have hs : numbers (n + 1) = numbers n ++ [n + 1] := by simp [numbers, List.range'_concat, Nat.add_comm]
    simp only [hs, List.foldl_append, List.foldl_cons, List.foldl_nil]
    refine ⟨?_, fun d h h' => ?_⟩
    · conv_lhs => rw [ih1]
      conv_rhs => rw [ih1]
      rfl
    · rw [Part.modDesk_desk, ih2 d h h']
      by_cases hd : n + 1 = d
      · subst hd
        simp [h']
      · simp only [hd, false_and, if_false]
        by_cases hle : d ≤ n
        · simp [hle, show d ≤ n + 1 by omega]
        · simp [hle, show ¬d ≤ n + 1 by omega]

/-- R125: working the horns out again changes the desks alone. -/
theorem Part.refreshHorns_rest (s : Part) : s.refreshHorns = { s with desks := s.refreshHorns.desks } :=
  (foldl_modDesk (fun d x => { x with horn := (s.hornAfter d).1, hornPattern := (s.hornAfter d).2 }) 6 s).1

/-- R125, R126: each desk after its horn has been worked out again. -/
theorem Part.refreshHorns_desk (s : Part) (d : Nat) (h : 1 ≤ d) (h' : d ≤ 6) :
    s.refreshHorns.desk d = { s.desk d with horn := (s.hornAfter d).1, hornPattern := (s.hornAfter d).2 } := by
  have := (foldl_modDesk (fun d x => { x with horn := (s.hornAfter d).1, hornPattern := (s.hornAfter d).2 }) 6 s).2 d h h'
  simpa [h', Part.refreshHorns] using this

/-- The horn worked out follows the slots. -/
theorem Part.hornAfter_ok (s : Part) (d : Nat) :
    (s.hornAfter d).1 = (s.desk d).hornFromSlots ∧ ((s.hornAfter d).1 ≠ .sounding → (s.hornAfter d).2 = 0) := by
  unfold Part.hornAfter
  cases (s.desk d).hornFromSlots <;> simp

/-- R125: after it every horn follows its slots. -/
theorem Part.refreshHorns_follow (s : Part) : s.refreshHorns.HornsFollow := by
  intro d hd
  obtain ⟨h, h'⟩ := (mem_numbers d).1 hd
  rw [Desk.HornOk, s.refreshHorns_desk d h h']
  exact s.hornAfter_ok d

/-- A desk whose horn follows its slots is not changed. -/
theorem Part.refreshHorns_kept (s : Part) (d : Nat) (h : 1 ≤ d) (h' : d ≤ 6) (ok : (s.desk d).HornOk) :
    s.refreshHorns.desk d = s.desk d := by
  obtain ⟨h1, h2⟩ := ok
  rw [s.refreshHorns_desk d h h']
  have : s.hornAfter d = ((s.desk d).horn, (s.desk d).hornPattern) := by
    unfold Part.hornAfter
    rw [← h1]
    cases hh : (s.desk d).horn with
    | sounding => simp
    | off => simp [h2 (by simp [hh])]
    | silenced => simp [h2 (by simp [hh])]
  rw [this]

/-- A part that differs from `t` in its desks alone, with another Record Store. -/
theorem Part.withRst {u t : Part} (h : u = { t with desks := u.desks }) (x : Rst) :
    { u with rst := x } = { t with desks := u.desks, rst := x } := by
  obtain ⟨⟩ := u
  obtain ⟨⟩ := t
  simp only [Part.mk.injEq] at h ⊢
  simp only [h, and_self]

/-- The end of an event works the horns out again and queues reports; nothing else. -/
theorem closeEvent_rest (s : Part) (extra : List ReportEntry) (t : Part) :
    closeEvent s extra t =
      { t with
        desks := t.refreshHorns.desks
        rst :=
          { t.rst with
            reports := (closeEvent s extra t).rst.reports, dropped := (closeEvent s extra t).rst.dropped } } := by
  unfold closeEvent
  generalize eventReports s t.refreshHorns extra = l
  have hr : t.refreshHorns.rst = t.rst := by rw [Part.refreshHorns_rest]
  have h := Part.queueReports_rest t.refreshHorns l
  rw [hr, Part.withRst t.refreshHorns_rest] at h
  exact h

/-- At the end of an event every desk is the one whose horn has been worked out again. -/
theorem closeEvent_desk (s : Part) (extra : List ReportEntry) (t : Part) (d : Nat) :
    (closeEvent s extra t).desk d = t.refreshHorns.desk d := by
  have h : (closeEvent s extra t).desks = t.refreshHorns.desks := by
    have := congrArg Part.desks (closeEvent_rest s extra t)
    exact this
  unfold Part.desk
  rw [h]

/-- At the end of an event every horn follows its slots. -/
theorem closeEvent_follow (s : Part) (extra : List ReportEntry) (t : Part) : (closeEvent s extra t).HornsFollow := by
  intro d hd
  rw [closeEvent_desk]
  exact t.refreshHorns_follow d hd

/-- Every report of an event has been told at its end. -/
theorem closeEvent_told (s : Part) (extra : List ReportEntry) (t : Part) (e : ReportEntry)
    (h : e ∈ eventReports s t.refreshHorns extra) : (closeEvent s extra t).Told e :=
  Part.queueReports_told _ _ e h

/-- The end of an event writes no record. -/
theorem closeEvent_recorded (s : Part) (extra : List ReportEntry) (t : Part) : t.Recorded (closeEvent s extra t) [] := by
  have h := congrArg Part.rst (closeEvent_rest s extra t)
  dsimp only at h
  have h1 := congrArg Rst.journal h
  have h2 := congrArg Rst.nextSeq h
  have h3 := congrArg Rst.mark h
  have h4 := congrArg Rst.enabled h
  have h5 := congrArg Rst.resyncReason h
  have h6 := congrArg Rst.unarchived h
  have h7 := congrArg Rst.nearFull h
  exact Part.recorded_nothing h1 h2 h3 h4 h5 h6 h7

/-- The lamp sources read the link state alone of the Link Interface. -/
theorem Part.lampSource_lif (s : Part) (l : Lif) (h : l.link = s.lif.link) (d k : Nat) :
    ({ s with lif := l } : Part).lampSource d k = s.lampSource d k := by
  unfold Part.lampSource
  dsimp only
  split <;> first | rfl | simp only [h]

/-- The reports of an event read the near-full state alone of the Record Store after it. -/
theorem eventReports_rst (s t : Part) (extra : List ReportEntry) (r : Rst) (h : r.nearFull = t.rst.nearFull) :
    eventReports s { t with rst := r } extra = eventReports s t extra := by
  unfold eventReports
  dsimp only
  rw [h]
  rfl

/-- The reports of an event read the link state alone of the Link Interface after it. -/
theorem eventReports_lif (s t : Part) (extra : List ReportEntry) (l : Lif) (h : l.link = t.lif.link) :
    eventReports s { t with lif := l } extra = eventReports s t extra := by
  have hl : ∀ d, ({ t with lif := l } : Part).lampSources d = t.lampSources d := fun d =>
    List.map_congr_left fun k _ => t.lampSource_lif l h d k
  have hd : ∀ d, deskReported s { t with lif := l } d = deskReported s t d := fun d => by
    unfold deskReported
    rw [hl d]
    rfl
  unfold eventReports
  simp only [hd]

/-- The reports of an event read the link state alone of the Link Interface before it. -/
theorem eventReports_lif_before (s t : Part) (extra : List ReportEntry) (l : Lif) (h : l.link = s.lif.link) :
    eventReports { s with lif := l } t extra = eventReports s t extra := by
  have hl : ∀ d, ({ s with lif := l } : Part).lampSources d = s.lampSources d := fun d =>
    List.map_congr_left fun k _ => s.lampSource_lif l h d k
  have hd : ∀ d, deskReported { s with lif := l } t d = deskReported s t d := fun d => by
    unfold deskReported
    rw [hl d]
    rfl
  unfold eventReports
  simp only [hd]

/-- The end of an event queues the reports of its changes, as the statements say it. -/
theorem closeEvent_reported {s t : Part} (extra : List ReportEntry) (h : t.rst.reports = s.rst.reports)
    (h1 : t.rst.dropped = s.rst.dropped) (h2 : t.rst.enabled = s.rst.enabled) (h3 : t.journalSize = s.journalSize) :
    s.Reported (closeEvent s extra t) extra := by
  have hr : t.refreshHorns.rst = t.rst := by rw [Part.refreshHorns_rest]
  have hl : t.refreshHorns.live = t.live := by rw [Part.refreshHorns_rest]
  have hs : t.refreshHorns.journalSize = s.journalSize := by rw [← h3, Part.journalSize, hl, Part.journalSize]
  have he : eventReports s (closeEvent s extra t) extra = eventReports s t.refreshHorns extra := by
    have hn : (closeEvent s extra t).rst.nearFull = t.refreshHorns.rst.nearFull := by
      rw [hr]
      exact congrArg (fun p => p.rst.nearFull) (closeEvent_rest s extra t)
    have hc : closeEvent s extra t = { t.refreshHorns with rst := (closeEvent s extra t).rst } := by
      unfold closeEvent Part.queueReports Part.modRst
      generalize t.refreshHorns = v
      rfl
    rw [hc]
    exact eventReports_rst s t.refreshHorns extra _ hn
  unfold Part.Reported
  rw [he]
  unfold closeEvent Part.queueReports Part.modRst
  rw [hs]
  exact Rst.queueAll_congr _ _ (by rw [hr, h]) (by rw [hr, h1]) (by rw [hr, h2])

/-- An answer leaves the reports of the event as they are. -/
theorem Part.Reported.reply {s t : Part} {extra : List ReportEntry} (h : s.Reported t extra) (tag kind : Byte)
    (body : List Byte) : s.Reported (t.reply tag kind body) extra := by
  have he : eventReports s (t.reply tag kind body) extra = eventReports s t extra :=
    eventReports_lif s t extra (t.reply tag kind body).lif rfl
  unfold Part.Reported at h ⊢
  rw [he]
  exact h

/-- The taking of a frame leaves the reports of the event as they are. -/
theorem Part.Reported.ofTaken {s t : Part} {extra : List ReportEntry} (h : s.taken.Reported t extra) :
    s.Reported t extra := by
  have he : eventReports s.taken t extra = eventReports s t extra := eventReports_lif_before s t extra s.taken.lif rfl
  unfold Part.Reported at h ⊢
  rw [← he]
  exact h

/-- R125: the wanted pattern of a desk with an occupant whose flag is off. -/
theorem Part.wantedPattern_wants (s : Part) (d : Nat) (h : (s.desk d).hornFromSlots = .sounding) :
    s.Wants d (s.wantedPattern d) := by
  have hx : ∃ x ∈ (s.desk d).occupants, x.silenced = false := by
    unfold Desk.hornFromSlots at h
    split at h
    · cases h
    · split at h
      · next hs => simpa using hs
      · cases h
  obtain ⟨x, hm, hf⟩ := hx
  unfold Part.wantedPattern
  cases hmin : (((s.desk d).occupants.filter (!·.silenced)).map fun x => (s.pointS x.point).priority).min? with
  | none =>
    rw [List.min?_eq_none_iff, List.map_eq_nil_iff, List.filter_eq_nil_iff] at hmin
    exact absurd (by simp [hf]) (hmin x hm)
  | some n =>
    obtain ⟨hn, hle⟩ := List.min?_eq_some_iff.1 hmin
    obtain ⟨y, hy, rfl⟩ := List.mem_map.1 hn
    obtain ⟨hy, hyf⟩ := List.mem_filter.1 hy
    refine ⟨⟨y, hy, by simpa using hyf, rfl⟩, fun z hz hzf => hle _ ?_⟩
    exact List.mem_map.2 ⟨z, List.mem_filter.2 ⟨hz, by simp [hzf]⟩, rfl⟩

/-- R125, R126: the horn of a desk at the end of an event that did not touch it. -/
theorem closeEvent_hornMoved {s t : Part} (extra : List ReportEntry) (d : Nat) (hd : d ∈ numbers 6)
    (h : (t.desk d).horn = (s.desk d).horn) (h1 : (t.desk d).hornPattern = (s.desk d).hornPattern) :
    s.HornMoved (closeEvent s extra t) d := by
  obtain ⟨hd1, hd2⟩ := (mem_numbers d).1 hd
  have hw : ∀ n, (closeEvent s extra t).Wants d n ↔ t.Wants d n := fun n => by
    have hl : (closeEvent s extra t).live = t.live := by
      have := congrArg Part.live (closeEvent_rest s extra t)
      exact this
    have hp : ∀ p, (closeEvent s extra t).pointS p = t.pointS p := fun p => by rw [Part.pointS, hl, Part.pointS]
    have ho : ((closeEvent s extra t).desk d).occupants = (t.desk d).occupants := by
      rw [closeEvent_desk, t.refreshHorns_desk d hd1 hd2]; rfl
    unfold Part.Wants
    simp only [hp, ho]
  refine ⟨closeEvent_follow s extra t d hd, ?_, ?_⟩
  · rw [closeEvent_desk, t.refreshHorns_desk d hd1 hd2, ← h, ← h1]
    intro h2 h3
    dsimp only at h2 ⊢
    unfold Part.hornAfter at h2 ⊢
    cases hs : (t.desk d).hornFromSlots <;> simp only [hs] at h2 ⊢
    · cases h2
    · rw [if_pos h3]
    · cases h2
  · intro h2 h3
    rw [hw]
    rw [closeEvent_desk, t.refreshHorns_desk d hd1 hd2] at h2 ⊢
    rw [← h] at h3
    dsimp only at h2 ⊢
    unfold Part.hornAfter at h2 ⊢
    cases hs : (t.desk d).hornFromSlots <;> simp only [hs] at h2 ⊢
    · cases h2
    · rw [if_neg h3]
      exact t.wantedPattern_wants d hs
    · cases h2

/-! ### Which entries an event reports -/

/-- An entry of a report kind stands for each record that changed. -/
theorem mem_changedEntries {α : Type} (k : ReportKind) (extra : List ReportEntry) (f : α → α → Bool) (u v : List α) (i : Nat)
    (x y : α) (hu : u[i]? = some x) (hv : v[i]? = some y) (h : f x y = true) :
    ({ kind := k, subject := i + 1 } : ReportEntry) ∈ changedEntries k extra f u v := by
  unfold changedEntries
  refine List.mem_map.2 ⟨((x, y), i + 1), List.mem_filter.2 ⟨?_, by simp [h]⟩, rfl⟩
  rw [List.mem_zipIdx_iff_le_and_getElem?_sub]
  refine ⟨by simp, ?_⟩
  simp [List.getElem?_zip_eq_some, hu, hv]

end Sys2Proof.Machine
end

