-- ==== Sys2Proof/Laws/Moves.lean ====
section
/-! SUPPORT. What the fill, the returns and the recomputation of presentation desks can change: placements, pending queues,
slots and orders, and for a recomputation also presentation desks and modes. -/

namespace Sys2Proof.Machine

/-- From `s` to `t` points moved between pending queues and slots, and nothing else changed. -/
structure MovesOnly (s t : Part) : Prop where
  rest : t = { s with points := t.points, areas := t.areas, desks := t.desks }
  point : ∀ p, t.point p = { s.point p with placement := (t.point p).placement }
  area : ∀ a, t.area a = { s.area a with pend := (t.area a).pend }
  desk : ∀ d, t.desk d =
    { s.desk d with slots := (t.desk d).slots, order := (t.desk d).order, rotation := (t.desk d).rotation }

theorem MovesOnly.refl (s : Part) : MovesOnly s s := ⟨rfl, fun _ => rfl, fun _ => rfl, fun _ => rfl⟩

theorem MovesOnly.trans {s t u : Part} (h : MovesOnly s t) (k : MovesOnly t u) : MovesOnly s u where
  rest := by rw [k.rest, h.rest]
  point p := by rw [k.point, h.point]
  area a := by rw [k.area, h.area]
  desk d := by rw [k.desk, h.desk]

/-- A change of one point's placement is a move. -/
theorem MovesOnly.modPlacement (s : Part) (p : Nat) (x : Placement) :
    MovesOnly s (s.modPoint p fun y => { y with placement := x }) where
  rest := rfl
  point q := by rw [Part.modPoint_point]; split <;> rfl
  area _ := rfl
  desk _ := rfl

/-- A change of one area's pending queues is a move. -/
theorem MovesOnly.modPend (s : Part) (a : Nat) (f : Vector (List Nat) 4 → Vector (List Nat) 4) :
    MovesOnly s (s.modArea a fun y => { y with pend := f y.pend }) where
  rest := rfl
  point _ := rfl
  area b := by rw [Part.modArea_area]; split <;> rfl
  desk _ := rfl

/-- A change of one desk's slots and orders is a move. -/
theorem MovesOnly.modSlots (s : Part) (d : Nat) (f : Desk → Desk)
    (hf : ∀ x, f x = { x with slots := (f x).slots, order := (f x).order, rotation := (f x).rotation }) :
    MovesOnly s (s.modDesk d f) where
  rest := rfl
  point _ := rfl
  area _ := rfl
  desk e := by rw [Part.modDesk_desk]; split; exacts [hf _, rfl]

theorem joinPending_moves (s : Part) (p : Nat) : MovesOnly s (s.joinPending p) :=
  (MovesOnly.modPend s (s.pointS p).area fun v => modAt v (s.pointS p).priority (· ++ [p])).trans
    (MovesOnly.modPlacement _ p .queued)

theorem returnHead_moves (s : Part) (p : Nat) : MovesOnly s (s.returnHead p) :=
  (MovesOnly.modPend s (s.pointS p).area fun v => modAt v (s.pointS p).priority (p :: ·)).trans
    (MovesOnly.modPlacement _ p .queued)

theorem emptySlot_moves (s : Part) (d k : Nat) : MovesOnly s (s.emptySlot d k) := .modSlots _ _ _ fun _ => rfl

theorem returnSlot_moves (s : Part) (d k : Nat) : MovesOnly s (s.returnSlot d k) := by
  unfold Part.returnSlot
  split
  · exact .refl s
  · exact (emptySlot_moves s d k).trans (returnHead_moves _ _)

theorem placeInSlot_moves (s : Part) (d k a pr p : Nat) : MovesOnly s (s.placeInSlot d k a pr p) :=
  ((MovesOnly.modPend s a fun v => modAt v pr List.tail).trans (MovesOnly.modSlots _ d
    (fun x =>
      { x with
        slots := setAt x.slots k
          (some { point := p, view := (s.point p).view, presentedAt := s.now, silenced := false })
        order := x.order ++ [k]
        rotation := x.rotation.filter (· != a) ++ [a] }) fun _ => rfl)).trans
    (MovesOnly.modPlacement _ p (.presented d k))

theorem fillStep_moves (s t : Part) (d : Nat) (h : s.fillStep d = some t) : MovesOnly s t := by
  unfold Part.fillStep at h
  split at h
  · cases h
  · split at h
    · cases h; exact placeInSlot_moves ..
    · split at h
      · cases h
      · split at h
        · cases h; exact (returnSlot_moves ..).trans (placeInSlot_moves ..)
        · cases h

theorem fillLoop_moves (n : Nat) (s : Part) (d : Nat) : MovesOnly s (Part.fillLoop n s d) := by
  induction n generalizing s with
  | zero => exact .refl s
  | succ n ih =>
    unfold Part.fillLoop
    split
    · exact .refl s
    · next t h => exact (fillStep_moves s t d h).trans (ih t)

/-- R101, R105: a fill only moves points. -/
theorem fill_moves (s : Part) (d : Nat) : MovesOnly s (s.fill d) := by
  unfold Part.fill
  split
  · exact .refl s
  · exact fillLoop_moves ..

/-- A fold of moves is a move. -/
theorem foldl_moves {α : Type} (f : Part → α → Part) (hf : ∀ s x, MovesOnly s (f s x)) (l : List α) (s : Part) :
    MovesOnly s (l.foldl f s) := by
  induction l generalizing s with
  | nil => exact .refl s
  | cons x l ih => exact (hf s x).trans (ih _)

theorem fillWhere_moves (s : Part) (f : Nat → Bool) : MovesOnly s (s.fillWhere f) := foldl_moves _ fill_moves _ s

theorem fillAreaDesk_moves (s : Part) (a : Nat) : MovesOnly s (s.fillAreaDesk a) := fill_moves ..

theorem returnsAt_moves (s : Part) (new : Nat → Nat) (d : Nat) : MovesOnly s (s.returnsAt new d) := by
  refine foldl_moves _ (fun s k => ?_) _ s
  split
  · exact .refl s
  · split
    · exact .refl s
    · exact returnSlot_moves ..

/-- From `s` to `t` points moved, presentation desks and modes changed, and nothing else did. -/
structure PresentsOnly (s t : Part) : Prop where
  rest : t = { s with points := t.points, areas := t.areas, desks := t.desks }
  point : ∀ p, t.point p = { s.point p with placement := (t.point p).placement }
  area : ∀ a, t.area a =
    { s.area a with pend := (t.area a).pend, pdesk := (t.area a).pdesk, mode := (t.area a).mode }
  desk : ∀ d, t.desk d =
    { s.desk d with slots := (t.desk d).slots, order := (t.desk d).order, rotation := (t.desk d).rotation }

theorem PresentsOnly.refl (s : Part) : PresentsOnly s s := ⟨rfl, fun _ => rfl, fun _ => rfl, fun _ => rfl⟩

theorem PresentsOnly.trans {s t u : Part} (h : PresentsOnly s t) (k : PresentsOnly t u) : PresentsOnly s u where
  rest := by rw [k.rest, h.rest]
  point p := by rw [k.point, h.point]
  area a := by rw [k.area, h.area]
  desk d := by rw [k.desk, h.desk]

theorem MovesOnly.presents {s t : Part} (h : MovesOnly s t) : PresentsOnly s t where
  rest := h.rest
  point := h.point
  area a := by rw [h.area]
  desk := h.desk

theorem setPresentation_presents (s : Part) (new : Nat → PresMode × Nat) : PresentsOnly s (s.setPresentation new) := by
  unfold Part.setPresentation
  generalize numbers Config.nAreas = l
  induction l generalizing s with
  | nil => exact .refl s
  | cons a l ih =>
    refine PresentsOnly.trans ?_ (ih _)
    exact ⟨rfl, fun _ => rfl, fun b => by rw [Part.modArea_area]; split <;> rfl, fun _ => rfl⟩

/-- R11: a recomputation moves points and sets presentation desks and modes. -/
theorem recompute_presents (s : Part) : PresentsOnly s s.recompute :=
  ((foldl_moves _ (fun _ _ => returnsAt_moves ..) _ s).presents.trans (setPresentation_presents ..)).trans
    (fillWhere_moves ..).presents

/-- The sign-off of a desk moves its points and empties its sign-on and stack. -/
theorem signOffDesk_points (s : Part) (d p : Nat) :
    (s.signOffDesk d).point p = { s.point p with placement := ((s.signOffDesk d).point p).placement } :=
  (foldl_moves _ (fun s k => returnSlot_moves s d k) _ _).point p

end Sys2Proof.Machine
end

