-- ==== Sys2Proof/Laws/Places.lean ====
section
/-! SUPPORT. What placing a point, withdrawing it and entering FLOOD can change: placements, queues, the deferred count, slots
and orders. -/

namespace Sys2Proof.Machine

/-- From `s` to `t` points moved between queues and slots, and the deferred counts with them; nothing else changed. -/
structure PlacesOnly (s t : Part) : Prop where
  rest : t = { s with points := t.points, areas := t.areas, desks := t.desks }
  point : ∀ p, t.point p = { s.point p with placement := (t.point p).placement }
  area : ∀ a, t.area a =
    { s.area a with
      pend := (t.area a).pend, defer := (t.area a).defer
      counts := { (s.area a).counts with deferred := (t.area a).counts.deferred } }
  desk : ∀ d, t.desk d =
    { s.desk d with slots := (t.desk d).slots, order := (t.desk d).order, rotation := (t.desk d).rotation }

theorem PlacesOnly.refl (s : Part) : PlacesOnly s s := ⟨rfl, fun _ => rfl, fun _ => rfl, fun _ => rfl⟩

theorem PlacesOnly.trans {s t u : Part} (h : PlacesOnly s t) (k : PlacesOnly t u) : PlacesOnly s u where
  rest := by rw [k.rest, h.rest]
  point p := by rw [k.point, h.point]
  area a := by rw [k.area, h.area]
  desk d := by rw [k.desk, h.desk]

/-- What only moves points also only places them. -/
theorem MovesOnly.places {s t : Part} (h : MovesOnly s t) : PlacesOnly s t where
  rest := h.rest
  point := h.point
  area a := by rw [h.area]
  desk := h.desk

/-- A change of one area's queues and deferred count. -/
theorem PlacesOnly.modQueues (s : Part) (a : Nat) (f : Area → Area)
    (hf : ∀ x, f x =
      { x with
        pend := (f x).pend, defer := (f x).defer, counts := { x.counts with deferred := (f x).counts.deferred } }) :
    PlacesOnly s (s.modArea a f) where
  rest := rfl
  point _ := rfl
  area b := by rw [Part.modArea_area]; split; exacts [hf _, rfl]
  desk _ := rfl

/-- R7, R9: joining the deferred queue. -/
theorem joinDeferred_places (s : Part) (p : Nat) : PlacesOnly s (s.joinDeferred p) :=
  (PlacesOnly.modQueues s _ _ fun _ => rfl).trans (MovesOnly.modPlacement _ p .deferred).places

/-- R51: placing a point. -/
theorem place_places (s : Part) (p : Nat) : PlacesOnly s (s.place p) := by
  unfold Part.place
  dsimp only
  split
  · exact joinDeferred_places s p
  · exact (joinPending_moves s p).places

/-- R4: withdrawing a point. -/
theorem withdraw_places (s : Part) (p : Nat) : PlacesOnly s (s.withdraw p) := by
  unfold Part.withdraw
  refine PlacesOnly.trans ?_ (MovesOnly.modPlacement _ p .none).places
  dsimp only
  split
  · exact .refl s
  · exact .modQueues s _ _ fun _ => rfl
  · exact .modQueues s _ _ fun _ => rfl
  · exact (emptySlot_moves ..).places

/-- R4: a point that was withdrawn has the placement NONE. -/
theorem withdraw_none (s : Part) (p : Nat) (h : 1 ≤ p) (h' : p ≤ 1024) : ((s.withdraw p).point p).placement = .none := by
  unfold Part.withdraw
  rw [Part.modPoint_point]
  simp [h, h']

/-- Placements set one after the other. -/
theorem setPlacements_places (x : Placement) (l : List Nat) (s : Part) :
    PlacesOnly s (l.foldl (fun s p => s.modPoint p fun y => { y with placement := x }) s) := by
  induction l generalizing s with
  | nil => exact .refl s
  | cons p l ih => exact (MovesOnly.modPlacement s p x).places.trans (ih _)

/-- R84: one pending queue moves to the deferred queue. -/
theorem deferQueue_places (s : Part) (a pr : Nat) : PlacesOnly s (s.deferQueue a pr) :=
  (PlacesOnly.modQueues s a _ fun _ => rfl).trans (setPlacements_places ..)

/-- R84: entering FLOOD places points, after the flood state has changed. -/
theorem enterFlood_places (s : Part) (a : Nat) :
    PlacesOnly (s.modArea a fun x => { x with flood := .flood }) (s.enterFlood a) := by
  unfold Part.enterFlood
  generalize [1, 2, 3, 4].filter (fun pr => (s.areaS a).cutoff < pr) = l
  generalize (s.modArea a fun x => { x with flood := .flood }) = u
  induction l generalizing u with
  | nil => exact .refl u
  | cons pr l ih => exact (deferQueue_places u a pr).trans (ih _)

/-- A fill changes no other desk. -/
theorem fill_otherDesks (s : Part) (d e : Nat) (h : e ≠ d) : (s.fill d).desk e = s.desk e := by
  have hret : ∀ (s : Part) (k : Nat), (s.returnSlot d k).desk e = s.desk e := by
    intro s k
    unfold Part.returnSlot
    split
    · rfl
    · show getAt ((s.emptySlot d k).returnHead _).desks e = getAt s.desks e
      simp [Part.returnHead, Part.emptySlot, Part.modDesk, Part.modArea, Part.modPoint, getAt_modAt_ne _ _ _ _ h.symm]
  have hplace : ∀ (s : Part) (k a pr p : Nat), (s.placeInSlot d k a pr p).desk e = s.desk e := by
    intro s k a pr p
    show getAt (s.placeInSlot d k a pr p).desks e = getAt s.desks e
    simp [Part.placeInSlot, Part.modDesk, Part.modArea, Part.modPoint, getAt_modAt_ne _ _ _ _ h.symm]
  have hstep : ∀ (s t : Part), s.fillStep d = some t → t.desk e = s.desk e := by
    intro s t ht
    unfold Part.fillStep at ht
    split at ht
    · simp at ht
    · split at ht
      · simp only [Option.some.injEq] at ht; rw [← ht, hplace]
      · split at ht
        · simp at ht
        · split at ht
          · simp only [Option.some.injEq] at ht; rw [← ht, hplace, hret]
          · simp at ht
  have hloop : ∀ (n : Nat) (s : Part), (Part.fillLoop n s d).desk e = s.desk e := by
    intro n
    induction n with
    | zero => intro s; rfl
    | succ n ih =>
      intro s
      unfold Part.fillLoop
      split
      · rfl
      · next t ht => rw [ih, hstep s t ht]
  unfold Part.fill
  split
  · rfl
  · exact hloop _ s

end Sys2Proof.Machine
end

