-- ==== Sys2Proof/Tests/Slice0.lean ====
section
/-! SUPPORT. The model's own tests: the checks of WellFormed, the CRC, small events, and for every statement a state and operands
that meet its hypotheses. -/

set_option maxRecDepth 20000
set_option Elab.async false

namespace Sys2Proof.Machine.Tests

open Sys2Proof Sys2Proof.Machine

/-! ### WellFormed -/

theorem test_wf_area : (Instr.loadMonitorTick 0).wf = false ∧ (Instr.loadMonitorTick 17).wf = false
    ∧ (Instr.loadMonitorTick 16).wf = true := by decide
theorem test_wf_shelf : (Instr.shelfExpiry 0).wf = false ∧ (Instr.shelfExpiry 97).wf = false
    ∧ (Instr.shelfExpiry 96).wf = true := by decide
theorem test_wf_layer : (Instr.layerExpiry 0 2).wf = false ∧ (Instr.layerExpiry 7 2).wf = false
    ∧ (Instr.layerExpiry 6 1).wf = false ∧ (Instr.layerExpiry 6 5).wf = false ∧ (Instr.layerExpiry 6 4).wf = true := by decide
theorem test_wf_session : (Instr.sessionTimerExpiry 0).wf = false ∧ (Instr.sessionTimerExpiry 5).wf = false
    ∧ (Instr.sessionTimerExpiry 4).wf = true := by decide
theorem test_wf_hold : (Instr.silenceHoldExpiry 0).wf = false ∧ (Instr.silenceHoldExpiry 7).wf = false := by decide
theorem test_wf_lampTest : (Instr.lampTestExpiry 0).wf = false ∧ (Instr.lampTestExpiry 7).wf = false := by decide
theorem test_wf_frame : (Instr.frameBoundary 0).wf = false ∧ (Instr.frameBoundary 7).wf = false := by decide
theorem test_wf_ackPress : (Instr.acknowledgePress 0).wf = false ∧ (Instr.acknowledgePress 7).wf = false := by decide
theorem test_wf_silPress : (Instr.silencePress 0).wf = false ∧ (Instr.silencePress 7).wf = false := by decide

/-- No row gives bits, so no word spells a command. -/
theorem test_noWord : decodeTableWord 8 1 = none ∧ (State.reset.withFetchWord 8 1).pending = [] := by decide

/-! ### A small part -/

/-- Points 1 and 2 in area 1 with priorities 1 and 4, point 1024 in area 16 with priority 4; two credentials with every
permission. -/
def cfg : Cfg :=
  { Cfg.initial with
    points := setAt (setAt (setAt Cfg.initial.points 1
        { configured := true, area := 1, priority := 1, group := 1, shelfLimit := 1440 }) 2
        { configured := true, area := 1, priority := 4, group := 0, shelfLimit := 0 }) 1024
        { configured := true, area := 16, priority := 4, group := 64, shelfLimit := 1 }
    roles := setAt Cfg.initial.roles 1 0x0FFF
    creds := setAt (setAt Cfg.initial.creds 1 { valid := true, badge := 101, role := 1, grant := 0, deny := 0, scope := 0xFFFF })
      64 { valid := true, badge := 102, role := 1, grant := 0, deny := 0, scope := 0xFFFF } }

/-- The base layer of both credentials. -/
def baseLayer : Layer := { perms := 0x0FFF, scope := 0xFFFF, elev := none }

/-- A layer over it, granted by credential 64. -/
def upperLayer (due : Bool) : Layer :=
  { perms := 0x0FFF, scope := 0xFFFF
    elev := some
      { grantor := 64, grantPerms := 1, grantScope := 1, minutes := 1, timer := { remaining := if due then 0 else 60, due := due } } }

/-- RUNNING; credential 1 at desk 1, responsible for areas 1 and 16; credential 64 at desk 6. -/
def manned : Part :=
  { Part.powerOn false false with
    phase := .running, live := cfg, staged := cfg
    credDesk := setAt (setAt (Vector.replicate 64 0) 1 1) 64 6
    desks := modAt (modAt (Vector.replicate 6 Desk.initial) 1 fun x => { x with signedOn := 1, stack := [baseLayer] })
      6 fun x => { x with signedOn := 64, stack := [baseLayer] }
    areas := modAt (modAt (Vector.replicate 16 Area.resting) 1
      fun x => { x with responsible := 1, pdesk := 1, mode := .primary })
      16 fun x => { x with responsible := 1, pdesk := 1, mode := .primary } }

/-- A request of kind `k` is the oldest frame of the input queue. -/
def asked (s : Part) (k : ReqKind) (body : List Byte) : Part :=
  s.modLif fun l => { l with inputQueue := [{ tag := 1, kind := byteOf k.code, body := body }] }

/-- Point `p` is in state `st`. -/
def inState (s : Part) (p : Nat) (st : PointState) (pl : Placement) (shadow : Bool) : Part :=
  s.modPoint p fun x => { x with state := st, placement := pl, shadow := shadow }

/-- Point `p` occupies slot `k` of desk `d`. -/
def shown (s : Part) (p d k : Nat) (view : W16) (silenced : Bool) : Part :=
  (s.modDesk d fun x =>
    { x with
      slots := setAt x.slots k (some { point := p, view := view, presentedAt := 0, silenced := silenced })
      order := x.order ++ [k] }).modPoint p fun x => { x with state := .unack, shadow := true, placement := .presented d k }

/-- A session between credential 1 and credential 64 over area 1. -/
def session (st : SessionState) (sw : SweepState) (acc off : Bool) : Session :=
  { state := st, outgoing := 1, incoming := 64, accepted := acc, handedOff := off
    entries := [{ area := 1, sweep := sw, cursor := 1, snapGen := 0, snapSeq := 1, deltaCursor := 1, confGen := 0 }]
    timer := { remaining := 0, due := true }, started := 0 }

/-- The part in such a session, as number 4. -/
def handing (st : SessionState) (sw : SweepState) (acc off : Bool) : Part :=
  (manned.modSession 4 fun _ => session st sw acc off).modArea 1 fun x => { x with session := 4 }

/-! ### What the statements assume: reset, time and the link -/

theorem test_hyps_reset : Part.heldInReset.resetLow = true ∧ Instr.sendReply ≠ .resetFalls
    ∧ ∀ x y, Instr.sendReply ≠ .powerOn x y := ⟨rfl, by decide, by intro x y h; cases h⟩

theorem test_hyps_idle : State.reset.pending = [] := rfl

theorem test_hyps_tick : manned.resetLow = false
    ∧ ({ manned with tset := { manned.tset with tickCount := 98 } } : Part).tset.tickCount < 99
    ∧ 99 ≤ ({ manned with tset := { manned.tset with tickCount := 99 } } : Part).tset.tickCount
    ∧ (manned.modLif fun l => { l with tickTaken := true }).lif.tickTaken = true ∧ manned.lif.tickTaken = false
    ∧ (manned.modLif fun l => { l with breakCount := 9 }).lif.breakCount = 9 ∧ manned.lif.breakCount ≠ 9 := by decide +kernel

/-- A sample equal to the level; a first differing one, with an empty run and with another candidate; a second; a third. -/
theorem test_hyps_debouncer :
    (false = ({ pressed := false, run := 2, candidate := true } : Debouncer).pressed)
    ∧ (∃ b : Debouncer, true ≠ b.pressed ∧ b.run = 0) ∧ (∃ b : Debouncer, true ≠ b.pressed ∧ b.run = 2 ∧ b.candidate ≠ true)
    ∧ (∃ b : Debouncer, true ≠ b.pressed ∧ b.run = 1 ∧ b.candidate = true)
    ∧ ∃ b : Debouncer, true ≠ b.pressed ∧ b.run = 2 ∧ b.candidate = true :=
  ⟨rfl, ⟨⟨false, 0, false⟩, by decide⟩, ⟨⟨false, 2, false⟩, by decide⟩, ⟨⟨false, 1, true⟩, by decide⟩,
    ⟨⟨false, 2, true⟩, by decide⟩⟩

theorem test_hyps_second : manned.resetLow = false ∧ manned.tset.secondsDue = 0
    ∧ ({ manned with tset := { manned.tset with secondsDue := 1 } } : Part).tset.secondsDue ≠ 0 := by decide +kernel

/-- Desk 6 at a frame boundary with its horn off, and with one point sounding. -/
theorem test_hyps_boundary :
    let s := manned.modDesk 6 fun x => { x with boundaryDue := true }
    let u := (shown s 2 6 4 0 false).modDesk 6 fun x => { x with horn := .sounding, hornPattern := 1 }
    s.resetLow = false ∧ isDesk 6 = true ∧ (manned.desk 6).boundaryDue = false
    ∧ (s.desk 6).boundaryDue = true ∧ (s.desk 6).HornOk ∧ (s.desk 6).horn ≠ .sounding
    ∧ u.resetLow = false ∧ (u.desk 6).boundaryDue = true ∧ (u.desk 6).HornOk ∧ (u.desk 6).horn = .sounding := by
  decide +kernel

/-- A desk that sounds and follows its lamps, one whose lamps wait for their first boundary, and a phase without outputs. -/
theorem test_hyps_outputs :
    let s := (shown manned 2 6 4 0 false).modDesk 6 fun x =>
      { x with horn := .sounding, hornPattern := 4, lampsFollow := true }
    manned.phase = .running ∧ (Part.powerOn true true).phase ≠ .running ∧ isDesk 6 = true
    ∧ (manned.resetLow = false ∧ (manned.desk 6).lampTest.remaining = 0 ∧ (manned.desk 6).lampsFollow = false)
    ∧ (s.resetLow = false ∧ s.phase = .running ∧ (s.desk 6).lampTest.remaining = 0 ∧ (s.desk 6).lampsFollow = true)
    ∧ ∃ y ∈ (s.desk 6).occupants, y.silenced = false := by decide +kernel

/-- The part with its assembler in a state. -/
def assembling (st : AsmState) (len : Byte) (buf crc : List Byte) (gap : Nat) : Part :=
  manned.modLif fun l => { l with asm := { state := st, len := len, buf := buf, crc := crc, gap := gap } }

theorem test_hyps_assembler :
    (assembling .hunting 0 [] [] 0).resetLow = false ∧ (assembling .hunting 0 [] [] 0).lif.asm.state = .hunting
    ∧ ¬((0xA4 : Byte) = 0xA5 ∧ false = false) ∧ ¬((0xA5 : Byte) = 0xA5 ∧ true = false)
    ∧ (assembling .length 0 [] [] 0).lif.asm.state = .length
    ∧ (2 ≤ (2 : Byte).toNat ∧ (2 : Byte).toNat ≤ 242) ∧ (2 ≤ (242 : Byte).toNat ∧ (242 : Byte).toNat ≤ 242)
    ∧ ¬(2 ≤ (1 : Byte).toNat ∧ (1 : Byte).toNat ≤ 242) ∧ ¬(2 ≤ (243 : Byte).toNat ∧ (243 : Byte).toNat ≤ 242)
    ∧ (assembling .collecting 2 [] [] 0).lif.asm.state = .collecting
    ∧ (assembling .collecting 2 [] [] 0).lif.asm.buf.length + 1 < (assembling .collecting 2 [] [] 0).lif.asm.len.toNat
    ∧ (assembling .collecting 2 [1] [] 0).lif.asm.buf.length + 1 = (assembling .collecting 2 [1] [] 0).lif.asm.len.toNat
    ∧ (assembling .checking 2 [1, 1] [] 0).lif.asm.state = .checking ∧ (assembling .checking 2 [1, 1] [] 0).lif.asm.crc = []
    ∧ (assembling .length 0 [] [] 3).lif.asm.state ≠ .hunting ∧ (assembling .length 0 [] [] 3).lif.asm.gap = 3
    ∧ (assembling .length 0 [] [] 2).lif.asm.gap < 3 := by decide +kernel

/-- A whole frame of a PART_STATUS request with tag 1, one with tag 0, and one with a wrong CRC. -/
theorem test_hyps_wholeFrame :
    (assembling .checking 2 [1, 0x34] [0x42] 0).resetLow = false
    ∧ (assembling .checking 2 [1, 0x34] [0x42] 0).lif.asm.state = .checking
    ∧ (assembling .checking 2 [1, 0x34] [0x42] 0).lif.asm.buf = 1 :: 0x34 :: []
    ∧ [((be16 (crc16 [2, 1, 0x34]).toNat)[0]!), ((be16 (crc16 [2, 1, 0x34]).toNat)[1]!)] = be16 (crc16 [2, 1, 0x34]).toNat
    ∧ [((be16 (crc16 [2, 0, 0x34]).toNat)[0]!), ((be16 (crc16 [2, 0, 0x34]).toNat)[1]!)] = be16 (crc16 [2, 0, 0x34]).toNat
    ∧ (1 : Byte) ≠ 0 ∧ ¬([0, 0] : List Byte) = be16 (crc16 [2, 1, 0x34]).toNat := by decide +kernel

theorem test_hyps_linkReset :
    let s := manned.modLif fun l => { l with breakCount := 9, quietTimer := { remaining := 0, due := true } }
    manned.resetLow = false ∧ ¬(manned.lif.breakCount = 9 ∧ manned.lif.tickTaken = false)
    ∧ s.resetLow = false ∧ s.lif.breakCount = 9 ∧ s.lif.tickTaken = false
    ∧ ¬(manned.lif.quietTimer.due = true ∧ manned.lif.link = .active)
    ∧ s.lif.quietTimer.due = true ∧ s.lif.link = .active := by decide +kernel

/-- Kinds 03h and 80h are outside the catalogue. -/
theorem test_hyps_unknownKind : (∀ k : ReqKind, k.code ≠ (0x03 : Byte).toNat) ∧ (∀ k : ReqKind, k.code ≠ (0x80 : Byte).toNat)
    ∧ (manned.modLif fun l => { l with inputQueue := [{ tag := 1, kind := 0x80, body := [] }] }).lif.replySlot = none
    ∧ (manned.modLif fun l => { l with inputQueue := [{ tag := 1, kind := 0x80, body := [] }] }).lif.inputQueue
      = { tag := 1, kind := 0x80, body := [] } :: [] :=
  ⟨by intro k; cases k <;> decide, by intro k; cases k <;> decide, rfl, rfl⟩

theorem test_hyps_linkChecks :
    (asked manned .conditions [0, 1]).Offered .conditions 1 [0, 1] ∧ ReqKind.conditions.lengthOk 2 = false
    ∧ (asked (Part.powerOn true true) .conditions [0, 1, 1]).Offered .conditions 1 [0, 1, 1]
    ∧ ReqKind.conditions.lengthOk 3 = true ∧ ReqKind.conditions.acceptedIn (Part.powerOn true true).phase = false := by
  decide +kernel

theorem test_hyps_sendReply :
    let reply : Reply := { tag := 1, kind := 0xB4, body := [0], busyAhead := 1 }
    let s := manned.modLif fun l => { l with busyList := [{ tag := 2, kind := 1 }] }
    let u := s.modLif fun l => { l with replySlot := some reply }
    let v := manned.modLif fun l => { l with replySlot := some reply }
    (manned.modLif fun l => { l with sending := some [1] }).lif.sending = some [1]
    ∧ manned.lif.replySlot = none ∧ manned.lif.busyList = []
    ∧ s.resetLow = false ∧ s.lif.sending = none ∧ s.lif.replySlot = none ∧ s.lif.busyList = { tag := 2, kind := 1 } :: []
    ∧ u.lif.sending = none ∧ u.lif.replySlot = some reply ∧ u.lif.busyList = { tag := 2, kind := 1 } :: []
    ∧ reply.busyAhead ≠ 0 ∧ v.lif.replySlot = some reply ∧ v.lif.busyList = [] := by decide +kernel

/-- The part with entries in its report queue and a held continuation of `n` bytes. -/
def reporting (l : List ReportEntry) (n : Nat) : Part :=
  (manned.modRst fun r => { r with reports := l }).modLif fun x =>
    { x with continuation := if n = 0 then none else some (List.replicate n 0) }

theorem test_hyps_reportFrame :
    manned.reportReady = false
    ∧ (reporting [pointEntry 1, sessionEntry 4] 0).resetLow = false
    ∧ (reporting [pointEntry 1, sessionEntry 4] 0).reportReady = true
    ∧ ((reporting [pointEntry 1, sessionEntry 4] 0).lif.continuation.getD []).length ≤ 240
    ∧ (∀ e ∈ (reporting [pointEntry 1, sessionEntry 4] 0).rst.reports, e.kind = .session →
        ((reporting [pointEntry 1, sessionEntry 4] 0).session e.subject).entries.length ≤ 14)
    ∧ (reporting [] 240).reportReady = true ∧ ((reporting [] 240).lif.continuation.getD []).length ≤ 240 := by
  decide +kernel

/-- Session 4 with 15 and with 16 areas. -/
theorem test_hyps_longSession :
    ∀ m ∈ [15, 16],
      let s := (reporting [sessionEntry 4] 0).modSession 4 fun _ =>
        { session .reviewing .swept false false with entries := (numbers m).map manned.freshEntry }
      s.resetLow = false ∧ s.reportReady = true ∧ s.lif.continuation = none
      ∧ s.rst.reports = { kind := .session, subject := 4 } :: [] ∧ (s.session 4).state ≠ .idle
      ∧ 14 < (s.session 4).entries.length ∧ (s.session 4).entries.length ≤ 16 := by decide +kernel

/-! ### What the statements assume: the alarm life cycle -/

/-- A CONDITIONS request of one item. -/
def condition (p c : Nat) : List Byte := be16 p ++ [byteOf c]

/-- Points 1, 2 and 1024 in a state, named active and named clear. -/
theorem test_hyps_condition :
    ∀ st ∈ [PointState.normal, .unack, .acked, .rtnUnack, .shelved, .removed, .suppressed], ∀ p ∈ [1, 2, 1024], ∀ c ∈ [0, 1],
      let s := asked (inState manned p st .none (c == 0)) .conditions (condition p c)
      s.Takes .conditions 1 (condition p c) ∧ (condition p c).length = 3 ∧ byteAt (condition p c) 2 = c
      ∧ s.InPlant (field16 (condition p c) 0) ∧ (s.point (field16 (condition p c) 0)).state = st
      ∧ (s.point (field16 (condition p c) 0)).shadow ≠ (byteAt (condition p c) 2 == 1) := by decide +kernel

/-- The shadow that a condition repeats. -/
theorem test_hyps_shadowRepeat :
    ∀ st ∈ [PointState.shelved, .removed, .suppressed], ∀ c ∈ [0, 1],
      let s := asked (inState manned 2 st .none (c == 1)) .conditions (condition 2 c)
      s.Takes .conditions 1 (condition 2 c) ∧ (s.point 2).state = st
      ∧ (s.point 2).shadow = (byteAt (condition 2 c) 2 == 1) := by decide +kernel

/-- In FLOOD above the cutoff; out of FLOOD at an area without a desk; at the load that just reaches the high threshold, from
CALM and from RELEASING; and one below it. -/
theorem test_hyps_flooding :
    let s := manned.modArea 1 fun x => { x with flood := .flood }
    let u := manned.modArea 1 fun x => { x with pdesk := 0 }
    let v := fun (f : FloodState) (l : Nat) => manned.modArea 1 fun x => { x with flood := f, load := l }
    ((s.area 1).flood = .flood ∧ (s.areaS 1).cutoff < (s.pointS 2).priority)
    ∧ u.floods 1 = false ∧ ¬((u.area 1).flood = .flood ∧ (u.areaS 1).cutoff < (u.pointS 1).priority) ∧ (u.area 1).pdesk = 0
    ∧ (v .calm 7680).floods 1 = true ∧ (v .releasing 7680).floods 1 = true ∧ (v .calm 7679).floods 1 = false
    ∧ ((v .calm 7680).areaS 1).cutoff < 4 := by decide +kernel

/-- Desk 1 with nothing waiting; with point 2 waiting and slot 3 the lowest empty one; and with four occupants, of which slot 4 is
the least urgent one presented most recently, first of a priority like the waiting point's and then of a less urgent one. -/
theorem test_hyps_fill :
    let queued := fun (s : Part) (p pr : Nat) =>
      (inState s p .unack .queued true).modArea 1 fun x => { x with pend := setAt x.pend pr [p] }
    let two := shown (shown manned 1024 1 1 0 false) 1024 1 2 0 false
    let four := shown (shown two 1024 1 3 0 false) 1024 1 4 0 false
    isDesk 1 = true
    ∧ (∀ b ∈ (manned.desk 1).rotation, ∀ k ∈ numbers 4, (manned.area b).pdesk = 1 → getAt (manned.area b).pend k = [])
    ∧ ((queued two 2 4).IsCandidate 1 1 4 2 ∧ getAt ((queued two 2 4).desk 1).slots 3 = none
      ∧ ∀ j ∈ numbers 4, j < 3 → getAt ((queued two 2 4).desk 1).slots j ≠ none)
    ∧ (∀ x ∈ [(1, 1), (2, 4)], (queued four x.1 x.2).IsCandidate 1 1 x.2 x.1
      ∧ (∀ k ∈ numbers 4, getAt ((queued four x.1 x.2).desk 1).slots k ≠ none)
      ∧ ((queued four x.1 x.2).desk 1).order.Nodup ∧ (queued four x.1 x.2).LeastUrgentAt 1 4)
    ∧ (queued four 2 4).slotPriority 1 4 ≤ 4 ∧ 1 < (queued four 1 1).slotPriority 1 4
    ∧ getAt (four.desk 1).slots 4 = some { point := 1024, view := 0, presentedAt := 0, silenced := false } := by
  unfold Part.IsCandidate Part.LeastUrgentAt
  decide +kernel

/-- A REPEAT: the part that the request leaves is the one that the answer alone makes. -/
theorem test_hyps_repeat :
    let s := asked (inState manned 1 .unack .queued true) .conditions (condition 1 1)
    let t := s.serve .conditions conditionsHandler
    s.Takes .conditions 1 (condition 1 1) ∧ (condition 1 1).length = 3 ∧ Completes .conditions s t
    ∧ t.lif = s.answer .conditions 1 [0, ResultCode.repeated.byte] :=
  ⟨by decide +kernel, by decide, fun _ => rfl, by decide +kernel⟩

theorem test_hyps_items :
    (condition 1 1 ++ condition 1 0).length % 3 = 0 ∧ (condition 1 1).length = 3
    ∧ ([0, 1, 0, 1] : List Byte).length % 4 = 0 ∧ ([0, 1, 0, 1] : List Byte).length = 4
    ∧ (asked manned .conditions (condition 1 1 ++ condition 1 0)).Takes .conditions 1 (condition 1 1 ++ condition 1 0)
    ∧ (isPoint (field16 (condition 0 1) 0) = false) ∧ (isPoint (field16 (condition 1025 1) 0) = false)
    ∧ 1 < byteAt (condition 1 2) 2 ∧ isPoint (field16 (condition 3 1) 0) = true ∧ byteAt (condition 3 1) 2 ≤ 1
    ∧ ((asked manned .conditions (condition 3 1)).pointS (field16 (condition 3 1) 0)).configured = false
    ∧ (asked manned .conditions (condition 3 1)).Takes .conditions 1 (condition 3 1) := by decide +kernel

/-- Two items each of CONFIG_POINTS, of ACK and ASSUME from a desk outside 1..6, from one without a credential and from one with. -/
theorem test_hyps_itemsOfDesks :
    (be16 1 ++ [1, 1, 1, 0] ++ be16 0).length % 8 = 0 ∧ (be16 1 ++ [1, 1, 1, 0] ++ be16 0).length = 8
    ∧ (asked { Part.powerOn false false with phase := .loading } .configPoints (be16 1 ++ [1, 1, 1, 0] ++ be16 0)).Takes
        .configPoints 1 (be16 1 ++ [1, 1, 1, 0] ++ be16 0)
    ∧ (∀ d ∈ [0, 2, 6, 7], (asked manned .ack [byteOf d, 0, 1, 0, 0, 0, 2, 0, 0]).Takes .ack 1 [byteOf d, 0, 1, 0, 0, 0, 2, 0, 0]
      ∧ (asked manned .assume [byteOf d, 15, 0]).Takes .assume 1 [byteOf d, 15, 0] ∧ byteAt [byteOf d, 15, 0] 0 = d)
    ∧ isDesk 0 = false ∧ isDesk 7 = false ∧ isDesk 2 = true ∧ isDesk 6 = true ∧ (manned.desk 2).signedOn = 0
    ∧ (manned.desk 6).signedOn ≠ 0 := by decide +kernel

/-- Every point of the test configuration is in range. -/
theorem plantOk_of_cfg (s : Part) (h : s.live = cfg) : s.PlantOk := by
  intro q hq hc
  obtain ⟨h1, h2⟩ := (mem_numbers q).1 hq
  simp only [Part.pointS, h, cfg, getAt_setAt] at hc ⊢
  by_cases a : 1024 = q
  · subst a; simp; decide
  by_cases b : 2 = q
  · subst b; simp; decide
  by_cases c : 1 = q
  · subst c; simp; decide
  · simp only [a, b, c, false_and, if_false] at hc
    simp [Cfg.initial, h1, h2, PointStatic.initial] at hc

theorem test_hyps_group :
    (∀ b ∈ ([[0, 1], [65, 1], [1, 2], [1, 0], [1, 1], [64, 1]] : List (List Byte)), (asked manned .group b).Takes .group 1 b)
    ∧ (∀ b, (asked manned .group b).PlantOk)
    ∧ byteAt [0, 1] 0 = 0 ∧ 64 < byteAt [65, 1] 0 ∧ 1 < byteAt [1, 2] 1
    ∧ (1 ≤ byteAt [1, 0] 0 ∧ byteAt [1, 0] 0 ≤ 64 ∧ byteAt [1, 0] 1 ≤ 1 ∧ getAt manned.groups 1 = (byteAt [1, 0] 1 == 1))
    ∧ (1 ≤ byteAt [64, 1] 0 ∧ byteAt [64, 1] 0 ≤ 64 ∧ byteAt [64, 1] 1 ≤ 1
        ∧ getAt manned.groups 64 ≠ (byteAt [64, 1] 1 == 1)) :=
  ⟨by decide +kernel, fun _ => plantOk_of_cfg _ rfl, by decide, by decide, by decide, by decide +kernel, by decide +kernel⟩

/-- An ACK request of one item. -/
def ackOf (d p v : Nat) : List Byte := byteOf d :: be16 p ++ be16 v

/-- The checks of an ACK item, each failing first, and an item that passes. -/
theorem test_hyps_ack :
    let u := inState manned 1 .unack .queued true
    let weak := manned.modDesk 1 fun x => { x with stack := [{ baseLayer with perms := 0 }] }
    (∀ b ∈ [ackOf 1 0 0, ackOf 1 1025 0, ackOf 1 3 0, ackOf 2 1 0, ackOf 6 1 0, ackOf 1 1 0, ackOf 1 1 9],
      (asked u .ack b).Takes .ack 1 b ∧ b.length = 5 ∧ isDesk (byteAt b 0) = true)
    ∧ isPoint 0 = false ∧ isPoint 1025 = false ∧ (u.pointS 3).configured = false ∧ (u.desk 2).signedOn = 0
    ∧ allows (weak.topLayer 1) Perm.ack.set (weak.pointS 1).area = false
    ∧ (u.desk 6).signedOn ≠ 0 ∧ allows (u.topLayer 6) Perm.ack.set 1 = true ∧ (u.area (u.pointS 1).area).pdesk ≠ 6
    ∧ ((manned.point 1).state ≠ .unack ∧ (manned.point 1).state ≠ .rtnUnack)
    ∧ word16 (ackOf 1 1 9) 3 ≠ (u.point 1).view
    ∧ u.InPlant 1 ∧ allows (u.topLayer 1) Perm.ack.set 1 = true ∧ (u.area 1).pdesk = 1 ∧ (u.point 1).state = .unack
    ∧ word16 (ackOf 1 1 0) 3 = (u.point 1).view ∧ u.shownAt 1 = 0 ∧ (shown manned 1 1 4 0 false).shownAt 1 ≠ 0 := by
  decide +kernel

/-- Two occupants of equal priority at desk 1, in slots 4 and 2; the one presented earliest is in slot 4. -/
theorem test_hyps_ackPress :
    let e := manned.modDesk 1 fun x => { x with ackPresses := 1 }
    let s := shown (shown e 2 1 4 0 false) 1024 1 2 0 false
    let stale := shown (shown e 2 1 4 7 false) 1024 1 2 0 false
    let weak := s.modDesk 1 fun x => { x with stack := [{ baseLayer with perms := 0 }] }
    (e.resetLow = false ∧ isDesk 1 = true ∧ (e.desk 1).ackPresses ≠ 0)
    ∧ ({ e with phase := .loading } : Part).phase ≠ .running ∧ e.phase = .running ∧ (e.desk 1).order = []
    ∧ (∀ u ∈ [s, stale, weak], (u.desk 1).ackPresses ≠ 0 ∧ u.phase = .running ∧ 4 ∈ (u.desk 1).order
        ∧ (∀ j ∈ (u.desk 1).order, u.slotPriority 1 4 < u.slotPriority 1 j
            ∨ u.slotPriority 1 4 = u.slotPriority 1 j ∧ (u.desk 1).order.idxOf 4 ≤ (u.desk 1).order.idxOf j)
        ∧ u.InPlant 2)
    ∧ getAt (s.desk 1).slots 4 = some { point := 2, view := 0, presentedAt := 0, silenced := false }
    ∧ getAt (stale.desk 1).slots 4 = some { point := 2, view := 7, presentedAt := 0, silenced := false }
    ∧ allows (weak.topLayer 1) Perm.ack.set (weak.pointS 2).area = false
    ∧ allows (s.topLayer 1) Perm.ack.set (s.pointS 2).area = true ∧ (0 : W16) = (s.point 2).view ∧ (s.point 2).state = .unack
    ∧ allows (stale.topLayer 1) Perm.ack.set 1 = true ∧ (7 : W16) ≠ (stale.point 2).view := by decide +kernel

/-! ### What the statements assume: the desks -/

theorem test_hyps_silence :
    let s := (shown manned 2 1 4 0 false).modDesk 1 fun x => { x with silPresses := 1 }
    let e := manned.modDesk 1 fun x => { x with silPresses := 1 }
    let nobody := manned.modDesk 2 fun x => { x with silPresses := 1 }
    let weak := s.modDesk 1 fun x => { x with stack := [{ baseLayer with perms := 0 }] }
    let may := fun (u : Part) (d : Nat) =>
      ∃ a ∈ numbers 16, (u.area a).pdesk = d ∧ allows (u.topLayer d) Perm.silence.set a = true
    (asked s .silence [1]).Takes .silence 1 [1] ∧ isDesk (byteAt [1] 0) = true ∧ (s.desk 1).signedOn ≠ 0
    ∧ (s.desk 1).occupants ≠ [] ∧ may s 1
    ∧ s.resetLow = false ∧ (s.desk 1).silPresses ≠ 0 ∧ s.phase = .running ∧ ({ s with phase := .blank } : Part).phase ≠ .running
    ∧ (e.desk 1).silPresses ≠ 0 ∧ (e.desk 1).signedOn ≠ 0 ∧ (e.desk 1).occupants = []
    ∧ (nobody.desk 2).silPresses ≠ 0 ∧ (nobody.desk 2).signedOn = 0
    ∧ (weak.desk 1).silPresses ≠ 0 ∧ (weak.desk 1).occupants ≠ [] ∧ ¬may weak 1 := by decide +kernel

theorem test_hyps_hold :
    let s := manned.modDesk 6 fun x => { x with hold := { remaining := 0, due := true }, lampTest := { remaining := 0, due := true } }
    let u := shown s 2 6 1 0 true
    let r := inState u 2 .rtnUnack (.presented 6 1) false
    manned.resetLow = false ∧ isDesk 6 = true ∧ (manned.desk 6).hold.due = false
    ∧ (r.desk 6).hold.due = true ∧ (∀ x ∈ (r.desk 6).occupants, (r.point x.point).state ≠ .unack)
    ∧ (u.desk 6).hold.due = true ∧ (∃ x ∈ (u.desk 6).occupants, (u.point x.point).state = .unack)
    ∧ (manned.desk 6).lampTest.due = false ∧ (s.desk 6).lampTest.due = true := by decide +kernel

theorem test_hyps_lampTest :
    (∀ n ∈ [0, 1, 60, 61, 255], (asked manned .lampTest [6, byteOf n]).Takes .lampTest 1 [6, byteOf n]
      ∧ isDesk (byteAt [6, byteOf n] 0) = true)
    ∧ manned.resetLow = false ∧ manned.phase = .running
    ∧ ((manned.modDesk 6 fun x => { x with lampTest := { remaining := 1, due := false } }).desk 6).lampTest.remaining ≠ 0 := by
  decide +kernel

/-! ### What the statements assume: shelving and flood control -/

/-- SHELVE, UNSHELVE, REMOVE and RESTORE of a point from a desk. -/
def shelveOf (d p m : Nat) : List Byte := byteOf d :: be16 p ++ be16 m
def actOf (d p : Nat) : List Byte := byteOf d :: be16 p

/-- The part with point `p` SHELVED in slot `k`. -/
def shelvedAt (p k : Nat) (due : Bool) : Part :=
  let s := manned.modPoint p fun x => { x with state := .shelved, shelfSlot := some k }
  { s with
    shelf := setAt s.shelf k (some { point := p, desk := 1, timer := { remaining := if due then 0 else 5, due := due } }) }

/-- The checks of the four requests, each failing first. -/
theorem test_hyps_shelfChecks :
    let full : Part := { manned with shelf := Vector.replicate 96 (some { point := 2, desk := 1, timer := { remaining := 1, due := false } }) }
    let gone := manned.modPoint 1 fun x => { x with state := .removed }
    let weak := manned.modDesk 1 fun x => { x with stack := [{ baseLayer with perms := 0 }] }
    (∀ b ∈ [shelveOf 0 1 1, shelveOf 7 1 1, shelveOf 1 0 1, shelveOf 1 1025 1, shelveOf 1 1 0, shelveOf 1 3 1, shelveOf 2 1 1,
        shelveOf 1 1 1, shelveOf 6 1 1, shelveOf 1 2 1], (asked manned .shelve b).Takes .shelve 1 b)
    ∧ (∀ k ∈ [ReqKind.unshelve, .remove, .restore], (asked manned k (actOf 1 1)).Takes k 1 (actOf 1 1))
    ∧ ReqKind.shelve ∈ [ReqKind.shelve, .unshelve, .remove, .restore]
    ∧ isDesk 0 = false ∧ isDesk 7 = false ∧ isPoint 0 = false ∧ field16 (shelveOf 1 1 0) 3 = 0
    ∧ (manned.pointS 3).configured = false ∧ (manned.desk 2).signedOn = 0
    ∧ allows (weak.topLayer 1) Perm.shelve.set 1 = false ∧ (manned.area (manned.pointS 1).area).pdesk ≠ 6
    ∧ (manned.pointS 2).shelfLimit = 0 ∧ (gone.point 1).state = .removed
    ∧ ((full.point 1).state ≠ .shelved ∧ ∀ n ∈ numbers 96, getAt full.shelf n ≠ none)
    ∧ (manned.point 1).state ≠ .shelved ∧ (manned.point 1).state ≠ .removed := by decide +kernel

/-- A SHELVE of 1440 minutes and more with every slot but the last in use, and an extension of slot 96. -/
theorem test_hyps_shelve :
    let s : Part := { manned with
      shelf := setAt (Vector.replicate 96 (some { point := 2, desk := 1, timer := { remaining := 1, due := false } })) 96 none }
    (asked s .shelve (shelveOf 1 1 1441)).Takes .shelve 1 (shelveOf 1 1 1441) ∧ s.MayAct 1 1 .shelve
    ∧ field16 (shelveOf 1 1 1441) 3 ≠ 0 ∧ (s.pointS 1).shelfLimit ≠ 0 ∧ (s.point 1).state ≠ .removed
    ∧ 96 ∈ numbers 96 ∧ (s.point 1).state ≠ .shelved ∧ getAt s.shelf 96 = none
    ∧ (∀ j ∈ numbers 96, j < 96 → getAt s.shelf j ≠ none)
    ∧ (asked (shelvedAt 1 96 false) .shelve (shelveOf 1 1 1)).Takes .shelve 1 (shelveOf 1 1 1)
    ∧ (shelvedAt 1 96 false).MayAct 1 1 .shelve ∧ ((shelvedAt 1 96 false).point 1).state = .shelved
    ∧ ((shelvedAt 1 96 false).point 1).shelfSlot = some 96 := by decide +kernel

/-- The four ways a point comes back: held by its group, active, active into a flood or an area without a desk, and clear. -/
theorem test_hyps_return :
    let s := shelvedAt 1024 96 true
    let gone := manned.modPoint 1 fun x => { x with state := .removed }
    (asked s .unshelve (actOf 1 1024)).Takes .unshelve 1 (actOf 1 1024) ∧ s.MayAct 1 1024 .unshelve
    ∧ (s.point 1024).state = .shelved
    ∧ (asked gone .restore (actOf 1 1)).Takes .restore 1 (actOf 1 1) ∧ gone.MayAct 1 1 .restore ∧ (gone.point 1).state = .removed
    ∧ s.resetLow = false ∧ 96 ∈ numbers 96
    ∧ getAt s.shelf 96 = some { point := 1024, desk := 1, timer := { remaining := 0, due := true } }
    ∧ s.InPlant 1024 ∧ (s.point 1024).shelfSlot = some 96
    ∧ (∀ x ∈ getAt (shelvedAt 1024 96 false).shelf 96, x.timer.due = false)
    ∧ ((s.point 1024).returned true 0).state ≠ .unack ∧ (s.point 1024).placement = .none
    ∧ (({ s.point 1024 with shadow := true } : Point).returned false 0).state = .unack
    ∧ (((s.modArea 16 fun x => { x with flood := .flood }).area 16).flood = .flood
        ∧ (s.areaS 16).cutoff < (s.pointS 1024).priority)
    ∧ ((s.modArea 16 fun x => { x with pdesk := 0 }).area 16).pdesk = 0 := by decide +kernel

theorem test_hyps_remove :
    (asked manned .remove (actOf 1 1024)).Takes .remove 1 (actOf 1 1024)
    ∧ manned.MayAct 1 1024 .remove ∧ (manned.point 1024).state ≠ .removed := by decide +kernel

/-- Area 16 with point 1024 deferred. -/
def deferring (f : FloodState) (load : Nat) : Part :=
  (inState manned 1024 .unack .deferred true).modArea 16 fun x =>
    { x with
      flood := f, load := load, defer := setAt x.defer 4 [1024], counts := { x.counts with unack := 1, deferred := 1 } }

theorem test_hyps_flood :
    let due := fun (s : Part) => { s with tset := { s.tset with loadDue := setAt s.tset.loadDue 16 1 } }
    manned.resetLow = false ∧ isArea 16 = true ∧ getAt manned.tset.loadDue 16 = 0
    ∧ getAt (due (deferring .flood 2185)).tset.loadDue 16 ≠ 0
    ∧ (asked (deferring .releasing 0) .releaseDeferred [1, 16]).Takes .releaseDeferred 1 [1, 16]
    ∧ isDesk 1 = true ∧ ((deferring .releasing 0).desk 1).signedOn ≠ 0
    ∧ allows ((deferring .releasing 0).topLayer 1) Perm.release.set 16 = true
    ∧ ((deferring .releasing 0).area 16).pdesk = 1 ∧ ((deferring .releasing 0).area 16).deferredTotal ≠ 0 := by decide +kernel

/-! ### What the statements assume: authority -/

/-- Credential 64 signed on nowhere. -/
def oneManned : Part :=
  { manned with
    credDesk := setAt manned.credDesk 64 0
    desks := modAt manned.desks 6 fun x => { x with signedOn := 0, stack := [] } }

theorem test_hyps_refused : (asked manned .silence [1]).Takes .silence 1 [1] ∧ ReqKind.silence ≠ .reportDisable := by
  decide +kernel

theorem test_hyps_signOn :
    (asked oneManned .signOn (6 :: be32 102)).Takes .signOn 1 (6 :: be32 102)
    ∧ isDesk (byteAt (6 :: be32 102) 0) = true ∧ 64 ∈ numbers 64 ∧ field32 (6 :: be32 102) 1 ≠ 0
    ∧ (oneManned.cred 64).valid = true ∧ (oneManned.cred 64).badge.toNat = field32 (6 :: be32 102) 1
    ∧ (∀ j ∈ numbers 64, (oneManned.cred j).valid = true → (oneManned.cred j).badge = (oneManned.cred 64).badge → j = 64)
    ∧ getAt oneManned.credDesk 64 = 0 ∧ (oneManned.desk 6).signedOn = 0
    ∧ permsWithin Perm.view.set (oneManned.effPerms 64) = true := by decide +kernel

theorem manned_signOnsAgree : manned.SignOnsAgree := by unfold Part.SignOnsAgree; decide +kernel

theorem test_hyps_signOff :
    (asked manned .signOff [6]).Takes .signOff 1 [6] ∧ isDesk (byteAt [6] 0) = true ∧ (manned.desk 6).signedOn ≠ 0
    ∧ (∀ a ∈ numbers 16, (manned.area a).responsible ≠ (manned.desk 6).signedOn) := by decide +kernel

/-- An ELEVATE of 480 and of 481 minutes over a stack of one and of three layers. -/
theorem test_hyps_elevate :
    ∀ m ∈ [1, 480, 481], ∀ st ∈ [[baseLayer], [baseLayer, upperLayer false, upperLayer false]],
      let s := manned.modDesk 1 fun x => { x with stack := st }
      let b : List Byte := 1 :: be32 102 ++ be16 0x0FFF ++ be16 0xFFFF ++ be16 m
      (asked s .elevate b).Takes .elevate 1 b ∧ isDesk (byteAt b 0) = true ∧ (word16 b 5).toNat < 4096
      ∧ (if 480 < field16 b 9 then 480 else field16 b 9) ≠ 0 ∧ 64 ∈ numbers 64 ∧ field32 b 1 ≠ 0 ∧ (s.cred 64).valid = true
      ∧ (s.cred 64).badge.toNat = field32 b 1
      ∧ (∀ j ∈ numbers 64, (s.cred j).valid = true → (s.cred j).badge = (s.cred 64).badge → j = 64)
      ∧ (s.desk 1).signedOn ≠ 0 ∧ permsWithin (Perm.elevate.set ||| word16 b 5) (s.effPerms 64) = true
      ∧ word16 b 7 &&& ~~~(s.cred 64).scope = 0 ∧ (s.desk 1).stack.length < 4
      ∧ ((s.desk 1).stack.getLast? = some baseLayer ∨ (s.desk 1).stack.getLast? = some (upperLayer false)) := by
  decide +kernel

/-- DROP of layer 2, and the expiry of layers 2 and 4 of a full stack. -/
theorem test_hyps_layers :
    let s := manned.modDesk 6 fun x => { x with stack := [baseLayer, upperLayer true, upperLayer false, upperLayer true] }
    let u := manned.modDesk 6 fun x => { x with stack := [baseLayer, upperLayer false] }
    (asked u .drop [6]).Takes .drop 1 [6] ∧ isDesk (byteAt [6] 0) = true ∧ (u.desk 6).signedOn ≠ 0
    ∧ 2 ≤ (u.desk 6).stack.length ∧ s.resetLow = false
    ∧ (s.desk 6).stack[2 - 1]? = some (upperLayer true) ∧ (s.desk 6).stack[4 - 1]? = some (upperLayer true)
    ∧ (s.desk 6).stack[3 - 1]? = some (upperLayer false)
    ∧ (∀ e ∈ (upperLayer true).elev, e.timer.due = true) ∧ (∀ e ∈ (upperLayer false).elev, e.timer.due = false)
    ∧ (upperLayer true).elev ≠ none ∧ (upperLayer false).elev ≠ none := by decide +kernel

theorem test_hyps_assume :
    (asked manned .assume [6, 15]).Takes .assume 1 [6, 15] ∧ ([6, 15] : List Byte).length = 2
    ∧ isDesk (byteAt [6, 15] 0) = true ∧ isArea (byteAt [6, 15] 1) = true ∧ (manned.desk 6).signedOn ≠ 0
    ∧ allows (manned.baseLayer 6) (Perm.take.set ||| Perm.ack.set) 15 = true
    ∧ (manned.area 15).responsible = 0 ∧ (manned.area 15).session = 0 := by decide +kernel

/-- The checks of an ASSUME item, each failing first. -/
theorem test_hyps_assumeRefused :
    let weak := manned.modDesk 6 fun x => { x with stack := [{ baseLayer with perms := 0 }] }
    let inSession := manned.modArea 15 fun x => { x with session := 1 }
    isArea 0 = false ∧ isArea 17 = false ∧ allows (weak.baseLayer 6) (Perm.take.set ||| Perm.ack.set) 15 = false
    ∧ (manned.area 16).responsible = (manned.desk 1).signedOn ∧ (manned.area 16).responsible ≠ (manned.desk 6).signedOn
    ∧ (manned.area 16).responsible ≠ 0 ∧ (inSession.area 15).responsible = 0 ∧ (inSession.area 15).session ≠ 0 := by
  decide +kernel

/-- Credential 1, which holds areas, keeps ACK and its scope; credential 63 becomes VALID. -/
theorem test_hyps_edit :
    ∀ c ∈ [1, 63],
      let b : List Byte := [1, byteOf c, 1] ++ be32 103 ++ [1] ++ be16 0x0001 ++ be16 0x0800 ++ be16 0xFFFF
      let s := asked manned .configCredential b
      let x : Credential :=
        { valid := true, badge := word32 b 3, role := byteAt b 7, grant := word16 b 8, deny := word16 b 10
          scope := word16 b 12 }
      s.Takes .configCredential 1 b ∧ s.phase = .running ∧ isDesk (byteAt b 0) = true ∧ (s.desk 1).signedOn ≠ 0
      ∧ allowsPlantWide (s.topLayer 1) Perm.configure.set = true ∧ byteAt b 1 ∈ numbers 64 ∧ byteAt b 2 = 1 ∧ x.badge ≠ 0
      ∧ x.role ∈ numbers 8 ∧ x.grant.toNat < 4096 ∧ x.deny.toNat < 4096
      ∧ (∀ j ∈ numbers 64, j ≠ c → (s.cred j).valid = true → (s.cred j).badge ≠ x.badge)
      ∧ (∀ a ∈ numbers 16, (s.area a).responsible = c →
          permsWithin Perm.ack.set (effectivePerms (getAt s.live.roles x.role) x) = true ∧ inScope x.scope a = true)
      ∧ s.desks = manned.desks ∧ s.credDesk = manned.credDesk ∧ s.live.creds = manned.live.creds
      ∧ s.live.roles = manned.live.roles := by decide +kernel

theorem test_hyps_revoke :
    (asked manned .revoke [1, 64]).Takes .revoke 1 [1, 64] ∧ isDesk (byteAt [1, 64] 0) = true
    ∧ byteAt [1, 64] 1 ∈ numbers 64 ∧ (manned.desk 1).signedOn ≠ 0
    ∧ allowsPlantWide (manned.topLayer 1) Perm.configure.set = true ∧ (manned.cred 64).valid = true := by decide +kernel

/-- Desks and credentials agree in a part that a request is waiting for, too. -/
theorem asked_signOnsAgree (k : ReqKind) (b : List Byte) : (asked manned k b).SignOnsAgree := manned_signOnsAgree

/-! ### What the statements assume: shift handover -/

theorem test_hyps_offer :
    let b : List Byte := 1 :: be32 102 ++ [16, 1]
    let s : Part := { manned with sessions := setAt (Vector.replicate 4 (session .offered .notStarted false false)) 4 Session.idle }
    (asked s .offer b).Takes .offer 1 b ∧ isDesk (byteAt b 0) = true ∧ (∀ a ∈ byteList b 5, isArea a = true)
    ∧ (byteList b 5).Nodup ∧ (s.desk 1).signedOn ≠ 0
    ∧ (∀ a ∈ byteList b 5, allows (s.baseLayer 1) Perm.give.set a = true ∧ (s.area a).responsible = (s.desk 1).signedOn)
    ∧ 64 ∈ numbers 64 ∧ field32 b 1 ≠ 0 ∧ (s.cred 64).valid = true ∧ (s.cred 64).badge.toNat = field32 b 1
    ∧ (∀ j ∈ numbers 64, (s.cred j).valid = true → (s.cred j).badge = (s.cred 64).badge → j = 64)
    ∧ getAt s.credDesk 64 ≠ 0 ∧ 64 ≠ (s.desk 1).signedOn
    ∧ (∀ a ∈ byteList b 5, allows (s.baseLayer (getAt s.credDesk 64)) (Perm.take.set ||| Perm.ack.set) a = true)
    ∧ (∀ a ∈ byteList b 5, (s.area a).session = 0) ∧ 4 ∈ numbers 4 ∧ (s.session 4).state = .idle
    ∧ (∀ m ∈ numbers 4, m < 4 → (s.session m).state ≠ .idle) := by decide +kernel

theorem test_hyps_takeUp :
    (∀ st ∈ [SessionState.offered, .reviewing, .ready],
      let s := handing st .notStarted false false
      (asked s .takeUp [6, 4]).Takes .takeUp 1 [6, 4] ∧ s.PartyAt 6 4 .incoming ∧ (s.session 4).state = st) := by
  decide +kernel

/-- The entry of area 1 in the test session. -/
def entry (sw : SweepState) (gen : W16) : ReviewEntry :=
  { area := 1, sweep := sw, cursor := 1, snapGen := gen, snapSeq := 1, deltaCursor := 1, confGen := 0 }

theorem test_hyps_reviewNext :
    ∀ sw ∈ [SweepState.notStarted, .sweeping],
      let s := handing .reviewing sw false false
      (asked s .reviewNext [6, 4, 1]).Takes .reviewNext 1 [6, 4, 1] ∧ s.PartyAt 6 4 .incoming
      ∧ (s.session 4).state = .reviewing ∧ s.EntryIs 4 1 (entry sw 0)
      ∧ ((entry sw 0).sweep = .notStarted ∨ (entry sw 0).sweep = .sweeping) := by decide +kernel

/-- A delta cursor at the oldest retained record, and one before it. -/
theorem test_hyps_reviewDelta :
    let s := handing .reviewing .swept false false
    let u := s.modRst fun r => { r with nextSeq := 2 }
    (asked s .reviewDelta [6, 4, 1]).Takes .reviewDelta 1 [6, 4, 1] ∧ s.PartyAt 6 4 .incoming
    ∧ (s.session 4).state = .reviewing ∧ s.EntryIs 4 1 (entry .swept 0) ∧ (entry .swept 0).sweep = .swept
    ∧ (s.rst.nextSeq - (entry .swept 0).deltaCursor).toNat ≤ s.rst.journal.length
    ∧ (asked u .reviewDelta [6, 4, 1]).Takes .reviewDelta 1 [6, 4, 1] ∧ u.EntryIs 4 1 (entry .swept 0)
    ∧ u.rst.journal.length < (u.rst.nextSeq - (entry .swept 0).deltaCursor).toNat := by decide +kernel

theorem test_hyps_confirm :
    let s := handing .reviewing .swept false false
    let u := s.modArea 1 fun x => { x with generation := 5 }
    (∀ g ∈ [0, 1], (asked s .confirmArea ([6, 4, 1] ++ be16 g)).Takes .confirmArea 1 ([6, 4, 1] ++ be16 g))
    ∧ s.PartyAt 6 4 .incoming ∧ s.EntryIs 4 1 (entry .swept 0) ∧ u.EntryIs 4 1 (entry .swept 0)
    ∧ ((s.session 4).state = .reviewing ∧ (entry .swept 0).sweep = .swept)
    ∧ (handing .reviewing .sweeping false false).EntryIs 4 1 (entry .sweeping 0)
    ∧ ¬((entry .sweeping 0).sweep = .swept)
    ∧ word16 ([6, 4, 1] ++ be16 1) 3 ≠ (entry .swept 0).snapGen ∧ word16 ([6, 4, 1] ++ be16 0) 3 = (entry .swept 0).snapGen
    ∧ (entry .swept 0).snapGen ≠ (u.area 1).generation ∧ (entry .swept 0).snapGen = (s.area 1).generation := by
  decide +kernel

theorem test_hyps_ready :
    (∀ q ∈ [Party.outgoing, .incoming],
      let k : ReqKind := if q = .incoming then .accept else .handOff
      let b : List Byte := if q = .incoming then [6, 4] else [1, 4]
      let d := byteAt b 0
      let r := handing .ready .confirmed (q == .outgoing) (q == .incoming)
      (∀ s ∈ [handing .offered .notStarted false false, handing .ready .confirmed false false,
          handing .ready .confirmed true true, r], (asked s k b).Takes k 1 b ∧ s.PartyAt d (byteAt b 1) q)
      ∧ ((handing .offered .notStarted false false).session 4).state ≠ .ready
      ∧ ((handing .ready .confirmed true true).session 4).flag q = true
      ∧ ((handing .ready .confirmed false false).session 4).flag q = false
      ∧ ((handing .ready .confirmed false false).session 4).flag q.other = false
      ∧ (∀ a ∈ ((handing .ready .confirmed false false).session 4).areas,
          (handing .ready .confirmed false false).partyPasses 4 q a = true)
      ∧ (r.session 4).state = .ready ∧ (r.session 4).flag q = false ∧ (r.session 4).flag q.other = true
      ∧ (∀ a ∈ (r.session 4).areas,
          isArea a = true ∧ r.partyPasses 4 q a = true ∧ r.partyPasses 4 q.other a = true)
      ∧ (r.session 4).areas.Nodup) := by decide +kernel

theorem test_hyps_abandon :
    ∀ st ∈ [SessionState.offered, .reviewing, .ready],
      let s := handing st .swept true false
      (asked s .withdraw [1, 4]).Takes .withdraw 1 [1, 4] ∧ s.PartyAt 1 4 .outgoing
      ∧ s.resetLow = false ∧ 4 ∈ numbers 4 ∧ (s.session 4).state ≠ .idle ∧ (s.session 4).timer.due = true
      ∧ (s.session 3).state = .idle := by decide +kernel

theorem test_hyps_notice :
    (Session.idle.state = .idle ∨ Session.idle.state = .offered)
    ∧ (∀ e ∈ (session .reviewing .swept false false).entries, e.area = 1 → e.sweep ≠ .confirmed)
    ∧ (session .reviewing .confirmed false false).state = .reviewing
    ∧ (session .ready .confirmed true false).state = .ready
    ∧ ∃ e ∈ (session .ready .confirmed true false).entries, e.area = 1 ∧ e.sweep = .confirmed := by decide

/-! ### What the statements assume: status, journal, reports, time and configuration -/

theorem test_hyps_status :
    (asked manned .partStatus []).Takes .partStatus 1 []
    ∧ (∀ a ∈ [1, 16], (asked manned .areaStatus [byteOf a]).Takes .areaStatus 1 [byteOf a]
        ∧ isArea (byteAt [byteOf a] 0) = true)
    ∧ ((asked manned .deskStatus [6]).Takes .deskStatus 1 [6] ∧ isDesk (byteAt [6] 0) = true)
    ∧ (∀ f ∈ [0, 1, 16], (asked manned .sessionStatus [4, byteOf f]).Takes .sessionStatus 1 [4, byteOf f]
        ∧ byteAt [4, byteOf f] 0 ∈ numbers 4)
    ∧ (manned.session 4).state = .idle ∧ ((handing .offered .notStarted false false).session 4).state ≠ .idle
    ∧ (∀ p ∈ [0, 1, 3, 1024, 1025], (asked manned .pointStatus (be16 p)).Takes .pointStatus 1 (be16 p)
        ∧ (be16 p).length = 2) := by decide +kernel

/-- A journal of one record, numbered 1. -/
def recorded : Part := manned.write false { kind := .phase, value := 2 }

theorem test_hyps_journal :
    let age := fun (s : Part) (q : W32) => (s.rst.nextSeq - q).toNat
    (∀ q ∈ [0, 1, 2, 3], ∀ n ∈ [1, 11],
      (asked recorded .journalRead (be32 q ++ [byteOf n])).Takes .journalRead 1 (be32 q ++ [byteOf n])
      ∧ 1 ≤ byteAt (be32 q ++ [byteOf n]) 4 ∧ byteAt (be32 q ++ [byteOf n]) 4 ≤ 11)
    ∧ age recorded 2 = 0 ∧ 2147483648 < age recorded 3
    ∧ (1 ≤ age recorded 1 ∧ age recorded 1 ≤ 2147483648 ∧ age recorded 1 ≤ recorded.rst.journal.length)
    ∧ (recorded.rst.journal.length < age recorded 0 ∧ age recorded 0 ≤ 2147483648)
    ∧ (asked recorded .journalMark (be32 1)).Takes .journalMark 1 (be32 1)
    ∧ ¬(2147483648 < age recorded recorded.rst.mark ∨ 2147483648 < age recorded 0
        ∨ age recorded 0 < age recorded recorded.rst.mark)
    ∧ age recorded 1 < age recorded recorded.rst.mark := by decide +kernel

theorem test_hyps_reportSettings :
    (∀ b ∈ ([[1, 8], [4, 6]] : List (List Byte)), (asked manned .reportEnable b).Takes .reportEnable 1 b
      ∧ ∀ k ∈ byteList b 0, 1 ≤ k ∧ k ≤ 8)
    ∧ (∀ b ∈ ([[0], [7], [1, 4, 6]] : List (List Byte)), (asked manned .reportDisable b).Takes .reportDisable 1 b)
    ∧ (∃ k ∈ byteList [0] 0, k = 0 ∨ 6 < k) ∧ (∃ k ∈ byteList [7] 0, k = 0 ∨ 6 < k)
    ∧ (∀ k ∈ byteList [1, 4, 6] 0, 1 ≤ k ∧ k ≤ 6) := by decide +kernel

/-- A report whose kind is disabled, one that waits, one that joins a queue with room, and one that does not fit; entries that an
event may queue in any case. -/
theorem test_hyps_queue :
    let r := (reporting [pointEntry 1] 0).rst
    (∀ e ∈ [pointEntry 1024, deskEntry 6, authorityEntry 6],
      e.kind = .point ∧ e.subject ∈ numbers 1024 ∨ (e.kind = .desk ∨ e.kind = .authority) ∧ e.subject ∈ numbers 6)
    ∧ getAt (setAt r.enabled 1 false) (pointEntry 2).kind.code = false ∧ pointEntry 1 ∈ r.reports
    ∧ (getAt r.enabled (pointEntry 2).kind.code = true ∧ pointEntry 2 ∉ r.reports)
    ∧ (r.reports.filter fun x => x.kind != .overflow).length < 4096 - 4093 - 1
    ∧ ¬(r.reports.filter fun x => x.kind != .overflow).length < 4096 - 4094 - 1 := by decide +kernel

theorem test_hyps_setTime :
    (asked manned .setTime (be32 0)).Offered .setTime 1 (be32 0) ∧ (be32 0).length = 4
    ∧ (asked (Part.powerOn true true) .setTime (be32 4294967295)).Offered .setTime 1 (be32 4294967295) := by decide +kernel

/-- The phase LOADING. -/
def loading : Part := { Part.powerOn false false with phase := .loading }

/-- For each configuration request a body that passes and one that does not. -/
theorem test_hyps_loading :
    (∀ x ∈ ([(.configPlant, [15, 15, 15, 0, 255] ++ be16 30 ++ be16 7200 ++ [255, 60]),
        (.configPlant, [16, 0, 0, 0, 4] ++ be16 30 ++ be16 60 ++ [0, 1]), (.configArea, [16, 0, 0, 0, 0, 0, 0, 0, 0]),
        (.configArea, [17, 0, 0, 0, 0, 0, 0, 0, 0]), (.configPoints, be16 1024 ++ [1, 16, 4, 64] ++ be16 1440),
        (.configPoints, be16 1024 ++ [0, 99, 99, 99] ++ be16 9999), (.configPoints, be16 1025 ++ [0, 0, 0, 0, 0, 0]),
        (.configRole, 8 :: be16 4095), (.configRole, 8 :: be16 4096),
        (.configCredential, [0, 64, 1] ++ be32 7 ++ [1] ++ be16 4095 ++ be16 0 ++ be16 65535),
        (.configCredential, [0, 64, 0] ++ be32 7 ++ [1] ++ be16 0 ++ be16 0 ++ be16 0),
        (.configCredential, [1, 64, 1] ++ be32 7 ++ [1] ++ be16 0 ++ be16 0 ++ be16 0),
        (.configDesk, 6 :: be16 600 ++ [15, 131, 0, 3, 1, 0, 2, 128]),
        (.configDesk, 6 :: be16 601 ++ [15, 131, 0, 3, 1, 0, 2, 128])] : List (ReqKind × List Byte)),
      (asked loading x.1 x.2).Takes x.1 1 x.2)
    ∧ loading.phase = .loading
    ∧ (be16 1024 ++ [1, 16, 4, 64] ++ be16 1440).length = 8 ∧ isPoint (field16 (be16 1024) 0) = true
    ∧ isArea (byteAt [16] 0) = true ∧ isArea (byteAt [17] 0) = false ∧ isDesk 6 = true := by decide +kernel

theorem test_hyps_configBegin :
    (asked loading .configBegin [0]).Takes .configBegin 1 [0]
    ∧ (asked (Part.powerOn true true) .configBegin [9]).Takes .configBegin 1 [9] ∧ (Part.powerOn true true).phase = .blank
    ∧ (asked manned .configBegin [1]).Takes .configBegin 1 [1] ∧ manned.phase = .running ∧ isDesk (byteAt [1] 0) = true
    ∧ (manned.desk 1).signedOn ≠ 0 ∧ allowsPlantWide (manned.topLayer 1) Perm.configure.set = true
    ∧ manned.live.plant.jField ≤ 15 := by decide +kernel

theorem test_hyps_commit :
    let bad : Part := { loading with staged := { loading.staged with plant := { loading.staged.plant with jField := 3 } } }
    (asked loading .configCommit []).Takes .configCommit 1 [] ∧ loading.staged.failing = none
    ∧ (asked bad .configCommit []).Takes .configCommit 1 [] ∧ bad.staged.failing = some (5, 0) := by decide +kernel

/-! ### What the statements assume: the invariants -/

/-- A command that is not due leaves the part as it stands. -/
theorem test_step_gap : step { pending := [.gapExpiry], part := manned } = .next { pending := [], part := manned } := rfl

/-- With nothing waiting, a step answers next, so each invariant below meets the hypotheses of its statement. -/
theorem test_step_idle (s : Part) : step { pending := [], part := s } = .next { pending := [], part := s } := rfl

theorem test_inv_journal : recorded.JournalRun := by unfold Part.JournalRun; decide +kernel
theorem test_inv_reports : (reporting [pointEntry 1] 0).ReportsBounded := by unfold Part.ReportsBounded; decide +kernel
theorem test_inv_flood : (deferring .flood 2049).FloodBounded := by unfold Part.FloodBounded; decide +kernel
theorem test_inv_horns : manned.HornsFollow := by unfold Part.HornsFollow; decide +kernel
theorem test_inv_link : manned.LinkBounded := ⟨trivial, by decide +kernel⟩


/-- Every point of a part at power on rests, in no area. -/
theorem fresh_points (p : Nat) (h : p ∈ numbers 1024) :
    (Part.powerOn false false).point p = Point.resting 0 ∧ (Part.powerOn false false).pointS p = PointStatic.initial :=
  ⟨getAt_replicate _ _ ((mem_numbers _).1 h).1 ((mem_numbers _).1 h).2, getAt_replicate _ _ ((mem_numbers _).1 h).1 ((mem_numbers _).1 h).2⟩
theorem fresh_area (a : Nat) (h : a ∈ numbers 16) : (Part.powerOn false false).area a = Area.resting :=
  getAt_replicate _ _ ((mem_numbers _).1 h).1 ((mem_numbers _).1 h).2
theorem fresh_desk (d : Nat) (h : d ∈ numbers 6) : (Part.powerOn false false).desk d = Desk.initial :=
  getAt_replicate _ _ ((mem_numbers _).1 h).1 ((mem_numbers _).1 h).2

theorem test_inv_counts : (Part.powerOn false false).CountsAgree := by
  intro a ha
  have h : ((numbers 1024).filter fun p => ((Part.powerOn false false).pointS p).configured
      && ((Part.powerOn false false).pointS p).area == a) = [] := by
    refine List.filter_eq_nil_iff.2 fun p hp => ?_
    rw [(fresh_points p hp).2]
    simp [PointStatic.initial]
  rw [fresh_area a ha, h]
  rfl

theorem initial_slot (k : Nat) (h : k ∈ numbers 4) : getAt Desk.initial.slots k = none :=
  getAt_replicate _ _ ((mem_numbers _).1 h).1 ((mem_numbers _).1 h).2
theorem initial_order : Desk.initial.order = [] := rfl
theorem initial_rotation : Desk.initial.rotation.Nodup ∧ (∀ a ∈ Desk.initial.rotation, a ∈ numbers 16)
    ∧ ∀ a ∈ numbers 16, a ∈ Desk.initial.rotation := by decide
theorem fresh_shelf (k : Nat) (h : k ∈ numbers 96) : getAt (Part.powerOn false false).shelf k = none :=
  getAt_replicate _ _ ((mem_numbers _).1 h).1 ((mem_numbers _).1 h).2

theorem test_inv_points : (Part.powerOn false false).PointsInPlace := by
  refine ⟨fun q hq => ?_, fun p hp => ?_, fun p hp => ?_, fun a ha pr hpr => ?_, fun d hd => ?_, fun k hk => ?_⟩
  · rw [(fresh_points q hq).2]; simp [PointStatic.initial]
  · rw [(fresh_points p hp).1, (fresh_points p hp).2]
    simp [Point.resting, PointState.unacked]
  · rw [(fresh_points p hp).1]; simp [Point.resting, Placement.InRange]
  · rw [fresh_area a ha]
    simp [Area.resting, getAt_replicate _ _ ((mem_numbers _).1 hpr).1 ((mem_numbers _).1 hpr).2]
  · rw [fresh_desk d hd]
    exact ⟨by decide, fun k hk => by simp [initial_slot k hk, initial_order], by simp [initial_order], initial_rotation⟩
  · simp [fresh_shelf k hk]

/-- A part with one point, which waits in the queue of an area presented at desk 1, so that a fill selects it. -/
def waiting : Part :=
  let s := Part.powerOn false false
  { s with
    live := { s.live with
      points := setAt s.live.points 1 { configured := true, area := 1, priority := 4, group := 0, shelfLimit := 0 } }
    points := setAt s.points 1 { (Point.resting 0) with state := .unack, shadow := true, placement := .queued }
    areas := setAt s.areas 1 { Area.resting with pdesk := 1, pend := setAt Area.resting.pend 4 [1] } }

theorem test_waiting_filled : (waiting.fillStep 1).isSome = true := by decide +kernel

theorem waiting_point (p : Nat) (h : p ∈ numbers 1024) :
    waiting.point p = (if p = 1 then { (Point.resting 0) with state := .unack, shadow := true, placement := .queued }
      else Point.resting 0)
    ∧ waiting.pointS p = (if p = 1 then { configured := true, area := 1, priority := 4, group := 0, shelfLimit := 0 }
      else PointStatic.initial) := by
  obtain ⟨h1, h2⟩ := (mem_numbers p).1 h
  have hp := fresh_points p h
  simp only [Part.point, Part.pointS] at hp
  simp only [Part.point, Part.pointS, waiting, getAt_setAt, hp]
  by_cases e : p = 1
  · subst e; simp
  · simp [e, Ne.symm e]

theorem waiting_area (a : Nat) (h : a ∈ numbers 16) :
    waiting.area a = if a = 1 then { Area.resting with pdesk := 1, pend := setAt Area.resting.pend 4 [1] } else Area.resting := by
  have ha := fresh_area a h
  simp only [Part.area] at ha
  simp only [Part.area, waiting, getAt_setAt, ha]
  by_cases e : a = 1
  · subst e; simp
  · simp [e, Ne.symm e]

theorem test_waiting_inPlace : waiting.PointsInPlace := by
  refine ⟨fun q hq => ?_, fun p hp => ?_, fun p hp => ?_, fun a ha pr hpr => ?_, fun d hd => ?_, fun k hk => ?_⟩
  · rw [(waiting_point q hq).2]; split <;> simp [PointStatic.initial, isArea, Config.nAreas]
  · rw [(waiting_point p hp).1, (waiting_point p hp).2]
    split
    · subst p; simp [Point.resting, PointState.unacked]; decide
    · simp [Point.resting, PointState.unacked]
  · rw [(waiting_point p hp).1]; split <;> simp [Point.resting, Placement.InRange]
  · rw [waiting_area a ha]
    split
    · subst a; simp only [numbers] at hpr; revert pr; decide +kernel
    · simp [Area.resting, getAt_replicate _ _ ((mem_numbers _).1 hpr).1 ((mem_numbers _).1 hpr).2]
  · rw [show waiting.desk d = Desk.initial from fresh_desk d hd]
    exact ⟨by decide, fun k hk => by simp [initial_slot k hk, initial_order], by simp [initial_order], initial_rotation⟩
  · simp [show getAt waiting.shelf k = none from fresh_shelf k hk]

/-! ### Small events -/

/-- R169: the check value of the nine bytes "123456789". -/
theorem test_crc : crc16 [0x31, 0x32, 0x33, 0x34, 0x35, 0x36, 0x37, 0x38, 0x39] = 0x29B1 := by decide +kernel

/-- R82 and the spec's own example values. -/
theorem test_decay : [0, 1, 15, 16, 17, 32, 6400, 1987, 1862, 8518].map decay = [0, 0, 14, 15, 15, 30, 6000, 1862, 1745, 7985] := by
  decide

/-- R43, R81: an active condition of point 1 raises it; the request is answered OK under its own tag. -/
theorem test_condition :
    let t := (asked manned .conditions (be16 1 ++ [1])).serve .conditions conditionsHandler
    (t.point 1).state = .unack ∧ (t.point 1).placement = .presented 1 1 ∧ (t.area 1).load = 512
    ∧ (t.area 1).counts.unack = 1 ∧ t.rst.journal.length = 1
    ∧ t.lif.replySlot.map (fun r => (r.tag, r.kind, r.body)) = some (1, 0x81, [0, 0]) := by decide +kernel

/-- R118: the third agreeing sample makes the button pressed in every phase, and delivers a press in RUNNING alone. -/
theorem test_press :
    let held := fun (s : Part) =>
      (s.modDesk 1 fun x => { x with ackButton := { pressed := false, run := 2, candidate := true } }).tick
        { ackLow := 1, silLow := 0, rxdLow := false }
    ((held manned).desk 1).ackButton.pressed = true ∧ ((held manned).desk 1).ackPresses = 1
    ∧ ((held { manned with phase := .loading }).desk 1).ackButton.pressed = true
    ∧ ((held { manned with phase := .loading }).desk 1).ackPresses = 0 := by decide +kernel

/-- R176: the tenth tick with RXD low resets the link in its own event; so does LINK_RESET ahead of that tick, which then passes
the link by; and a further tick with RXD low resets nothing. -/
theorem test_break :
    let low : TickPins := { ackLow := 0, silLow := 0, rxdLow := true }
    let s := (asked manned .partStatus []).modLif fun l => { l with breakCount := 9, pacer := 7 }
    let early := match exec .linkReset { pending := [], part := s } with | .next t => t.part | _ => s
    (s.tick low).lif.inputQueue = [] ∧ (s.tick low).lif.pacer = 0 ∧ (s.tick low).rst.reports = [{ kind := .resync, subject := 0 }]
    ∧ early.lif.inputQueue = [] ∧ (early.tick low).lif = (s.tick low).lif
    ∧ ((asked (s.tick low) .partStatus []).tick low).lif.inputQueue ≠ [] := by decide +kernel

/-- R165: a list that names a kind outside 1..8. -/
theorem test_hyps_enableUnknown :
    ∀ b ∈ ([[0], [9], [1, 9]] : List (List Byte)), (asked manned .reportEnable b).Takes .reportEnable 1 b
      ∧ ∃ k ∈ byteList b 0, k = 0 ∨ 8 < k := by decide +kernel

/-- R63, R183: of twelve configured points a POINT_STATUS answers eleven. -/
theorem test_pointStatus :
    let body := (List.replicate 12 (be16 1)).flatten
    let reply := (pointStatusHandler body manned).2
    reply.length = 233 ∧ byteAt reply 1 = 11 := by decide +kernel

/-- R171, R172: a kind outside the catalogue is answered UNKNOWN_KIND. -/
theorem test_unknownKind :
    let s := manned.modLif fun l => { l with inputQueue := [{ tag := 7, kind := 0x7E, body := [] }] }
    ∃ t, exec .unknownKind { pending := [], part := s } = .next t ∧ t.part.lif.inputQueue = []
      ∧ t.part.lif.replySlot.map (fun r => (r.tag, r.kind)) = some (7, 0xFE) := ⟨_, rfl, rfl, rfl⟩

end Sys2Proof.Machine.Tests
end

section
/-! What a CONDITIONS request of one item does: the item's answer, and the completion of the command. -/

namespace Sys2Proof.Machine

/-! ### One item (R42, R48) -/

/-- A REPEAT item leaves the part as it is. -/
theorem conditionItem_repeated {s : Part} {p c : Nat} (h : (s.conditionItem p c).2 = .repeated) :
    (s.conditionItem p c).1 = s := by
  unfold Part.conditionItem at h ⊢
  split_ifs at h ⊢
  rfl

/-- The item of a configured point is a REPEAT or an event. -/
theorem conditionItem_inPlant {s : Part} {p : Nat} (hp : s.InPlant p) (active : Bool) :
    s.conditionItem p active.toNat =
      if s.conditionHeld p active then (s, .repeated) else (s.conditionEvent p active, .ok) := by
  obtain ⟨hpoint, hconf, _, _⟩ := hp
  cases active <;> simp [Part.conditionItem, hpoint, hconf]

/-- The byte of REPEAT in a reply is that of no other result code. -/
theorem ResultCode.byte_repeated {r : ResultCode} (h : r.byte = ResultCode.repeated.byte) : r = .repeated := by
  revert h
  cases r <;> decide

/-! ### The request (R41, R172) -/

/-- A CONDITIONS body of three bytes is one item. -/
theorem conditionsHandler_one {body : List Byte} (h : body.length = 3) (s : Part) :
    conditionsHandler body s =
      ((s.conditionItem (field16 body 0) (byteAt body 2)).1,
        [0, (s.conditionItem (field16 body 0) (byteAt body 2)).2.byte]) := by
  have hi : itemOffsets 0 3 body.length = [0] := by rw [h]; rfl
  simp only [conditionsHandler, takeItemsInOrder, hi, List.foldl_cons, List.foldl_nil]
  rfl

/-- R172: a CONDITIONS request of one item completes in one way: the item is taken, and its answer is the reply. -/
theorem completes_conditions_iff {s t : Part} {tag : Byte} {body : List Byte} (h : s.Takes .conditions tag body)
    (hlen : body.length = 3) :
    Completes .conditions s t ↔
      t = (s.taken.conditionItem (field16 body 0) (byteAt body 2)).1.reply tag (byteOf ReqKind.conditions.code)
        [0, (s.taken.conditionItem (field16 body 0) (byteAt body 2)).2.byte] := by
  have hserve : s.serve .conditions conditionsHandler =
      (s.taken.conditionItem (field16 body 0) (byteAt body 2)).1.reply tag (byteOf ReqKind.conditions.code)
        [0, (s.taken.conditionItem (field16 body 0) (byteAt body 2)).2.byte] := by
    rw [Part.serve_offered h.1, Part.handle_taken h, conditionsHandler_one hlen]
  have hexec : ∀ q, exec .conditions { pending := q, part := s } =
      .next { pending := q, part := s.serve .conditions conditionsHandler } := fun q =>
    onPart_completes (f := fun u => u.serve .conditions conditionsHandler) h.1.1 rfl q
  rw [← hserve]
  constructor
  · intro hc
    have heq := (hexec []).symm.trans (hc [])
    injection heq with heq
    exact (congrArg State.part heq).symm
  · rintro rfl
    exact hexec

/-- A condition that the point already holds is answered REPEAT, and nothing else happens. -/
theorem completes_conditions_repeated {s : Part} {tag : Byte} {body : List Byte} (h : s.Takes .conditions tag body)
    (hlen : body.length = 3) (hp : s.InPlant (field16 body 0)) {active : Bool} (hc : byteAt body 2 = active.toNat)
    (held : s.conditionHeld (field16 body 0) active = true) :
    Completes .conditions s { s with lif := s.answer .conditions tag [0, 1] } := by
  have hitem := conditionItem_inPlant (s := s.taken) hp active
  rw [if_pos (show s.taken.conditionHeld _ _ = true from held), ← hc] at hitem
  rw [completes_conditions_iff h hlen, hitem, Part.reply_rest,
    Part.reply_lif (s := s) .conditions tag _ rfl]
  rfl

end Sys2Proof.Machine
end

section
/-! What the end of a condition event shares in every state of the point. -/

namespace Sys2Proof.Machine

theorem Part.InPlant.point_mem {s : Part} {p : Nat} (hp : s.InPlant p) : p ∈ numbers 1024 := by
  obtain ⟨hpoint, _⟩ := hp
  exact (mem_numbers p).2 (by simpa [isPoint] using hpoint)

theorem Part.InPlant.area_mem {s : Part} {p : Nat} (hp : s.InPlant p) : (s.pointS p).area ∈ numbers 16 := by
  obtain ⟨_, _, harea, _⟩ := hp
  exact (mem_numbers _).2 (by simpa [isArea] using harea)

theorem Part.InPlant.priority_mem {s : Part} {p : Nat} (hp : s.InPlant p) : (s.pointS p).priority ∈ numbers 4 := by
  obtain ⟨_, _, _, hpriority⟩ := hp
  exact (mem_numbers _).2 hpriority

theorem Part.generationOf_pos (s : Part) {a : Nat} (h : a ≠ 0) : s.generationOf a = (s.area a).generation := if_neg h

/-- R144: a notice reaches the sessions alone. -/
theorem Part.notify_rest (s : Part) (a : Nat) : s.notify a = { s with sessions := (s.notify a).sessions } := by
  unfold Part.notify
  split <;> rfl

/-- R13, R144: the session that the area is in takes the notice. -/
theorem Part.notify_session (s : Part) (a n : Nat) (hn : n ∈ numbers 4) :
    (s.notify a).session n = if (s.area a).session = n then (s.session n).notice a else s.session n := by
  obtain ⟨h1, h2⟩ := (mem_numbers n).1 hn
  unfold Part.notify
  split
  · next h0 => rw [if_neg (by omega)]
  · rw [Part.modSession_session]
    refine if_congr ?_ rfl rfl
    constructor
    · exact fun h => h.1
    · exact fun h => ⟨h, by omega⟩

/-- At the end of an event that did not touch a desk, the desk is kept. -/
theorem closeEvent_deskKept {s t : Part} (extra : List ReportEntry) {d : Nat} (hd : d ∈ numbers 6)
    (h : t.desk d = s.desk d) : s.DeskKept (closeEvent s extra t) d := by
  obtain ⟨h1, h2⟩ := (mem_numbers d).1 hd
  refine ⟨?_, fun ok => ?_, closeEvent_hornMoved extra d hd (by rw [h]) (by rw [h])⟩
  · rw [closeEvent_desk, t.refreshHorns_desk d h1 h2, h]
  · rw [closeEvent_desk, t.refreshHorns_kept d h1 h2 (h ▸ ok), h]

/-- A desk that is kept is one whose slots and orders alone moved, as they were. -/
theorem Part.DeskKept.moved {s t : Part} {d : Nat} (h : s.DeskKept t d) : s.DeskMoved t d := by
  obtain ⟨heq, _, hhorn⟩ := h
  refine ⟨?_, hhorn⟩
  rw [heq]

/-- R3: an event that changes a reported field of a point tells its POINT report. -/
theorem closeEvent_tells_point {s t : Part} {p : Nat} (hp : p ∈ numbers 1024)
    (h : pointReported (s.point p) (t.point p) = true) : (closeEvent s [] t).Told (pointEntry p) := by
  obtain ⟨h1, h2⟩ := (mem_numbers p).1 hp
  have entry : ∀ v : Vector Point 1024, v.toList[p - 1]? = some (getAt v p) := fun v => by
    rw [getAt_eq v p ⟨h1, h2⟩, List.getElem?_eq_getElem (by simp; omega)]
    simp
  have hpts : t.refreshHorns.points = t.points := by rw [Part.refreshHorns_rest]
  have hm := mem_changedEntries .point [] pointReported s.points.toList t.refreshHorns.points.toList (p - 1) _ _
    (entry s.points) (entry t.refreshHorns.points) (by rw [hpts]; exact h)
  rw [show p - 1 + 1 = p by omega] at hm
  refine closeEvent_told s [] t _ ?_
  unfold eventReports
  simp only [List.mem_append]
  exact .inl (.inl (.inl (.inl (.inl hm))))

end Sys2Proof.Machine
end

section
/-! The condition event of a point outside NORMAL, which fills no desk: what it leaves, writes and reports, given what the
point's change (R52, steps 1 to 3) made of the part. -/

namespace Sys2Proof.Machine

/-- R84: the change of a condition event took the point's area into FLOOD. -/
def Part.enteredBy (s u : Part) (p : Nat) : Bool :=
  (s.area (s.pointS p).area).flood != .flood && (u.area (s.pointS p).area).flood == .flood

/-- R12, R13: the change of a condition event is significant. -/
def Part.significantBy (s u : Part) (p : Nat) : Bool :=
  ((u.point p).state != (s.point p).state && s.reviewed p) || s.enteredBy u p

/-- What the change of a condition event keeps: all but points and areas, the generation and the session field of the point's
area; the load index of an area taken into FLOOD is the one after the contribution. -/
structure ConditionChange (s u : Part) (p : Nat) : Prop where
  rest : u = { s with points := u.points, areas := u.areas }
  generation : (u.area (s.pointS p).area).generation = (s.area (s.pointS p).area).generation
  session : (u.area (s.pointS p).area).session = (s.area (s.pointS p).area).session
  load : s.enteredBy u p = true →
    (u.area (s.pointS p).area).load = s.loadAfter (s.pointS p).area (s.pointS p).priority

/-- R54, R94: the records of a condition event are written: `u` is the part after the change and its generation. -/
def Part.writeCondition (s u : Part) (p value : Nat) (sig entered : Bool) : Part :=
  let v := u.write sig { s.pointRecord .condition p with value := w16 value }
  if entered then
    v.write true
      { s.pointRecord .floodEnter p with
        value := w16 (u.area (s.pointS p).area).load
        flags := flagIf ((s.area (s.pointS p).area).flood == .releasing) flagReflood }
  else v

/-- R12: the generation of a significant change. -/
def Part.bumpIf (u : Part) (sig : Bool) (a : Nat) : Part := if sig then u.bump a else u

/-- R13: the notice of a significant change. -/
def Part.notifyIf (s : Part) (sig : Bool) (a : Nat) : Part := if sig then s.notify a else s

/-- A condition event that fills no desk, before its end: the generation, the records and the notice. -/
def Part.conditionNoted (s u : Part) (p value : Nat) : Part :=
  let a := (s.pointS p).area
  let sig := s.significantBy u p
  (s.writeCondition (u.bumpIf sig a) p value sig (s.enteredBy u p)).notifyIf sig a

/-! ### The stages -/

theorem Part.bumpIf_rest (u : Part) (sig : Bool) (a : Nat) : u.bumpIf sig a = { u with areas := (u.bumpIf sig a).areas } := by
  cases sig <;> rfl

theorem Part.bumpIf_area (u : Part) (sig : Bool) (a b : Nat) (ha : a ∈ numbers 16) :
    (u.bumpIf sig a).area b =
      if a = b then { u.area b with generation := if sig then (u.area b).generation + 1 else (u.area b).generation }
      else u.area b := by
  cases sig with
  | false => simp [Part.bumpIf]
  | true =>
    refine (u.modArea_area a b fun x => { x with generation := x.generation + 1 }).trans ?_
    simp [(mem_numbers a).1 ha]

theorem Part.writeCondition_rest (s u : Part) (p value : Nat) (sig entered : Bool) :
    s.writeCondition u p value sig entered = { u with rst := (s.writeCondition u p value sig entered).rst } := by
  cases entered <;> rfl

/-- The records of a condition event leave the reports and their settings alone. -/
theorem Part.writeCondition_reports (s u : Part) (p value : Nat) (sig entered : Bool) :
    (s.writeCondition u p value sig entered).rst.reports = u.rst.reports
    ∧ (s.writeCondition u p value sig entered).rst.dropped = u.rst.dropped
    ∧ (s.writeCondition u p value sig entered).rst.enabled = u.rst.enabled := by
  cases entered <;> exact ⟨rfl, rfl, rfl⟩

/-- One more record after those of an event, numbered after them. -/
theorem Part.Recorded.write {s u : Part} {l : List (Bool × W16 × RecordFields)} (h : s.Recorded u (s.records l))
    (hnow : u.now = s.now) (hsize : u.journalSize = s.journalSize) (sig : Bool) (f : RecordFields) (gen : W16)
    (hgen : u.generationOf f.area = gen) : s.Recorded (u.write sig f) (s.records (l ++ [(sig, gen, f)])) := by
  have hseq : u.rst.nextSeq = s.rst.nextSeq + BitVec.ofNat 32 l.length := by
    obtain ⟨_, hnext, _⟩ := h
    simpa [Part.records] using hnext
  have hrec : [u.record 0 sig (u.generationOf f.area) f] = [s.record l.length sig gen f] := by
    simp [Part.record, hseq, hnow, hgen]
  have happ := h.append (hrec ▸ u.write_recorded sig f) hsize
  rwa [show s.records l ++ [s.record l.length sig gen f] = s.records (l ++ [(sig, gen, f)]) by
    simp [Part.records, List.mapIdx_append]] at happ

/-- R54, R94: the records of a condition event, as the statements say them. -/
theorem Part.writeCondition_recorded {s u : Part} {p value : Nat} {sig entered : Bool}
    (rest : u = { s with points := u.points, areas := u.areas }) (ha : (s.pointS p).area ≠ 0)
    (hgen : (u.area (s.pointS p).area).generation =
      if sig then (s.area (s.pointS p).area).generation + 1 else (s.area (s.pointS p).area).generation)
    (hload : entered = true →
      (u.area (s.pointS p).area).load = s.loadAfter (s.pointS p).area (s.pointS p).priority) :
    s.Recorded (s.writeCondition u p value sig entered) (s.conditionRecords p value sig entered) := by
  have hnow : u.now = s.now := by rw [rest]; rfl
  have hsize : u.journalSize = s.journalSize := by rw [rest]; rfl
  have hnone : s.Recorded u (s.records []) := by
    rw [rest]
    exact Part.recorded_nothing rfl rfl rfl rfl rfl rfl rfl
  have hcond := hnone.write hnow hsize sig { s.pointRecord .condition p with value := w16 value } _
    ((u.generationOf_pos ha).trans hgen)
  cases entered with
  | false => exact hcond
  | true =>
    have henter := hcond.write hnow hsize true
      { s.pointRecord .floodEnter p with
        value := w16 (u.area (s.pointS p).area).load
        flags := flagIf ((s.area (s.pointS p).area).flood == .releasing) flagReflood } _
      ((Part.generationOf_pos _ ha).trans hgen)
    simpa [Part.writeCondition, Part.conditionRecords, Part.pointRecord, hload rfl, flagIf] using henter

/-! ### The event -/

/-- What a condition event that fills no desk did, from `s` to `t`, where `u` is the part after the point's change. -/
structure ConditionDone (s u t : Part) (p value : Nat) : Prop where
  fixed : s.Fixed t
  people : s.PeopleKept t
  shelf : t.shelf = s.shelf
  points : t.points = u.points
  area : t.area (s.pointS p).area =
    { u.area (s.pointS p).area with
      generation :=
        if s.significantBy u p then (s.area (s.pointS p).area).generation + 1
        else (s.area (s.pointS p).area).generation }
  others : ∀ b, b ≠ (s.pointS p).area → t.area b = u.area b
  sessions : s.Noticed t (s.pointS p).area (s.significantBy u p)
  desks : ∀ d ∈ numbers 6, s.DeskKept t d
  wrote : s.Wrote t (s.conditionRecords p value (s.significantBy u p) (s.enteredBy u p))
  told : pointReported (s.point p) (u.point p) = true → t.Told (pointEntry p)

/-- Outside NORMAL no desk is filled. -/
theorem conditionEvent_eq {s : Part} {p : Nat} (active : Bool) (h : (s.point p).state ≠ .normal) :
    s.conditionEvent p active = closeEvent s [] (s.conditionNoted (s.conditionChange p) p
      (256 * (if active then 1 else 0) + ((s.conditionChange p).point p).state.code)) := by
  unfold Part.conditionEvent
  simp only [h, false_and, if_false]
  generalize s.conditionChange p = u
  have hb : ∀ sig : Bool, ((if sig then u.bump (s.pointS p).area else u).point p) = u.point p := fun sig => by
    cases sig <;> rfl
  simp only [hb]
  rfl

theorem Part.notifyIf_rest (s : Part) (sig : Bool) (a : Nat) :
    s.notifyIf sig a = { s with sessions := (s.notifyIf sig a).sessions } := by
  cases sig
  · rfl
  · exact s.notify_rest a

/-- The stages of a condition event after the point's change touch areas, sessions and the Record Store alone. -/
theorem Part.conditionNoted_rest (s u : Part) (p value : Nat) :
    s.conditionNoted u p value =
      { u with
        areas := (u.bumpIf (s.significantBy u p) (s.pointS p).area).areas
        sessions := (s.conditionNoted u p value).sessions
        rst := (s.writeCondition (u.bumpIf (s.significantBy u p) (s.pointS p).area) p value (s.significantBy u p)
          (s.enteredBy u p)).rst } :=
  (Part.notifyIf_rest ..).trans (congrArg (fun x : Part => { x with sessions := (s.conditionNoted u p value).sessions })
    ((s.writeCondition_rest ..).trans (congrArg
      (fun x : Part => { x with rst := (s.writeCondition (u.bumpIf (s.significantBy u p) (s.pointS p).area) p value
        (s.significantBy u p) (s.enteredBy u p)).rst }) (u.bumpIf_rest ..))))

/-- R13, R144: the notice of a significant change reaches the session that the area is in. -/
theorem Part.notifyIf_session (s : Part) (sig : Bool) (a n : Nat) (hn : n ∈ numbers 4) :
    (s.notifyIf sig a).session n =
      if sig = true ∧ (s.area a).session = n then (s.session n).notice a else s.session n := by
  cases sig with
  | false => simp [Part.notifyIf]
  | true => simpa [Part.notifyIf] using s.notify_session a n hn

/-- R144: the notice of a condition event. -/
theorem Part.conditionNoted_noticed {s u : Part} {p : Nat} (value : Nat) (hu : ConditionChange s u p)
    (ha : (s.pointS p).area ∈ numbers 16) :
    s.Noticed (s.conditionNoted u p value) (s.pointS p).area (s.significantBy u p) := by
  intro n hn
  have hsession : ((u.bumpIf (s.significantBy u p) (s.pointS p).area).area (s.pointS p).area).session
      = (s.area (s.pointS p).area).session := by
    rw [Part.bumpIf_area _ _ _ _ ha, if_pos rfl, ← hu.session]
  have hsessions : (u.bumpIf (s.significantBy u p) (s.pointS p).area).session n = s.session n := by
    rw [Part.bumpIf_rest, hu.rest]
    rfl
  unfold Part.conditionNoted
  dsimp only
  rw [Part.notifyIf_session _ _ _ _ hn, Part.writeCondition_rest, ← hsession, ← hsessions]
  rfl

/-- R54, R94: the records of a condition event. -/
theorem Part.conditionNoted_recorded {s u : Part} {p : Nat} (value : Nat) (hu : ConditionChange s u p)
    (ha : (s.pointS p).area ∈ numbers 16) :
    s.Recorded (s.conditionNoted u p value)
      (s.conditionRecords p value (s.significantBy u p) (s.enteredBy u p)) := by
  have hpos : (s.pointS p).area ≠ 0 := by have := (mem_numbers _).1 ha; omega
  have harea := u.bumpIf_area (s.significantBy u p) (s.pointS p).area (s.pointS p).area ha
  rw [if_pos rfl] at harea
  have hbumped : u.bumpIf (s.significantBy u p) (s.pointS p).area =
      { s with points := u.points, areas := (u.bumpIf (s.significantBy u p) (s.pointS p).area).areas } :=
    (u.bumpIf_rest ..).trans (congrArg
      (fun x : Part => { x with areas := (u.bumpIf (s.significantBy u p) (s.pointS p).area).areas }) hu.rest)
  have hrec := Part.writeCondition_recorded (s := s) (p := p) (value := value) (sig := s.significantBy u p)
    (entered := s.enteredBy u p) (u := u.bumpIf (s.significantBy u p) (s.pointS p).area)
    (hbumped.trans (by rw [Part.bumpIf_rest])) hpos (by rw [harea, hu.generation]) (by rw [harea]; exact hu.load)
  rw [s.conditionNoted_rest u p value]
  exact hrec

/-- The condition event of a point outside NORMAL. -/
theorem conditionEvent_done {s : Part} {p : Nat} (active : Bool) (hp : s.InPlant p) (h : (s.point p).state ≠ .normal)
    (hu : ConditionChange s (s.conditionChange p) p) :
    ConditionDone s (s.conditionChange p) (s.conditionEvent p active) p
      (256 * (if active then 1 else 0) + ((s.conditionChange p).point p).state.code) := by
  rw [conditionEvent_eq active h]
  generalize 256 * (if active then 1 else 0) + ((s.conditionChange p).point p).state.code = value
  revert hu
  generalize s.conditionChange p = u
  intro hu
  have ha := hp.area_mem
  have hw := s.conditionNoted_rest u p value
  have ht := closeEvent_rest s [] (s.conditionNoted u p value)
  have hareas : ∀ b, (closeEvent s [] (s.conditionNoted u p value)).area b =
      (u.bumpIf (s.significantBy u p) (s.pointS p).area).area b := fun b =>
    congrArg (getAt · b) (show (closeEvent s [] (s.conditionNoted u p value)).areas = _ by rw [ht, hw])
  have hrep := s.writeCondition_reports (u.bumpIf (s.significantBy u p) (s.pointS p).area) p value
    (s.significantBy u p) (s.enteredBy u p)
  have hrst : (u.bumpIf (s.significantBy u p) (s.pointS p).area).rst = s.rst := by rw [Part.bumpIf_rest, hu.rest]
  rw [hrst] at hrep
  obtain ⟨hreports, hdropped, henabled⟩ := hrep
  constructor
  case fixed => rw [ht, hw, hu.rest]; exact ⟨rfl, rfl, rfl, rfl, rfl⟩
  case people => rw [ht, hw, hu.rest]; exact ⟨rfl, rfl⟩
  case shelf => rw [ht, hw, hu.rest]
  case points => rw [ht, hw]
  case area => rw [hareas, Part.bumpIf_area _ _ _ _ ha, if_pos rfl, hu.generation]
  case others => exact fun b hb => by rw [hareas, Part.bumpIf_area _ _ _ _ ha, if_neg (Ne.symm hb)]
  case sessions =>
    have hsame : (closeEvent s [] (s.conditionNoted u p value)).sessions = (s.conditionNoted u p value).sessions := by
      rw [ht]
    exact fun n hn => (congrArg (getAt · n) hsame).trans (Part.conditionNoted_noticed value hu ha n hn)
  case desks =>
    intro d hd
    have hsame : (s.conditionNoted u p value).desks = s.desks := by rw [hw, hu.rest]
    exact closeEvent_deskKept [] hd (congrArg (getAt · d) hsame)
  case wrote =>
    have hlive : (s.conditionNoted u p value).live = s.live := by rw [hw, hu.rest]
    have hsize : (s.conditionNoted u p value).journalSize = s.journalSize := by rw [Part.journalSize, hlive, Part.journalSize]
    refine ⟨?_, closeEvent_reported [] (by rw [hw]; exact hreports) (by rw [hw]; exact hdropped)
      (by rw [hw]; exact henabled) hsize⟩
    have hrec := (Part.conditionNoted_recorded value hu ha).append
      (closeEvent_recorded s [] (s.conditionNoted u p value)) hsize
    rwa [List.append_nil] at hrec
  case told =>
    intro hchanged
    refine closeEvent_tells_point hp.point_mem ?_
    have hsame : (s.conditionNoted u p value).points = u.points := by rw [hw]
    rwa [show (s.conditionNoted u p value).point p = u.point p from congrArg (getAt · p) hsame]

/-- The taking of a request and its answer stand around a condition event. -/
theorem ConditionDone.answered {s u t : Part} {p value : Nat} (h : ConditionDone s.taken u t p value) (tag kind : Byte)
    (body : List Byte) : ConditionDone s u (t.reply tag kind body) p value where
  fixed := h.fixed
  people := h.people
  shelf := h.shelf
  points := h.points
  area := h.area
  others := h.others
  sessions := h.sessions
  desks := h.desks
  wrote := ⟨h.wrote.1, (h.wrote.2.reply tag kind body).ofTaken⟩
  told := h.told

/-- A condition event leaves the Link Interface alone. -/
theorem conditionEvent_lif {s : Part} {p : Nat} (active : Bool) (h : (s.point p).state ≠ .normal)
    (hu : ConditionChange s (s.conditionChange p) p) : (s.conditionEvent p active).lif = s.lif := by
  rw [conditionEvent_eq active h]
  generalize 256 * (if active then 1 else 0) + ((s.conditionChange p).point p).state.code = value
  revert hu
  generalize s.conditionChange p = u
  intro hu
  rw [closeEvent_rest, Part.conditionNoted_rest, hu.rest]

/-- R41, R48: a condition that a point outside NORMAL does not hold is an event, answered OK. -/
theorem completes_conditions_event {s : Part} {tag : Byte} {body : List Byte} (h : s.Takes .conditions tag body)
    (hlen : body.length = 3) (hp : s.InPlant (field16 body 0)) {active : Bool} (hc : byteAt body 2 = active.toNat)
    (hst : (s.point (field16 body 0)).state ≠ .normal) (held : s.conditionHeld (field16 body 0) active = false)
    (hu : ConditionChange s.taken (s.taken.conditionChange (field16 body 0)) (field16 body 0)) :
    ∃ t : Part, Completes .conditions s t ∧ t.lif = s.answer .conditions tag [0, 0]
      ∧ ConditionDone s (s.taken.conditionChange (field16 body 0)) t (field16 body 0)
          (256 * (if active then 1 else 0)
            + ((s.taken.conditionChange (field16 body 0)).point (field16 body 0)).state.code) := by
  have hitem := conditionItem_inPlant (s := s.taken) hp active
  rw [if_neg (by rw [show s.taken.conditionHeld _ _ = false from held]; exact Bool.false_ne_true), ← hc] at hitem
  refine ⟨_, (completes_conditions_iff h hlen).2 rfl, ?_, ?_⟩
  · rw [hitem]
    exact Part.reply_lif .conditions tag _ (conditionEvent_lif (s := s.taken) active hst hu)
  · rw [hitem]
    exact (conditionEvent_done (s := s.taken) active hp hst hu).answered tag _ _

end Sys2Proof.Machine
end

section
/-! Entering FLOOD (R84), read off the queues and placements: what becomes of each pending queue and of the points in it. -/

namespace Sys2Proof.Machine

/-! ### Setting placements -/

theorem setPlacements_rest (x : Placement) (l : List Nat) (s : Part) :
    l.foldl (fun s p => s.modPoint p fun y => { y with placement := x }) s =
      { s with points := (l.foldl (fun s p => s.modPoint p fun y => { y with placement := x }) s).points } := by
  induction l generalizing s with
  | nil => rfl
  | cons p l ih => rw [List.foldl_cons, ih]; rfl

theorem setPlacements_placement (x : Placement) (l : List Nat) (s : Part) (q : Nat) (hq : q ∈ numbers 1024) :
    ((l.foldl (fun s p => s.modPoint p fun y => { y with placement := x }) s).point q).placement =
      if q ∈ l then x else (s.point q).placement := by
  induction l generalizing s with
  | nil => simp
  | cons p l ih =>
    obtain ⟨h1, h2⟩ := (mem_numbers q).1 hq
    rw [List.foldl_cons, ih, Part.modPoint_point]
    by_cases hl : q ∈ l
    · simp [hl]
    · by_cases hp : p = q
      · subst hp; simp [h1, h2]
      · simp [hl, hp, Ne.symm hp]

/-! ### One queue -/

theorem deferQueue_rest (s : Part) (a pr : Nat) :
    s.deferQueue a pr =
      { s with points := (s.deferQueue a pr).points, areas := (s.deferQueue a pr).areas } := by
  unfold Part.deferQueue
  dsimp only
  rw [setPlacements_rest]
  rfl

theorem deferQueue_desk (s : Part) (a pr d : Nat) : (s.deferQueue a pr).desk d = s.desk d := by
  have hdesks : (s.deferQueue a pr).desks = s.desks := by rw [deferQueue_rest]
  exact congrArg (getAt · d) hdesks

/-- R84: the queues and the deferred count of the area after one of its pending queues was deferred. -/
theorem deferQueue_area (s : Part) (a pr b : Nat) (ha : a ∈ numbers 16) :
    (s.deferQueue a pr).area b =
      if a = b then
        { s.area b with
          pend := setAt (s.area b).pend pr []
          defer := modAt (s.area b).defer pr (· ++ getAt (s.area a).pend pr)
          counts :=
            { (s.area b).counts with
              deferred := (s.area b).counts.deferred + (getAt (s.area a).pend pr).length } }
      else s.area b := by
  unfold Part.deferQueue
  dsimp only
  rw [setPlacements_rest]
  refine (s.modArea_area a b _).trans (if_congr ?_ rfl rfl)
  simp [(mem_numbers a).1 ha]

theorem deferQueue_placement (s : Part) (a pr q : Nat) (hq : q ∈ numbers 1024) :
    ((s.deferQueue a pr).point q).placement =
      if q ∈ getAt (s.area a).pend pr then .deferred else (s.point q).placement :=
  setPlacements_placement .deferred _ _ q hq

/-! ### The queues above the cutoff -/

/-- R84: several pending queues of an area are deferred, in the order given. -/
def Part.deferQueues (s : Part) (a : Nat) (l : List Nat) : Part := l.foldl (fun s pr => s.deferQueue a pr) s

/-- R84: the priorities above the cutoff of an area, most urgent first. -/
def Part.aboveCutoff (s : Part) (a : Nat) : List Nat := [1, 2, 3, 4].filter fun pr => (s.areaS a).cutoff < pr

theorem Part.mem_aboveCutoff (s : Part) (a k : Nat) (hk : k ∈ numbers 4) :
    k ∈ s.aboveCutoff a ↔ (s.areaS a).cutoff < k := by
  have hall : k ∈ [1, 2, 3, 4] := hk
  simp [Part.aboveCutoff, List.mem_filter, hall]

theorem enterFlood_eq (s : Part) (a : Nat) :
    s.enterFlood a = (s.modArea a fun x => { x with flood := .flood }).deferQueues a (s.aboveCutoff a) := rfl

theorem deferQueues_otherArea (s : Part) (a b : Nat) (l : List Nat) (ha : a ∈ numbers 16) (h : b ≠ a) :
    (s.deferQueues a l).area b = s.area b := by
  induction l generalizing s with
  | nil => rfl
  | cons pr l ih => exact (ih _).trans ((deferQueue_area s a pr b ha).trans (if_neg (Ne.symm h)))

theorem deferQueues_rest (s : Part) (a : Nat) (l : List Nat) :
    s.deferQueues a l =
      { s with points := (s.deferQueues a l).points, areas := (s.deferQueues a l).areas } := by
  induction l generalizing s with
  | nil => rfl
  | cons pr l ih =>
    exact (ih (s.deferQueue a pr)).trans (congrArg
      (fun x : Part =>
        { x with
          points := ((s.deferQueue a pr).deferQueues a l).points
          areas := ((s.deferQueue a pr).deferQueues a l).areas }) (deferQueue_rest s a pr))

/-- R84: each pending queue named has moved whole to the tail of the deferred queue of its priority. -/
theorem deferQueues_queues (s : Part) (a k : Nat) (l : List Nat) (ha : a ∈ numbers 16) (hk : k ∈ numbers 4) :
    getAt ((s.deferQueues a l).area a).pend k = (if k ∈ l then [] else getAt (s.area a).pend k)
    ∧ getAt ((s.deferQueues a l).area a).defer k =
        getAt (s.area a).defer k ++ (if k ∈ l then getAt (s.area a).pend k else []) := by
  obtain ⟨h1, h2⟩ := (mem_numbers k).1 hk
  induction l generalizing s with
  | nil => exact ⟨rfl, (List.append_nil _).symm⟩
  | cons pr l ih =>
    obtain ⟨hpend, hdefer⟩ := ih (s.deferQueue a pr)
    have harea := deferQueue_area s a pr a ha
    rw [if_pos rfl] at harea
    rw [harea] at hpend hdefer
    refine ⟨hpend.trans ?_, hdefer.trans ?_⟩
    · by_cases hp : pr = k
      · subst hp; simp [h1, h2]
      · simp [hp, Ne.symm hp]
    · by_cases hp : pr = k
      · subst hp; simp [h1, h2]
      · simp [hp, Ne.symm hp]

/-- R84: the points of the queues named are DEFERRED. -/
theorem deferQueues_placement (s : Part) (a q : Nat) (l : List Nat) (ha : a ∈ numbers 16) (hl : ∀ k ∈ l, k ∈ numbers 4)
    (hq : q ∈ numbers 1024) :
    ((s.deferQueues a l).point q).placement =
      if ∃ k ∈ l, q ∈ getAt (s.area a).pend k then .deferred else (s.point q).placement := by
  induction l generalizing s with
  | nil => simp [Part.deferQueues]
  | cons pr l ih =>
    have hpr := (mem_numbers pr).1 (hl pr (List.mem_cons_self ..))
    have harea := deferQueue_area s a pr a ha
    rw [if_pos rfl] at harea
    have hpend : ∀ k ∈ l, q ∈ getAt ((s.deferQueue a pr).area a).pend k ↔ pr ≠ k ∧ q ∈ getAt (s.area a).pend k := by
      intro k _
      rw [harea]
      by_cases hk : pr = k
      · subst hk; simp [hpr]
      · simp [hk]
    refine (ih (s.deferQueue a pr) fun k hk => hl k (List.mem_cons_of_mem _ hk)).trans ?_
    rw [deferQueue_placement s a pr q hq]
    by_cases hin : q ∈ getAt (s.area a).pend pr
    · simp [hin]
    · have hrest : (∃ k ∈ l, q ∈ getAt ((s.deferQueue a pr).area a).pend k) ↔
          ∃ k ∈ pr :: l, q ∈ getAt (s.area a).pend k := by
        constructor
        · rintro ⟨k, hk, hm⟩
          exact ⟨k, List.mem_cons_of_mem _ hk, ((hpend k hk).1 hm).2⟩
        · rintro ⟨k, hk, hm⟩
          rcases List.mem_cons.1 hk with rfl | hk
          · exact absurd hm hin
          · exact ⟨k, hk, (hpend k hk).2 ⟨fun h => hin (h ▸ hm), hm⟩⟩
      rw [if_neg hin]
      exact if_congr hrest rfl rfl

/-! ### The board of a flood entry -/

/-- R84: a flood entry changes points and areas alone. -/
theorem enterFlood_rest (s : Part) (a : Nat) :
    s.enterFlood a = { s with points := (s.enterFlood a).points, areas := (s.enterFlood a).areas } :=
  deferQueues_rest ..

theorem enterFlood_otherArea (s : Part) (a b : Nat) (ha : a ∈ numbers 16) (h : b ≠ a) :
    (s.enterFlood a).area b = s.area b := by
  rw [enterFlood_eq, deferQueues_otherArea _ a b _ ha h, Part.modArea_area, if_neg (fun hab => h hab.1.symm)]

/-- A change of the flood state leaves the queues alone. -/
theorem Part.modFlood_pend (s : Part) (a b : Nat) (x : FloodState) :
    ((s.modArea a fun y => { y with flood := x }).area b).pend = (s.area b).pend :=
  getAt_modAt_keeps s.areas a b _ Area.pend fun _ => rfl

theorem Part.modFlood_defer (s : Part) (a b : Nat) (x : FloodState) :
    ((s.modArea a fun y => { y with flood := x }).area b).defer = (s.area b).defer :=
  getAt_modAt_keeps s.areas a b _ Area.defer fun _ => rfl

/-- R84: each pending queue above the cutoff has moved whole to the tail of its deferred queue. -/
theorem enterFlood_queues (s : Part) (a k : Nat) (ha : a ∈ numbers 16) (hk : k ∈ numbers 4) :
    getAt ((s.enterFlood a).area a).pend k = (if (s.areaS a).cutoff < k then [] else getAt (s.area a).pend k)
    ∧ getAt ((s.enterFlood a).area a).defer k =
        getAt (s.area a).defer k ++ (if (s.areaS a).cutoff < k then getAt (s.area a).pend k else []) := by
  have h := deferQueues_queues (s.modArea a fun x => { x with flood := .flood }) a k (s.aboveCutoff a) ha hk
  simpa only [← enterFlood_eq, s.mem_aboveCutoff a k hk, Part.modFlood_pend, Part.modFlood_defer] using h

/-- R84: the points of the pending queues above the cutoff are DEFERRED. -/
theorem enterFlood_placement (s : Part) (a q : Nat) (ha : a ∈ numbers 16) (hq : q ∈ numbers 1024) :
    ((s.enterFlood a).point q).placement =
      if ∃ k ∈ s.aboveCutoff a, q ∈ getAt (s.area a).pend k then .deferred else (s.point q).placement := by
  have h := deferQueues_placement (s.modArea a fun x => { x with flood := .flood }) a q (s.aboveCutoff a) ha
    (fun k hk => List.mem_of_mem_filter hk) hq
  simpa only [← enterFlood_eq, Part.modFlood_pend, Part.modArea_point_other] using h

/-- R84: with every point in its place, a flood entry defers of the QUEUED points of the area those above the cutoff. -/
theorem enterFlood_placement_inPlace {s : Part} {p : Nat} (hs : s.PointsInPlace) (hp : s.InPlant p) :
    ((s.enterFlood (s.pointS p).area).point p).placement =
      if (s.point p).placement = .queued ∧ (s.areaS (s.pointS p).area).cutoff < (s.pointS p).priority then .deferred
      else (s.point p).placement := by
  obtain ⟨_, hpoints, _, hqueues, _⟩ := hs
  rw [enterFlood_placement s _ p hp.area_mem hp.point_mem]
  refine if_congr ⟨?_, ?_⟩ rfl rfl
  · rintro ⟨k, hk, hm⟩
    have hk4 : k ∈ numbers 4 := List.mem_of_mem_filter hk
    obtain ⟨_, _, hpend, _⟩ := hqueues _ hp.area_mem k hk4
    obtain ⟨_, _, _, hprio, hplace⟩ := hpend p hm
    exact ⟨hplace, hprio ▸ (s.mem_aboveCutoff _ k hk4).1 hk⟩
  · rintro ⟨hplace, hcut⟩
    obtain ⟨_, _, _, hin, _⟩ := hpoints p hp.point_mem
    exact ⟨_, (s.mem_aboveCutoff _ _ hp.priority_mem).2 hcut, hin hplace⟩

/-! ### The same board -/

theorem Part.SameBoard.refl (s : Part) : s.SameBoard s :=
  ⟨fun _ _ => rfl, fun _ _ => ⟨rfl, rfl, rfl⟩, fun _ _ => ⟨rfl, rfl, rfl⟩⟩

theorem Part.SameBoard.trans {s t u : Part} (h : s.SameBoard t) (k : t.SameBoard u) : s.SameBoard u := by
  obtain ⟨hp, ha, hd⟩ := h
  obtain ⟨kp, ka, kd⟩ := k
  refine ⟨fun q hq => (kp q hq).trans (hp q hq), fun a h => ?_, fun d h => ?_⟩
  · obtain ⟨h1, h2, h3⟩ := ha a h
    obtain ⟨k1, k2, k3⟩ := ka a h
    exact ⟨k1.trans h1, k2.trans h2, k3.trans h3⟩
  · obtain ⟨h1, h2, h3⟩ := hd d h
    obtain ⟨k1, k2, k3⟩ := kd d h
    exact ⟨k1.trans h1, k2.trans h2, k3.trans h3⟩

/-- A change of an area's other fields leaves the board as it is. -/
theorem Part.SameBoard.modArea (s : Part) (a : Nat) (f : Area → Area)
    (hf : ∀ x, (f x).pend = x.pend ∧ (f x).defer = x.defer ∧ (f x).counts.deferred = x.counts.deferred) :
    s.SameBoard (s.modArea a f) :=
  ⟨fun _ _ => rfl,
    fun b _ => ⟨getAt_modAt_keeps s.areas a b f Area.pend fun x => (hf x).1,
      getAt_modAt_keeps s.areas a b f Area.defer fun x => (hf x).2.1,
      getAt_modAt_keeps s.areas a b f (·.counts.deferred) fun x => (hf x).2.2⟩,
    fun _ _ => ⟨rfl, rfl, rfl⟩⟩

theorem Part.SameBoard.symm {s t : Part} (h : s.SameBoard t) : t.SameBoard s := by
  obtain ⟨hp, ha, hd⟩ := h
  refine ⟨fun q hq => (hp q hq).symm, fun a h => ?_, fun d h => ?_⟩
  · obtain ⟨h1, h2, h3⟩ := ha a h
    exact ⟨h1.symm, h2.symm, h3.symm⟩
  · obtain ⟨h1, h2, h3⟩ := hd d h
    exact ⟨h1.symm, h2.symm, h3.symm⟩

/-- Deferring a queue does the same to the same boards. -/
theorem Part.SameBoard.deferQueue {s t : Part} (h : s.SameBoard t) (a pr : Nat) (ha : a ∈ numbers 16) :
    (s.deferQueue a pr).SameBoard (t.deferQueue a pr) := by
  obtain ⟨hpoints, hareas, hdesks⟩ := h
  obtain ⟨hpend, _, _⟩ := hareas a ha
  refine ⟨fun q hq => ?_, fun b hb => ?_, fun d hd => ?_⟩
  · rw [deferQueue_placement _ _ _ _ hq, deferQueue_placement _ _ _ _ hq, hpend, hpoints q hq]
  · obtain ⟨h1, h2, h3⟩ := hareas b hb
    rw [deferQueue_area _ _ _ _ ha, deferQueue_area _ _ _ _ ha]
    by_cases hab : a = b
    · simp only [if_pos hab, h1, h2, h3, hpend, and_self]
    · simp only [if_neg hab, h1, h2, h3, and_self]
  · rw [deferQueue_desk, deferQueue_desk]
    exact hdesks d hd

theorem Part.SameBoard.deferQueues {s t : Part} (h : s.SameBoard t) (a : Nat) (l : List Nat) (ha : a ∈ numbers 16) :
    (s.deferQueues a l).SameBoard (t.deferQueues a l) := by
  induction l generalizing s t with
  | nil => exact h
  | cons pr l ih => exact ih (h.deferQueue a pr ha)

/-- R84: a flood entry does the same to the same boards, with the same cutoff in force. -/
theorem Part.SameBoard.enterFlood {s t : Part} (h : s.SameBoard t) (a : Nat) (ha : a ∈ numbers 16) (hlive : t.live = s.live) :
    (s.enterFlood a).SameBoard (t.enterFlood a) := by
  have hcut : t.aboveCutoff a = s.aboveCutoff a := by rw [Part.aboveCutoff, Part.areaS, hlive]; rfl
  rw [enterFlood_eq, enterFlood_eq, hcut]
  have hflood : ∀ u : Part, u.SameBoard (u.modArea a fun x => { x with flood := .flood }) := fun u =>
    Part.SameBoard.modArea u a _ fun _ => ⟨rfl, rfl, rfl⟩
  exact Part.SameBoard.deferQueues ((hflood s).symm.trans (h.trans (hflood t))) a _ ha

end Sys2Proof.Machine
end

section
/-! The point's change in a condition event outside NORMAL (R44 to R46, R81), state by state. -/

namespace Sys2Proof.Machine

/-! ### A change of state (R2, R9) -/

theorem changeState_point {s : Part} {p : Nat} (hp : s.InPlant p) (st : PointState) (q : Nat) :
    (s.changeState p st).point q =
      if p = q then { s.point q with state := st, lastChange := s.now } else s.point q :=
  (s.modPoint_point p q _).trans (by simp [(mem_numbers p).1 hp.point_mem])

theorem changeState_area {s : Part} {p : Nat} (hp : s.InPlant p) (st : PointState) (b : Nat) :
    (s.changeState p st).area b =
      if (s.pointS p).area = b then
        { s.area b with counts := ((s.area b).counts.dec (s.point p).state).inc st }
      else s.area b :=
  (Part.modArea_area _ _ b _).trans (by simp [(mem_numbers _).1 hp.area_mem])

/-! ### Changes that move nothing: UNACK and ACKED -/

/-- The change of a condition event made `x` of point `p` and `c` of the counts of its area, and changed no other point and
no other area. -/
structure StillChange (s u : Part) (p : Nat) (x : Point) (c : Counts) : Prop where
  point : u.point p = x
  otherPoints : ∀ q, q ≠ p → u.point q = s.point q
  area : u.area (s.pointS p).area = { s.area (s.pointS p).area with counts := c }
  otherAreas : ∀ b, b ≠ (s.pointS p).area → u.area b = s.area b

theorem StillChange.entered {s u : Part} {p : Nat} {x : Point} {c : Counts} (h : StillChange s u p x c) :
    s.enteredBy u p = false := by
  rw [Part.enteredBy, h.area]
  simp

theorem StillChange.conditionChange {s u : Part} {p : Nat} {x : Point} {c : Counts} (h : StillChange s u p x c)
    (rest : u = { s with points := u.points, areas := u.areas }) : ConditionChange s u p where
  rest := rest
  generation := by rw [h.area]
  session := by rw [h.area]
  load := by rw [h.entered]; exact fun h => absurd h Bool.false_ne_true

/-- Points and areas do not depend on the frame that the request left in the input queue. -/
theorem StillChange.ofTaken {s u : Part} {p : Nat} {x : Point} {c : Counts} (h : StillChange s.taken u p x c) :
    StillChange s u p x c := ⟨h.point, h.otherPoints, h.area, h.otherAreas⟩

/-- R44: a clear condition for a point in UNACK. -/
theorem unackChange {s : Part} {p : Nat} (hp : s.InPlant p) (h : (s.point p).state = .unack) :
    StillChange s (s.conditionChange p) p
      { s.point p with state := .rtnUnack, shadow := false, view := (s.point p).view + 1, lastChange := s.now }
      { (s.area (s.pointS p).area).counts with unack := (s.area (s.pointS p).area).counts.unack - 1 + 1 } := by
  have heq : s.conditionChange p =
      (s.changeState p .rtnUnack).modPoint p fun x => { x with shadow := false, view := x.view + 1 } := by
    simp only [Part.conditionChange, h]
  rw [heq]
  constructor
  case point => simp [Part.modPoint_point, changeState_point hp, (mem_numbers p).1 hp.point_mem]
  case otherPoints => exact fun q hq => by simp [Part.modPoint_point, changeState_point hp, hq.symm]
  case area => rw [Part.modPoint_area_other, changeState_area hp, if_pos rfl, h]; rfl
  case otherAreas => exact fun b hb => by rw [Part.modPoint_area_other, changeState_area hp, if_neg hb.symm]

theorem unackChange_conditionChange {s : Part} {p : Nat} (hp : s.InPlant p) (h : (s.point p).state = .unack) :
    ConditionChange s (s.conditionChange p) p :=
  (unackChange hp h).conditionChange (by simp only [Part.conditionChange, h]; rfl)

/-- R45: a clear condition for a point in ACKED. -/
theorem ackedChange {s : Part} {p : Nat} (hp : s.InPlant p) (h : (s.point p).state = .acked) :
    StillChange s (s.conditionChange p) p
      { s.point p with
        state := .normal, shadow := false, occurrences := 0, firstActive := none, lastChange := s.now }
      { (s.area (s.pointS p).area).counts with acked := (s.area (s.pointS p).area).counts.acked - 1 } := by
  have heq : s.conditionChange p = (s.modPoint p fun x => { x with shadow := false }).enterNormal p := by
    simp only [Part.conditionChange, h]
  have hst : ((s.modPoint p fun x => { x with shadow := false }).point p).state = .acked :=
    (getAt_modAt_keeps s.points p p (fun x => { x with shadow := false }) Point.state fun _ => rfl).trans h
  have hpoint := changeState_point (s := s.modPoint p fun x => { x with shadow := false }) hp .normal
  have harea := changeState_area (s := s.modPoint p fun x => { x with shadow := false }) hp .normal
  rw [heq, Part.enterNormal]
  constructor
  case point => simp [Part.modPoint_point, hpoint, (mem_numbers p).1 hp.point_mem]
  case otherPoints => exact fun q hq => by simp [Part.modPoint_point, hpoint, hq.symm]
  case area => rw [Part.modPoint_area_other, harea]; exact (if_pos rfl).trans (by rw [hst]; rfl)
  case otherAreas => exact fun b hb => by rw [Part.modPoint_area_other, harea]; exact if_neg hb.symm

theorem ackedChange_conditionChange {s : Part} {p : Nat} (hp : s.InPlant p) (h : (s.point p).state = .acked) :
    ConditionChange s (s.conditionChange p) p :=
  (ackedChange hp h).conditionChange (by simp only [Part.conditionChange, h]; rfl)

/-! ### The contribution to the load index (R81) -/

/-- R81: the load index of the area of point `p` after its contribution. -/
def Part.loaded (s : Part) (p : Nat) : Part :=
  s.modArea (s.pointS p).area fun x => { x with load := min 65535 (x.load + s.contribution (s.pointS p).priority) }

theorem loaded_area {s : Part} {p : Nat} (hp : s.InPlant p) (b : Nat) :
    (s.loaded p).area b =
      if (s.pointS p).area = b then { s.area b with load := s.loadAfter b (s.pointS p).priority } else s.area b :=
  (s.modArea_area _ b _).trans (by simp [(mem_numbers _).1 hp.area_mem]; rfl)

theorem contribute_eq {s : Part} {p : Nat} (hp : s.InPlant p) :
    s.contribute p = if s.floods p then (s.loaded p).enterFlood (s.pointS p).area else s.loaded p := by
  have harea := loaded_area hp (s.pointS p).area
  rw [if_pos rfl] at harea
  show (if ((s.loaded p).area (s.pointS p).area).flood ≠ .flood
      ∧ (s.areaS (s.pointS p).area).high ≤ ((s.loaded p).area (s.pointS p).area).load then _ else _) = _
  rw [harea]
  exact if_congr (by simp [Part.floods]) rfl rfl

/-- R81, R84: the contribution changes the area's load index, its flood state where that enters FLOOD, and with it the places of
points. -/
theorem contribute_places {s : Part} {p : Nat} (hp : s.InPlant p) :
    PlacesOnly (if s.floods p then (s.loaded p).modArea (s.pointS p).area fun x => { x with flood := .flood }
      else s.loaded p) (s.contribute p) := by
  rw [contribute_eq hp]
  cases s.floods p with
  | true => exact enterFlood_places ..
  | false => exact .refl _

theorem contribute_point {s : Part} {p : Nat} (hp : s.InPlant p) (q : Nat) :
    (s.contribute p).point q = { s.point q with placement := ((s.contribute p).point q).placement } := by
  refine ((contribute_places hp).point q).trans ?_
  cases s.floods p <;> rfl

theorem contribute_area {s : Part} {p : Nat} (hp : s.InPlant p) :
    (s.contribute p).area (s.pointS p).area =
      { s.area (s.pointS p).area with
        load := s.loadAfter (s.pointS p).area (s.pointS p).priority
        flood := if s.floods p then .flood else (s.area (s.pointS p).area).flood
        counts :=
          { (s.area (s.pointS p).area).counts with
            deferred := ((s.contribute p).area (s.pointS p).area).counts.deferred }
        pend := ((s.contribute p).area (s.pointS p).area).pend
        defer := ((s.contribute p).area (s.pointS p).area).defer } := by
  refine ((contribute_places hp).area _).trans ?_
  have harea := loaded_area hp (s.pointS p).area
  rw [if_pos rfl] at harea
  cases s.floods p with
  | true => simp [Part.modArea_area, (mem_numbers _).1 hp.area_mem, harea]
  | false => simp [harea]

theorem contribute_otherArea {s : Part} {p : Nat} (hp : s.InPlant p) {b : Nat} (hb : b ≠ (s.pointS p).area) :
    (s.contribute p).area b = s.area b := by
  have hother := loaded_area hp b
  rw [if_neg hb.symm] at hother
  rw [contribute_eq hp]
  cases s.floods p with
  | true => exact (enterFlood_otherArea (s.loaded p) _ b hp.area_mem hb).trans hother
  | false => exact hother

/-- R81: a contribution changes points and areas alone. -/
theorem contribute_rest {s : Part} {p : Nat} (hp : s.InPlant p) :
    s.contribute p = { s with points := (s.contribute p).points, areas := (s.contribute p).areas } := by
  rw [contribute_eq hp]
  cases s.floods p with
  | true => exact enterFlood_rest (s.loaded p) _
  | false => rfl

/-- R84: the board after a contribution is that of the flood entry, where there is one. -/
theorem contribute_board {s : Part} {p : Nat} (hp : s.InPlant p) :
    (if s.floods p then s.enterFlood (s.pointS p).area else s).SameBoard (s.contribute p) := by
  have hload : s.SameBoard (s.loaded p) := .modArea s _ _ fun _ => ⟨rfl, rfl, rfl⟩
  rw [contribute_eq hp]
  cases s.floods p with
  | true => exact hload.enterFlood _ hp.area_mem rfl
  | false => exact hload

/-! ### RTN_UNACK: an active condition (R46) -/

/-- R46: point `p` enters UNACK again, before its contribution to the load index. -/
def Part.raiseAgain (s : Part) (p : Nat) : Part :=
  (s.changeState p .unack).modPoint p fun x =>
    { x with shadow := true, view := x.view + 1, occurrences := min 255 (x.occurrences + 1) }

theorem conditionChange_rtnUnack {s : Part} {p : Nat} (h : (s.point p).state = .rtnUnack) :
    s.conditionChange p = (s.raiseAgain p).contribute p := by
  simp only [Part.conditionChange, h]
  rfl

theorem raiseAgain_pointS (s : Part) (p q : Nat) : (s.raiseAgain p).pointS q = s.pointS q := rfl

theorem raiseAgain_point {s : Part} {p : Nat} (hp : s.InPlant p) (q : Nat) :
    (s.raiseAgain p).point q =
      if p = q then
        { s.point q with
          state := .unack, shadow := true, view := (s.point q).view + 1
          occurrences := min 255 ((s.point q).occurrences + 1), lastChange := s.now }
      else s.point q := by
  rw [Part.raiseAgain, Part.modPoint_point, changeState_point hp]
  by_cases hq : p = q
  · simp [← hq, (mem_numbers p).1 hp.point_mem]
  · simp [hq]

theorem raiseAgain_area {s : Part} {p : Nat} (hp : s.InPlant p) (h : (s.point p).state = .rtnUnack) (b : Nat) :
    (s.raiseAgain p).area b =
      if (s.pointS p).area = b then
        { s.area b with counts := { (s.area b).counts with unack := (s.area b).counts.unack - 1 + 1 } }
      else s.area b := by
  rw [Part.raiseAgain, Part.modPoint_area_other, changeState_area hp, h]
  rfl

theorem raiseAgain_loadAfter {s : Part} {p : Nat} (hp : s.InPlant p) (h : (s.point p).state = .rtnUnack) :
    (s.raiseAgain p).loadAfter (s.pointS p).area (s.pointS p).priority =
      s.loadAfter (s.pointS p).area (s.pointS p).priority := by
  unfold Part.loadAfter
  rw [raiseAgain_area hp h, if_pos rfl]
  rfl

theorem raiseAgain_floods {s : Part} {p : Nat} (hp : s.InPlant p) (h : (s.point p).state = .rtnUnack) :
    (s.raiseAgain p).floods p = s.floods p := by
  have hload := raiseAgain_loadAfter hp h
  have harea := raiseAgain_area hp h (s.pointS p).area
  rw [if_pos rfl] at harea
  show (((s.raiseAgain p).area (s.pointS p).area).flood != .flood
    && decide ((s.areaS (s.pointS p).area).high
        ≤ (s.raiseAgain p).loadAfter (s.pointS p).area (s.pointS p).priority)) = _
  rw [hload, harea]
  rfl

theorem raiseAgain_board {s : Part} {p : Nat} (hp : s.InPlant p) (h : (s.point p).state = .rtnUnack) :
    s.SameBoard (s.raiseAgain p) := by
  refine ⟨fun q _ => ?_, fun b _ => ?_, fun d _ => ⟨rfl, rfl, rfl⟩⟩
  · rw [raiseAgain_point hp]
    split <;> rfl
  · rw [raiseAgain_area hp h]
    split <;> exact ⟨rfl, rfl, rfl⟩

/-- What the change of an active condition makes of a part whose point `p` is in RTN_UNACK: the point, its area, the places of
other points, and whether it entered FLOOD. -/
structure RaisedChange (s u : Part) (p : Nat) : Prop where
  point : u.point p =
    { s.point p with
      state := .unack, shadow := true, view := (s.point p).view + 1
      occurrences := min 255 ((s.point p).occurrences + 1), lastChange := s.now
      placement := (u.point p).placement }
  otherPoints : ∀ q, q ≠ p → u.point q = { s.point q with placement := (u.point q).placement }
  area : u.area (s.pointS p).area =
    { s.area (s.pointS p).area with
      load := s.loadAfter (s.pointS p).area (s.pointS p).priority
      flood := if s.floods p then .flood else (s.area (s.pointS p).area).flood
      counts :=
        { (s.area (s.pointS p).area).counts with
          unack := (s.area (s.pointS p).area).counts.unack - 1 + 1
          deferred := (u.area (s.pointS p).area).counts.deferred }
      pend := (u.area (s.pointS p).area).pend
      defer := (u.area (s.pointS p).area).defer }
  otherAreas : ∀ b, b ≠ (s.pointS p).area → u.area b = s.area b
  desks : u.desks = s.desks
  board : (if s.floods p then s.enterFlood (s.pointS p).area else s).SameBoard u

theorem rtnUnackChange {s : Part} {p : Nat} (hp : s.InPlant p) (h : (s.point p).state = .rtnUnack) :
    RaisedChange s (s.conditionChange p) p := by
  have hpoint := contribute_point (s := s.raiseAgain p) hp
  have hfloods := raiseAgain_floods hp h
  rw [conditionChange_rtnUnack h]
  constructor
  case point => exact (hpoint p).trans (by rw [raiseAgain_point hp, if_pos rfl])
  case otherPoints => exact fun q hq => (hpoint q).trans (by rw [raiseAgain_point hp, if_neg hq.symm])
  case area =>
    have harea := raiseAgain_area hp h (s.pointS p).area
    rw [if_pos rfl] at harea
    refine (contribute_area (s := s.raiseAgain p) hp).trans ?_
    rw [raiseAgain_pointS, hfloods, raiseAgain_loadAfter hp h, harea]
  case otherAreas =>
    intro b hb
    rw [contribute_otherArea (s := s.raiseAgain p) hp hb, raiseAgain_area hp h, if_neg hb.symm]
  case desks => rw [contribute_rest (s := s.raiseAgain p) hp]; rfl
  case board =>
    have hraise := raiseAgain_board hp h
    have hboard := contribute_board (s := s.raiseAgain p) hp
    rw [hfloods] at hboard
    refine Part.SameBoard.trans ?_ hboard
    cases s.floods p with
    | true => exact hraise.enterFlood _ hp.area_mem rfl
    | false => exact hraise

theorem RaisedChange.entered {s u : Part} {p : Nat} (h : RaisedChange s u p) : s.enteredBy u p = s.floods p := by
  rw [Part.enteredBy, h.area]
  cases hf : s.floods p with
  | true =>
    obtain ⟨hcalm, _⟩ := Bool.and_eq_true_iff.1 hf
    simp [hcalm]
  | false => simp

/-- Points, areas and desks do not depend on the frame that the request left in the input queue. -/
theorem RaisedChange.ofTaken {s u : Part} {p : Nat} (hp : s.InPlant p) (h : RaisedChange s.taken u p) :
    RaisedChange s u p := by
  have htaken : s.SameBoard s.taken := Part.SameBoard.refl s
  refine ⟨h.point, h.otherPoints, h.area, h.otherAreas, h.desks, Part.SameBoard.trans ?_ h.board⟩
  show (if s.floods p then _ else _ : Part).SameBoard (if s.floods p then _ else _ : Part)
  cases s.floods p with
  | true => exact htaken.enterFlood _ hp.area_mem rfl
  | false => exact htaken

theorem rtnUnackChange_conditionChange {s : Part} {p : Nat} (hp : s.InPlant p) (h : (s.point p).state = .rtnUnack) :
    ConditionChange s (s.conditionChange p) p where
  rest := by
    rw [conditionChange_rtnUnack h]
    exact contribute_rest (s := s.raiseAgain p) hp
  generation := by rw [(rtnUnackChange hp h).area]
  session := by rw [(rtnUnackChange hp h).area]
  load := fun _ => by rw [(rtnUnackChange hp h).area]

end Sys2Proof.Machine
end

section
/-! The statements on CONDITIONS requests of one item for a point in UNACK, ACKED or RTN_UNACK, and on REPEAT (R44 to R46, R48). -/

namespace Sys2Proof.Machine

/-! ### From the event to the statements -/

/-- R12, R53, R54: a condition event that moves nothing, as the statements say it; R12 alone makes it significant. -/
theorem ConditionDone.still {s u t : Part} {p value : Nat} {x : Point} {c : Counts} (h : ConditionDone s u t p value)
    (hu : StillChange s u p x c) (hst : x.state ≠ (s.point p).state) :
    let sig := decide ((s.pointS p).priority ≤ (s.areaS (s.pointS p).area).review)
    t.point p = x
    ∧ t.area (s.pointS p).area =
        { s.area (s.pointS p).area with
          generation :=
            if sig then (s.area (s.pointS p).area).generation + 1 else (s.area (s.pointS p).area).generation
          counts := c }
    ∧ s.Wrote t (s.conditionRecords p value sig false)
    ∧ s.Noticed t (s.pointS p).area sig ∧ t.shelf = s.shelf ∧ s.StillFrame t p (s.pointS p).area
    ∧ t.Told (pointEntry p) := by
  intro sig
  have hpoint : ∀ q, t.point q = u.point q := fun q => congrArg (getAt · q) h.points
  have hsig : s.significantBy u p = sig := by
    rw [Part.significantBy, hu.entered, hu.point, bne_iff_ne.2 hst, Bool.true_and, Bool.or_false]
    rfl
  have harea := h.area
  have hwrote := h.wrote
  have hnoticed := h.sessions
  rw [hsig] at harea hwrote hnoticed
  rw [hu.area] at harea
  rw [hu.entered] at hwrote
  have hothers : s.OthersKept t p (s.pointS p).area :=
    ⟨fun q _ hq => (hpoint q).trans (hu.otherPoints q hq), fun b _ hb => (h.others b hb).trans (hu.otherAreas b hb)⟩
  refine ⟨(hpoint p).trans hu.point, harea, hwrote, hnoticed, h.shelf, ⟨h.fixed, h.people, hothers, h.desks⟩, h.told ?_⟩
  rw [hu.point, pointReported, bne_iff_ne.2 hst.symm]
  rfl

/-- The board after a condition event that fills no desk is the one that the point's change left. -/
theorem ConditionDone.board {s u t : Part} {p value : Nat} (h : ConditionDone s u t p value) (hdesks : u.desks = s.desks) :
    u.SameBoard t := by
  refine ⟨fun q _ => congrArg (fun v => (getAt v q).placement) h.points, fun b _ => ?_, fun d hd => ?_⟩
  · by_cases hb : b = (s.pointS p).area
    · subst hb
      rw [h.area]
      exact ⟨rfl, rfl, rfl⟩
    · rw [h.others b hb]
      exact ⟨rfl, rfl, rfl⟩
  · obtain ⟨hdesk, _⟩ := h.desks d hd
    rw [hdesk, show u.desk d = s.desk d from congrArg (getAt · d) hdesks]
    exact ⟨rfl, rfl, rfl⟩

/-- R84: the queues of an area on the board that its flood entry left. -/
theorem floodedBoard_queues {s t : Part} {a : Nat} (ha : a ∈ numbers 16) (h : (s.enterFlood a).SameBoard t) :
    ∀ k ∈ numbers 4,
      getAt (t.area a).pend k = (if (s.areaS a).cutoff < k then [] else getAt (s.area a).pend k)
      ∧ getAt (t.area a).defer k =
          getAt (s.area a).defer k ++ (if (s.areaS a).cutoff < k then getAt (s.area a).pend k else []) := by
  intro k hk
  obtain ⟨_, hareas, _⟩ := h
  obtain ⟨hpend, hdefer, _⟩ := hareas a ha
  rw [hpend, hdefer]
  exact enterFlood_queues s a k ha hk

/-- R84: on the board that a flood entry left, what waited above the cutoff is DEFERRED. -/
theorem floodedBoard_deferred {s t : Part} {a : Nat} (ha : a ∈ numbers 16) (h : (s.enterFlood a).SameBoard t) :
    ∀ k ∈ numbers 4, (s.areaS a).cutoff < k → ∀ q ∈ getAt (s.area a).pend k, isPoint q = true →
      (t.point q).placement = .deferred := by
  intro k hk hcut q hq hnum
  obtain ⟨hpoints, _⟩ := h
  have hmem : q ∈ numbers 1024 := (mem_numbers q).2 (by simpa [isPoint] using hnum)
  rw [hpoints q hmem, enterFlood_placement s a q ha hmem, if_pos ⟨k, (s.mem_aboveCutoff a k hk).2 hcut, hq⟩]

/-- R46, R53, R81: the event of an active condition for a point in RTN_UNACK, as the statements say it. -/
theorem ConditionDone.raisedAgain {s u t : Part} {p : Nat} (hp : s.InPlant p) (hst : (s.point p).state = .rtnUnack)
    (h : ConditionDone s u t p 257) (hu : RaisedChange s u p) : s.RaisedAgain t p := by
  have hpoint : ∀ q, t.point q = u.point q := fun q => congrArg (getAt · q) h.points
  have hboard := hu.board.trans (h.board hu.desks)
  have hsig : s.significantBy u p =
      (decide ((s.pointS p).priority ≤ (s.areaS (s.pointS p).area).review) || s.floods p) := by
    rw [Part.significantBy, hu.entered, hu.point, hst]
    rfl
  have harea := h.area
  have hwrote := h.wrote
  have hnoticed := h.sessions
  rw [hsig] at harea hwrote hnoticed
  rw [hu.entered] at hwrote
  have hothers : s.OthersMoved t p (s.pointS p).area :=
    ⟨fun q _ hq => by rw [hpoint]; exact hu.otherPoints q hq,
      fun b _ hb => by rw [h.others b hb, hu.otherAreas b hb]⟩
  refine ⟨by rw [hpoint]; exact hu.point, by rw [harea, hu.area], fun hf => ?_, fun hf => ?_, fun hf hs => ?_, hboard,
    fun hf => ?_, hwrote, hnoticed, h.shelf,
    ⟨h.fixed, h.people, hothers, fun d hd => (h.desks d hd).moved, fun d hd _ => h.desks d hd⟩, h.told ?_⟩
  · rw [if_neg (by rw [hf]; exact Bool.false_ne_true)] at hboard
    obtain ⟨hplaces, hqueues, _⟩ := hboard
    exact ⟨hplaces p hp.point_mem, hqueues _ hp.area_mem⟩
  · rw [if_pos hf] at hboard
    exact floodedBoard_queues hp.area_mem hboard
  · rw [if_pos hf] at hboard
    obtain ⟨hplaces, _⟩ := hboard
    exact (hplaces p hp.point_mem).trans (enterFlood_placement_inPlace hs hp)
  · rw [if_pos hf] at hboard
    exact floodedBoard_deferred hp.area_mem hboard
  · rw [hu.point, pointReported, hst]
    rfl

/-- R9: an unack count that holds a point is the same after the point has left it and joined it again. -/
theorem Counts.unack_leave_join {c : Counts} (h : c.unack ≠ 0) : { c with unack := c.unack - 1 + 1 } = c := by
  rw [Nat.sub_add_cancel (Nat.pos_of_ne_zero h)]

/-! ### The statements -/

/-- Settles O14: R46 through `rtnUnackChange`. -/
theorem activeConditionRaisesAReturnedPointAgain : Obligations.ActiveConditionRaisesAReturnedPointAgain := by
  intro s tag body h hlen hp hst
  have hchange := (rtnUnackChange (s := s.taken) hp hst).ofTaken hp
  refine ⟨fun hc => ?_, fun hc => completes_conditions_repeated h hlen hp (active := false) hc ?_⟩
  · obtain ⟨t, hcomp, hlif, hdone⟩ := completes_conditions_event h hlen hp (active := true) hc (by rw [hst]; decide)
      (by rw [Part.conditionHeld, hst]; rfl) (rtnUnackChange_conditionChange hp hst)
    rw [hchange.point] at hdone
    exact ⟨t, hcomp, hlif, hdone.raisedAgain hp hst hchange⟩
  · rw [Part.conditionHeld, hst]
    rfl

/-- Settles O15: R44 through `unackChange`. -/
theorem clearConditionReturnsAnUnackPoint : Obligations.ClearConditionReturnsAnUnackPoint := by
  intro s tag body h hlen hp hst
  have hchange := (unackChange (s := s.taken) hp hst).ofTaken
  refine ⟨fun hc => ?_, fun hc => completes_conditions_repeated h hlen hp (active := true) hc ?_⟩
  · obtain ⟨t, hcomp, hlif, hdone⟩ := completes_conditions_event h hlen hp (active := false) hc (by rw [hst]; decide)
      (by rw [Part.conditionHeld, hst]) (unackChange_conditionChange hp hst)
    rw [hchange.point] at hdone
    have hcleared := hdone.still hchange (by rw [hst]; simp)
    refine ⟨t, hcomp, hlif, hcleared, fun hcount => ?_⟩
    obtain ⟨_, harea, _⟩ := hcleared
    rw [harea]
    exact Counts.unack_leave_join hcount
  · rw [Part.conditionHeld, hst]

/-- Settles O16: R45 through `ackedChange`. -/
theorem clearConditionEndsAnAckedPoint : Obligations.ClearConditionEndsAnAckedPoint := by
  intro s tag body h hlen hp hst
  have hchange := (ackedChange (s := s.taken) hp hst).ofTaken
  refine ⟨fun hc => ?_, fun hc => completes_conditions_repeated h hlen hp (active := true) hc ?_⟩
  · obtain ⟨t, hcomp, hlif, hdone⟩ := completes_conditions_event h hlen hp (active := false) hc (by rw [hst]; decide)
      (by rw [Part.conditionHeld, hst]) (ackedChange_conditionChange hp hst)
    rw [hchange.point] at hdone
    have hcleared := hdone.still hchange (by rw [hst]; simp)
    refine ⟨t, hcomp, hlif, hcleared, fun hplace => ?_⟩
    obtain ⟨hpoint, _⟩ := hcleared
    rw [hpoint]
    exact hplace
  · rw [Part.conditionHeld, hst]

/-- Settles O18: the reply names REPEAT for no item but one that leaves the part as it is (`conditionItem_repeated`). -/
theorem repeatedConditionChangesNothing : Obligations.RepeatedConditionChangesNothing := by
  intro s tag body t h hlen hcomp hlif
  rw [completes_conditions_iff h hlen] at hcomp
  have hrepeat : (s.taken.conditionItem (field16 body 0) (byteAt body 2)).2 = .repeated := by
    have hslot := congrArg (fun l : Lif => l.replySlot.map Reply.body) hlif
    rw [hcomp] at hslot
    refine ResultCode.byte_repeated ?_
    simpa [Part.reply, Part.answer] using hslot
  rw [hcomp, conditionItem_repeated hrepeat]
  rfl

end Sys2Proof.Machine
end

section
/-! How a request completes, given what its owning block answers. -/

namespace Sys2Proof.Machine

/-- R172: a request that is taken completes with what its owning block makes of the part, and the block's answer. -/
theorem completes_taken {c : Instr} {k : ReqKind} {f : Handler} {s : Part} {tag : Byte} {body : List Byte}
    (hexec : ∀ u, exec c u = onRequest k f u) (h : s.Takes k tag body) :
    Completes c s ((f body s.taken).1.reply tag (byteOf k.code) (f body s.taken).2) := by
  obtain ⟨hoffered, _⟩ := id h
  obtain ⟨hreset, _⟩ := id hoffered
  have hserve := (Part.serve_offered hoffered f).trans (by rw [Part.handle_taken h])
  exact fun q => (hexec _).trans (onPart_completes (f := fun u => u.serve k f) hreset hserve q)

/-- A request whose block leaves the part alone is answered, and nothing else happens. -/
theorem completes_unchanged {c : Instr} {k : ReqKind} {f : Handler} {s : Part} {tag : Byte} {body reply : List Byte}
    (hexec : ∀ u, exec c u = onRequest k f u) (h : s.Takes k tag body) (hf : f body s.taken = (s.taken, reply)) :
    Completes c s { s with lif := s.answer k tag reply } := by
  have hc := completes_taken hexec h
  rw [hf, Part.reply_rest, Part.reply_lif (s := s) k tag reply rfl] at hc
  exact hc

/-- An answer other than DENIED, NOT_YOUR_AREA and STALE_VIEW writes no record (spec 09). -/
theorem Part.refuse_unjournaled {r : ResultCode} (h : r.journaled = false) (s : Part) (d a p pr : Nat) :
    s.refuse d a p pr r = s := by
  simp [Part.refuse, h]

end Sys2Proof.Machine
end

section
/-! Events that change sessions, areas and the Record Store alone: what they leave, write and report at their end. -/

namespace Sys2Proof.Machine

/-- An entry of a table numbered from 1, as its list has it. -/
theorem toList_getElem?_pred {α : Type} [Inhabited α] {n : Nat} (v : Vector α n) {i : Nat} (hi : i ∈ numbers n) :
    v.toList[i - 1]? = some (getAt v i) := by
  obtain ⟨h1, h2⟩ := (mem_numbers i).1 hi
  rw [getAt_eq v i ⟨h1, h2⟩, List.getElem?_eq_getElem (by simp; omega)]
  simp

/-- R152: an event that changes a reported field of a session tells its SESSION report. -/
theorem closeEvent_tells_session {s t : Part} {n : Nat} (hn : n ∈ numbers 4)
    (h : sessionReported (s.session n) (t.session n) = true) : (closeEvent s [] t).Told (sessionEntry n) := by
  obtain ⟨h1, _⟩ := (mem_numbers n).1 hn
  have hsessions : t.refreshHorns.sessions = t.sessions := by rw [Part.refreshHorns_rest]
  have hm := mem_changedEntries .session [] sessionReported s.sessions.toList t.refreshHorns.sessions.toList (n - 1) _ _
    (toList_getElem?_pred s.sessions hn) (toList_getElem?_pred t.refreshHorns.sessions hn) (by rw [hsessions]; exact h)
  rw [Nat.sub_add_cancel h1] at hm
  refine closeEvent_told s [] t _ ?_
  unfold eventReports
  simp only [List.mem_append]
  exact .inl (.inl (.inr hm))

/-- What a handover event has made of the part before its end: sessions, areas and records; no report is queued yet. -/
structure HandoverChange (s u : Part) (l : List (Bool × W16 × RecordFields)) : Prop where
  rest : u = { s with areas := u.areas, sessions := u.sessions, rst := u.rst }
  recorded : s.Recorded u (s.records l)
  reports : u.rst.reports = s.rst.reports
  dropped : u.rst.dropped = s.rst.dropped

/-- What a handover event did, from `s` to `t`, where `u` is the part before the event's end. -/
structure HandoverDone (s u t : Part) (l : List (Bool × W16 × RecordFields)) : Prop where
  sessions : t.sessions = u.sessions
  areas : t.areas = u.areas
  wrote : s.Wrote t (s.records l)
  fixed : s.Fixed t
  people : s.PeopleKept t
  points : t.points = s.points
  shelf : t.shelf = s.shelf
  desks : ∀ d ∈ numbers 6, s.DeskKept t d
  told : ∀ n ∈ numbers 4, sessionReported (s.session n) (u.session n) = true → t.Told (sessionEntry n)

/-- One record after changes of areas and sessions alone. -/
theorem handoverChange_write {s u : Part} (rest : u = { s with areas := u.areas, sessions := u.sessions }) (sig : Bool)
    (f : RecordFields) : HandoverChange s (u.write sig f) [(sig, u.generationOf f.area, f)] := by
  have hnone : s.Recorded u (s.records []) := by
    rw [rest]
    exact Part.recorded_nothing rfl rfl rfl rfl rfl rfl rfl
  constructor
  case rest =>
    rw [Part.write_rest]
    exact congrArg (fun x : Part => { x with rst := (u.write sig f).rst }) rest
  case recorded => exact hnone.write (by rw [rest]; rfl) (by rw [rest]; rfl) sig f _ rfl
  case reports => rw [Part.write_rst, rest]
  case dropped => rw [Part.write_rst, rest]

/-- The end of a handover event. -/
theorem HandoverChange.close {s u : Part} {l : List (Bool × W16 × RecordFields)} (h : HandoverChange s u l) :
    HandoverDone s u (closeEvent s [] u) l := by
  have ht := closeEvent_rest s [] u
  have hlive : u.live = s.live := by rw [h.rest]
  have hsize : u.journalSize = s.journalSize := by rw [Part.journalSize, hlive, Part.journalSize]
  have henabled : u.rst.enabled = s.rst.enabled := by
    obtain ⟨_, _, _, henabled, _⟩ := h.recorded
    exact henabled
  constructor
  case sessions => rw [ht]
  case areas => rw [ht]
  case wrote =>
    refine ⟨?_, closeEvent_reported [] h.reports h.dropped henabled hsize⟩
    have hrec := h.recorded.append (closeEvent_recorded s [] u) hsize
    rwa [List.append_nil] at hrec
  case fixed => rw [ht, h.rest]; exact ⟨rfl, rfl, rfl, rfl, rfl⟩
  case people => rw [ht, h.rest]; exact ⟨rfl, rfl⟩
  case points => rw [ht, h.rest]
  case shelf => rw [ht, h.rest]
  case desks =>
    have hdesks : u.desks = s.desks := by rw [h.rest]
    exact fun d hd => closeEvent_deskKept [] hd (congrArg (getAt · d) hdesks)
  case told => exact fun n hn hchanged => closeEvent_tells_session hn hchanged

/-- A handover event leaves the Link Interface alone. -/
theorem HandoverChange.close_lif {s u : Part} {l : List (Bool × W16 × RecordFields)} (h : HandoverChange s u l) :
    (closeEvent s [] u).lif = s.lif := by
  rw [closeEvent_rest, h.rest]

/-- The taking of a request and its answer stand around a handover event. -/
theorem HandoverDone.answered {s u t : Part} {l : List (Bool × W16 × RecordFields)} (h : HandoverDone s.taken u t l)
    (tag kind : Byte) (body : List Byte) : HandoverDone s u (t.reply tag kind body) l where
  sessions := h.sessions
  areas := h.areas
  wrote :=
    have ⟨hrecorded, hreported⟩ := h.wrote
    ⟨hrecorded, (hreported.reply tag kind body).ofTaken⟩
  fixed := h.fixed
  people := h.people
  points := h.points
  shelf := h.shelf
  desks := h.desks
  told := h.told

/-- A request whose block is a handover event completes with it and the block's answer. -/
theorem completes_handover {c : Instr} {k : ReqKind} {f : Handler} {s u : Part} {tag : Byte} {body reply : List Byte}
    {l : List (Bool × W16 × RecordFields)} (hexec : ∀ v, exec c v = onRequest k f v) (h : s.Takes k tag body)
    (hf : f body s.taken = (closeEvent s.taken [] u, reply)) (hu : HandoverChange s.taken u l) :
    ∃ t : Part, Completes c s t ∧ t.lif = s.answer k tag reply ∧ HandoverDone s u t l := by
  have hc := completes_taken hexec h
  rw [hf] at hc
  exact ⟨_, hc, Part.reply_lif k tag reply hu.close_lif, hu.close.answered tag _ _⟩

/-- Every session after a change of session `n`. -/
theorem Part.modSession_becomes (s : Part) (n : Nat) (f : Session → Session) {m : Nat} (hm : m ∈ numbers 4) :
    (s.modSession n f).session m = if m = n then f (s.session n) else s.session m := by
  rw [Part.modSession_session]
  by_cases hmn : m = n
  · subst hmn
    rw [if_pos ⟨rfl, (mem_numbers m).1 hm⟩, if_pos rfl]
  · rw [if_neg fun ⟨hnm, _⟩ => hmn hnm.symm, if_neg hmn]

/-- A request whose event changes a reported field of session `n` and writes one record, as the statements say it. -/
theorem completes_sessionEvent {c : Instr} {k : ReqKind} {f : Handler} {s : Part} {tag : Byte} {body reply : List Byte}
    {n : Nat} {g : Session → Session} {r : RecordFields} (hexec : ∀ v, exec c v = onRequest k f v)
    (h : s.Takes k tag body) (hn : n ∈ numbers 4)
    (hf : f body s.taken = (closeEvent s.taken [] ((s.taken.modSession n g).write false r), reply))
    (hchanged : sessionReported (s.session n) (g (s.session n)) = true) :
    ∃ t : Part, Completes c s t ∧ t.lif = s.answer k tag reply
      ∧ s.SessionBecame t n (g (s.session n)) (s.records [(false, s.generationOf r.area, r)])
      ∧ t.Told (sessionEntry n) := by
  obtain ⟨t, hcomp, hlif, hdone⟩ :=
    completes_handover hexec h hf (handoverChange_write (s := s.taken) (u := s.taken.modSession n g) rfl false r)
  have hsessions : ∀ m ∈ numbers 4, (s.modSession n g).session m = if m = n then g (s.session n) else s.session m :=
    fun _ hm => s.modSession_becomes n g hm
  refine ⟨t, hcomp, hlif, ⟨fun m hm => (congrArg (getAt · m) hdone.sessions).trans (hsessions m hm), hdone.wrote,
    hdone.fixed, hdone.people, hdone.points, hdone.areas, hdone.shelf, hdone.desks⟩, hdone.told n hn ?_⟩
  rw [← (hsessions n hn).trans (if_pos rfl)] at hchanged
  exact hchanged

end Sys2Proof.Machine
end

section
/-! The checks of a handover request (R137) for a party of the session, and the review entry of an area. -/

namespace Sys2Proof.Machine

/-- R137: a party of a session that is not IDLE passes the common checks. -/
theorem Part.PartyAt.sessionCheck {s : Part} {d n : Nat} {q : Party} (h : s.PartyAt d n q) :
    s.sessionCheck d n q = none := by
  obtain ⟨hdesk, h1, h4, hsigned, hidle, hparty⟩ := h
  have hn : (decide (1 ≤ n) && decide (n ≤ Config.nSessions)) = true := by simpa using ⟨h1, h4⟩
  rw [Part.sessionCheck, hdesk, hn, if_neg (by decide), if_neg (by decide), if_neg hsigned, if_neg hidle,
    if_neg (not_not.2 hparty)]

theorem Part.PartyAt.session_mem {s : Part} {d n : Nat} {q : Party} (h : s.PartyAt d n q) : n ∈ numbers 4 := by
  obtain ⟨_, h1, h4, _⟩ := h
  exact (mem_numbers n).2 ⟨h1, h4⟩

/-- R133: the entry of an area that has exactly one is read. -/
theorem Part.EntryIs.entry {s : Part} {n a : Nat} {e : ReviewEntry} (h : s.EntryIs n a e) : (s.session n).entry a = e := by
  obtain ⟨_, hfilter⟩ := h
  rw [Session.entry, ← List.head?_filter, hfilter]
  rfl

theorem Part.EntryIs.area_pos {s : Part} {n a : Nat} {e : ReviewEntry} (h : s.EntryIs n a e) : a ≠ 0 := by
  obtain ⟨harea, _⟩ := h
  rintro rfl
  exact absurd harea (by decide)

theorem Part.EntryIs.mem {s : Part} {n a : Nat} {e : ReviewEntry} (h : s.EntryIs n a e) :
    e ∈ (s.session n).entries ∧ e.area = a := by
  obtain ⟨_, hfilter⟩ := h
  have hmem : e ∈ (s.session n).entries.filter fun x => x.area == a := by rw [hfilter]; exact List.mem_singleton_self e
  simpa using hmem

theorem Part.EntryIs.unique {s : Part} {n a : Nat} {e x : ReviewEntry} (h : s.EntryIs n a e)
    (hx : x ∈ (s.session n).entries) (ha : x.area = a) : x = e := by
  obtain ⟨_, hfilter⟩ := h
  have hmem : x ∈ (s.session n).entries.filter fun x => x.area == a := List.mem_filter.2 ⟨hx, by simpa using ha⟩
  rw [hfilter] at hmem
  exact List.mem_singleton.1 hmem

theorem Part.EntryIs.areas_contains {s : Part} {n a : Nat} {e : ReviewEntry} (h : s.EntryIs n a e) :
    (s.session n).areas.contains a = true := by
  obtain ⟨hmem, harea⟩ := h.mem
  exact List.contains_iff_mem.2 (List.mem_map.2 ⟨e, hmem, harea⟩)

/-- R137: the incoming party's request for an area of the session passes all its checks. -/
theorem Part.PartyAt.areaCheck {s : Part} {d n a : Nat} {e : ReviewEntry} (h : s.PartyAt d n .incoming)
    (he : s.EntryIs n a e) : s.areaCheck d n a = none := by
  obtain ⟨harea, _⟩ := id he
  rw [Part.areaCheck, h.sessionCheck]
  simp only [harea, he.areas_contains, Bool.not_true, Bool.or_false, Bool.false_eq_true, if_false]

/-- R133: a change of an area's only entry, written out. -/
theorem Part.EntryIs.modEntry {s : Part} {n a : Nat} {e : ReviewEntry} (h : s.EntryIs n a e)
    (f : ReviewEntry → ReviewEntry) :
    (s.session n).modEntry a f =
      { s.session n with entries := (s.session n).entries.map fun x => if x.area = a then f e else x } := by
  have hmap : ((s.session n).entries.map fun x => if x.area = a then f x else x) =
      (s.session n).entries.map fun x => if x.area = a then f e else x :=
    List.map_congr_left fun x hx => ite_congr rfl (fun ha => by rw [h.unique hx ha]) fun _ => rfl
  rw [Session.modEntry, hmap]

end Sys2Proof.Machine
end

section
/-! TAKE_UP (R138). -/

namespace Sys2Proof.Machine

theorem exec_takeUp (u : State) : exec .takeUp u = onRequest .takeUp takeUpHandler u := rfl

/-- R138: what TAKE_UP answers the incoming party. -/
theorem takeUpHandler_incoming {s : Part} {body : List Byte} (h : s.PartyAt (byteAt body 0) (byteAt body 1) .incoming) :
    takeUpHandler body s =
      if (s.session (byteAt body 1)).state = .offered then
        (s.takeUp (byteAt body 0) (byteAt body 1), 0 :: be16 s.live.plant.reviewTime)
      else (s, [ResultCode.repeated.byte]) := by
  unfold takeUpHandler Part.takeUpCheck
  simp only [h.sessionCheck]
  split_ifs with hoffered
  · rfl
  · simp only [Part.refuse_unjournaled (r := .repeated) rfl]
    rfl

/-- Settles O38: `takeUpHandler_incoming` gives the two answers. -/
theorem takeUpBeginsTheReview : Obligations.TakeUpBeginsTheReview := by
  intro s tag body h d n hparty
  have hanswer := takeUpHandler_incoming (s := s.taken) hparty
  refine ⟨fun hlater => ?_, fun hoffered => ?_⟩
  · have hnot : (s.session n).state ≠ .offered := by
      rcases hlater with hst | hst <;> rw [hst] <;> decide
    exact completes_unchanged exec_takeUp h (hanswer.trans (if_neg hnot))
  · refine completes_sessionEvent exec_takeUp h hparty.session_mem (hanswer.trans (if_pos hoffered)) ?_
    rw [sessionReported, hoffered]
    rfl

end Sys2Proof.Machine
end

section
/-! CONFIRM_AREA (R141). -/

namespace Sys2Proof.Machine

theorem exec_confirmArea (u : State) : exec .confirmArea u = onRequest .confirmArea confirmAreaHandler u := rfl

/-- R141: what CONFIRM_AREA answers the incoming party, by the entry `e` of the area. -/
theorem confirmAreaHandler_incoming {s : Part} {body : List Byte} {e : ReviewEntry}
    (h : s.PartyAt (byteAt body 0) (byteAt body 1) .incoming) (he : s.EntryIs (byteAt body 1) (byteAt body 2) e) :
    confirmAreaHandler body s =
      if (s.session (byteAt body 1)).state = .reviewing ∧ e.sweep = .swept then
        if word16 body 3 = e.snapGen then
          if e.snapGen = (s.area (byteAt body 2)).generation then
            (s.confirmArea (byteAt body 0) (byteAt body 1) (byteAt body 2) (word16 body 3), [0])
          else (s, ResultCode.staleReview.byte :: be16 (s.area (byteAt body 2)).generation.toNat)
        else (s, [ResultCode.badField.byte])
      else (s, [ResultCode.wrongState.byte]) := by
  have hcheck : s.confirmCheck (byteAt body 0) (byteAt body 1) (byteAt body 2) (word16 body 3) =
      if (s.session (byteAt body 1)).state = .reviewing ∧ e.sweep = .swept then
        if word16 body 3 = e.snapGen then
          if e.snapGen = (s.area (byteAt body 2)).generation then none else some .staleReview
        else some .badField
      else some .wrongState := by
    unfold Part.confirmCheck
    simp only [h.areaCheck he, he.entry, ite_and, ite_not, ne_eq]
  unfold confirmAreaHandler
  simp only [hcheck]
  split_ifs
  · rfl
  · rfl
  · simp only [Part.refuse_unjournaled (r := .badField) rfl]
    rfl
  · simp only [Part.refuse_unjournaled (r := .wrongState) rfl]
    rfl

theorem Session.readyIfAll_entries (x : Session) : x.readyIfAll.entries = x.entries := by
  unfold Session.readyIfAll
  split <;> rfl

/-- R141, R152: the confirmation of a SWEPT entry is reported. -/
theorem Part.EntryIs.confirm_reported {s : Part} {n a : Nat} {e : ReviewEntry} (he : s.EntryIs n a e)
    (hswept : e.sweep = .swept) (g : W16) :
    sessionReported (s.session n)
      ((s.session n).modEntry a fun x => { x with sweep := .confirmed, confGen := g }).readyIfAll = true := by
  obtain ⟨hmem, harea⟩ := he.mem
  have hentries : ((s.session n).entries.map fun x => (x.area, x.sweep, x.snapGen, x.snapSeq)) ≠
      ((s.session n).modEntry a fun x => { x with sweep := .confirmed, confGen := g }).readyIfAll.entries.map
        fun x => (x.area, x.sweep, x.snapGen, x.snapSeq) := by
    rw [Session.readyIfAll_entries, Session.modEntry, List.map_map]
    intro hsame
    have hentry := List.map_inj_left.1 hsame e hmem
    simp [harea, hswept] at hentry
  rw [sessionReported, bne_iff_ne.2 hentries, Bool.or_true]

/-- Settles O41: `confirmAreaHandler_incoming` gives the four answers. -/
theorem confirmAreaComparesGenerations : Obligations.ConfirmAreaComparesGenerations := by
  intro s tag body e h d n a g reviewed hparty hentry
  have hanswer := confirmAreaHandler_incoming (s := s.taken) hparty hentry
  refine ⟨fun hnot => ?wrongState, fun hrev hg => ?badField, fun hrev hg hgen => ?staleReview,
    fun hrev hg hgen => ?confirmed⟩
  case wrongState => exact completes_unchanged exec_confirmArea h (hanswer.trans (if_neg hnot))
  case badField => exact completes_unchanged exec_confirmArea h (hanswer.trans ((if_pos hrev).trans (if_neg hg)))
  case staleReview =>
    exact completes_unchanged exec_confirmArea h
      (hanswer.trans ((if_pos hrev).trans ((if_pos hg).trans (if_neg hgen))))
  case confirmed =>
    have hconfirms := hanswer.trans ((if_pos hrev).trans ((if_pos hg).trans (if_pos hgen)))
    obtain ⟨_, hswept⟩ := hrev
    have hevent := completes_sessionEvent exec_confirmArea h hparty.session_mem hconfirms
      (hentry.confirm_reported hswept g)
    rw [hentry.modEntry] at hevent
    rw [← s.generationOf_pos hentry.area_pos]
    exact hevent

end Sys2Proof.Machine
end

section
/-! WITHDRAW and the expiry of a session's timer (R148, R149). -/

namespace Sys2Proof.Machine

/-! ### The session fields -/

theorem clearSessionField_rest (s : Part) (l : List Nat) :
    s.clearSessionField l = { s with areas := (s.clearSessionField l).areas } := by
  induction l generalizing s with
  | nil => rfl
  | cons a l ih =>
    exact ih (s.modArea a fun x => { x with session := 0 })

theorem clearSessionField_area (s : Part) (l : List Nat) {a : Nat} (ha : a ∈ numbers 16) :
    (s.clearSessionField l).area a =
      { s.area a with session := if l.contains a then 0 else (s.area a).session } := by
  induction l generalizing s with
  | nil => rfl
  | cons b l ih =>
    have hb := (ih (s.modArea b fun x => { x with session := 0 })).trans (by rw [Part.modArea_area])
    refine hb.trans ?_
    by_cases hba : b = a
    · subst hba
      simp [(mem_numbers b).1 ha]
    · simp [hba, Ne.symm hba]

/-! ### The end of a session (R149) -/

/-- R149: session `n` and its areas before the HANDOVER_ABANDONED record. -/
def Part.endSession (s : Part) (n : Nat) : Part :=
  (s.clearSessionField (s.session n).areas).modSession n fun _ => Session.idle

theorem abandon_eq (s : Part) (n reason desk : Nat) :
    s.abandon n reason desk = (s.endSession n).write false
      { kind := .handoverAbandoned, desk := desk, credential := (s.session n).outgoing
        value := w16 (256 * reason + n) } := rfl

theorem endSession_rest (s : Part) (n : Nat) :
    s.endSession n = { s with areas := (s.endSession n).areas, sessions := (s.endSession n).sessions } :=
  congrArg (fun x : Part => { x with sessions := (s.endSession n).sessions }) (clearSessionField_rest s (s.session n).areas)

/-- R149: the event of an abandonment, before its end. -/
theorem abandon_change (s : Part) (n reason desk : Nat) :
    HandoverChange s (s.abandon n reason desk) (s.abandonRecords [n] reason desk) :=
  handoverChange_write (endSession_rest s n) false _

theorem abandon_session (s : Part) (n reason desk : Nat) {m : Nat} (hm : m ∈ numbers 4) :
    (s.abandon n reason desk).session m = if m = n then Session.idle else s.session m := by
  rw [abandon_eq, Part.write_session_other, Part.endSession, Part.modSession_becomes _ _ _ hm, clearSessionField_rest]
  rfl

theorem abandon_area (s : Part) (n reason desk : Nat) {a : Nat} (ha : a ∈ numbers 16) :
    (s.abandon n reason desk).area a =
      { s.area a with session := if (s.session n).areas.contains a then 0 else (s.area a).session } :=
  clearSessionField_area s _ ha

/-- The abandonment of a session that is not IDLE, as the statements say it; `u` is the part before the event's end. -/
theorem HandoverDone.abandoned {s u t : Part} {n reason desk : Nat} (hn : n ∈ numbers 4)
    (hidle : (s.session n).state ≠ .idle)
    (hsessions : ∀ m ∈ numbers 4, u.session m = if m = n then Session.idle else s.session m)
    (hareas : ∀ a ∈ numbers 16, u.area a =
      { s.area a with session := if (s.session n).areas.contains a then 0 else (s.area a).session })
    (h : HandoverDone s u t (s.abandonRecords [n] reason desk)) : s.Abandoned t n reason desk := by
  refine ⟨fun m hm => (congrArg (getAt · m) h.sessions).trans (hsessions m hm),
    fun a ha => (congrArg (getAt · a) h.areas).trans (hareas a ha), h.wrote, h.fixed, h.people, h.points, h.shelf, h.desks,
    h.told n hn ?_⟩
  rw [hsessions n hn, if_pos rfl, sessionReported, show Session.idle.state = .idle from rfl, bne_iff_ne.2 hidle]
  rfl

/-! ### The two causes (R148) -/

theorem exec_withdraw (u : State) : exec .withdraw u = onRequest .withdraw withdrawHandler u := rfl

/-- R148: what WITHDRAW answers the outgoing party. -/
theorem withdrawHandler_outgoing {s : Part} {body : List Byte} (h : s.PartyAt (byteAt body 0) (byteAt body 1) .outgoing) :
    withdrawHandler body s = (s.withdrawSession (byteAt body 0) (byteAt body 1), [0]) := by
  unfold withdrawHandler
  simp only [h.sessionCheck]
  rfl

/-- R148: the expiry of a session's timer is taken when it is due. -/
theorem completes_sessionTimerExpiry {s : Part} (hreset : s.resetLow = false) (n : Nat) :
    Completes (.sessionTimerExpiry n) s
      (if ((s.session n).state != .idle && (s.session n).timer.due) = true then s.sessionExpires n else s) :=
  onPart_completes
    (f := fun p => if (p.session n).state != .idle && (p.session n).timer.due then p.sessionExpires n else p) hreset rfl

/-- R148: the reason of an expiry, by the state that the session was in. -/
theorem expiryReason_eq (st : SessionState) : expiryReason st = if st = .offered then 2 else 3 := rfl

/-- Settles O43: WITHDRAW and the expiry each end in the event of `abandon_change`. -/
theorem sessionsAreAbandoned : Obligations.SessionsAreAbandoned := by
  refine ⟨fun s tag body h hparty => ?withdrawn,
    fun s n hreset hn => ⟨fun hnone => ?notTaken, fun hidle hdue => ?expired⟩⟩
  case withdrawn =>
    obtain ⟨_, _, _, _, hidle, _⟩ := id hparty
    obtain ⟨t, hcomp, hlif, hdone⟩ := completes_handover exec_withdraw h (withdrawHandler_outgoing (s := s.taken) hparty)
      (abandon_change s.taken (byteAt body 1) abandonWithdrawn (byteAt body 0))
    exact ⟨t, hcomp, hlif, hdone.abandoned (s := s) hparty.session_mem hidle
      (fun _ hm => abandon_session s.taken _ _ _ hm) (fun _ ha => abandon_area s.taken _ _ _ ha)⟩
  case notTaken =>
    have hcomp := completes_sessionTimerExpiry hreset n
    rwa [if_neg (by rcases hnone with hidle | hdue <;> simp [*])] at hcomp
  case expired =>
    have hcomp := completes_sessionTimerExpiry hreset n
    rw [if_pos (by simp [hidle, hdue])] at hcomp
    have hchange := abandon_change s n (expiryReason (s.session n).state) 0
    rw [← expiryReason_eq]
    exact ⟨_, hcomp, hchange.close_lif, hchange.close.abandoned hn hidle
      (fun _ hm => abandon_session s _ _ _ hm) (fun _ ha => abandon_area s _ _ _ ha)⟩

end Sys2Proof.Machine
end

section
/-! Every command is a function of the part: the steps of the machine seen from the part, and the two statements about the
queue of waiting commands. -/

namespace Sys2Proof.Machine

/-- The part after command `i`: `exec` run with nothing waiting. -/
def partAfter (i : Instr) (p : Part) : Part :=
  match exec i { pending := [], part := p } with
  | .next s => s.part
  | _ => p

/-- Every command answers a next state, in which the same commands wait and the part is `partAfter`. -/
theorem exec_eq (i : Instr) (s : State) : exec i s = .next { s with part := partAfter i s.part } := by
  cases i <;> rfl

theorem completes_partAfter (i : Instr) (s : Part) : Completes i s (partAfter i s) := fun _ => exec_eq i _

/-- What every command keeps, every step keeps: on an empty queue the part idles. -/
theorem step_keeps {P : Part → Prop} (h : ∀ i p, P p → P (partAfter i p)) {s t : State} (hs : P s.part)
    (ht : step s = .next t) : P t.part := by
  obtain ⟨pending, part⟩ := s
  cases pending with
  | nil =>
    rw [step_idle _ rfl] at ht
    cases ht
    exact hs
  | cons c rest =>
    have he : step { pending := c :: rest, part := part } = exec c { pending := rest, part := part } := rfl
    rw [he, exec_eq] at ht
    cases ht
    exact h c part hs

/-- Settles O1: the dispatcher takes the front command, by definition of `step`. -/
theorem stepExecutesTheFrontCommand : Obligations.StepExecutesTheFrontCommand := fun c s => step_front c s

/-- Settles O2: every row of the dispatcher answers a next state, and an empty queue idles. -/
theorem noCommandStops : Obligations.NoCommandStops :=
  ⟨fun i s => ⟨partAfter i s, completes_partAfter i s⟩, fun s h => step_idle s h⟩

end Sys2Proof.Machine
end

section
/-! The Record Store's invariants over its own operations: a written record continues the journal's run, and a queued report
keeps the report queue within its bounds. -/

namespace Sys2Proof.Machine

/-! ### The run of sequence numbers (R156) -/

/-- The `n` sequence numbers that end at `q` minus one. -/
def runTo (q : W32) (n : Nat) : List W32 := (List.range n).map fun i => q - BitVec.ofNat 32 n + BitVec.ofNat 32 i

@[simp] theorem length_runTo (q : W32) (n : Nat) : (runTo q n).length = n := by simp [runTo]

theorem runTo_succ (q : W32) (n : Nat) : runTo (q + 1) (n + 1) = runTo q n ++ [q] := by
  have hstart : q + 1 - BitVec.ofNat 32 (n + 1) = q - BitVec.ofNat 32 n := by
    rw [BitVec.ofNat_add, show BitVec.ofNat 32 1 = (1 : W32) from rfl]
    ring
  unfold runTo
  rw [List.range_succ, List.map_append, hstart]
  simp

theorem runTo_drop (q : W32) {n k : Nat} (h : k ≤ n) : (runTo q n).drop k = runTo q (n - k) := by
  refine List.ext_getElem (by simp) fun i _ _ => ?_
  have hn : BitVec.ofNat 32 n = BitVec.ofNat 32 (n - k) + BitVec.ofNat 32 k := by
    rw [← BitVec.ofNat_add]
    congr 1
    omega
  simp only [runTo, List.getElem_drop, List.getElem_map, List.getElem_range, hn, BitVec.ofNat_add]
  ring

/-- The journal part of `JournalRun`, for a journal of at most `size` records. -/
structure Rst.RunOk (size : Nat) (r : Rst) : Prop where
  length : r.journal.length ≤ size
  run : r.journal.map (·.seq) = runTo r.nextSeq r.journal.length
  unarchived : r.unarchived ≤ size

theorem Part.journalRun_iff (s : Part) : s.JournalRun ↔ s.rst.RunOk s.journalSize :=
  ⟨fun ⟨h, h1, h2⟩ => ⟨h, h1, h2⟩, fun ⟨h, h1, h2⟩ => ⟨h, h1, h2⟩⟩

/-- R155, R156: a record with the next sequence number continues the run. -/
theorem Rst.RunOk.append {size : Nat} {r : Rst} (h : r.RunOk size) {x : JournalRecord} (hx : x.seq = r.nextSeq) :
    (r.append size x).RunOk size := by
  obtain ⟨hlen, hrun, hcount⟩ := h
  have hk : r.journal.length + 1 - size ≤ r.journal.length + 1 := by omega
  refine ⟨by simp [Rst.append]; omega, ?_, ?_⟩
  · simp only [Rst.append, List.length_append, List.length_singleton, List.map_drop, List.map_append, List.map_singleton,
      List.length_drop, hrun, hx, ← runTo_succ, runTo_drop _ hk]
  · simp only [Rst.append]
    split <;> simp_all

/-- R157: an emptied journal is a run. -/
theorem Rst.RunOk.resize (size : Nat) (r : Rst) : r.resize.RunOk size :=
  ⟨Nat.zero_le _, rfl, Nat.zero_le _⟩

/-- The run speaks of the journal, the next sequence number and the unarchived count alone. -/
theorem Rst.RunOk.congr {size : Nat} {r q : Rst} (h : r.RunOk size) (h1 : q.journal = r.journal)
    (h2 : q.nextSeq = r.nextSeq) (h3 : q.unarchived ≤ size) : q.RunOk size :=
  ⟨by rw [h1]; exact h.length, by rw [h1, h2]; exact h.run, h3⟩

/-! ### The report queue (R162, R163) -/

/-- The OVERFLOW entry. -/
def overflowEntry : ReportEntry := { kind := .overflow, subject := 0 }

/-- The queue part of `ReportsBounded`, beside a journal of `size` records. The bound on the whole queue follows
(`Rst.QueueOk.length_le`). -/
structure Rst.QueueOk (size : Nat) (r : Rst) : Prop where
  nodup : r.reports.Nodup
  ordinary : ordinaryCount r.reports ≤ Config.storeSlots - size - 1
  overflow : ∀ e ∈ r.reports, e.kind = .overflow → e.subject = 0
  enabled : ∀ e ∈ r.reports, r.kindEnabled e.kind = true
  dropped : r.dropped ≤ 65535

/-- OVERFLOW stands in a queue at most once, so a queue is at most one longer than its ordinary entries. -/
theorem length_le_ordinaryCount {l : List ReportEntry} (hl : l.Nodup) (ho : ∀ e ∈ l, e.kind = .overflow → e.subject = 0) :
    l.length ≤ ordinaryCount l + 1 := by
  have hsub : l.filter (fun e => !(e.kind != .overflow)) ⊆ [overflowEntry] := fun e he => by
    obtain ⟨hmem, hk⟩ := List.mem_filter.1 he
    have hk : e.kind = .overflow := by simpa using hk
    obtain ⟨k, n⟩ := e
    obtain rfl : k = .overflow := hk
    obtain rfl : n = 0 := ho _ hmem rfl
    exact List.mem_singleton.2 rfl
  have hone := ((hl.filter fun e => !(e.kind != .overflow)).subperm hsub).length_le
  have hsum := List.length_eq_length_filter_add (l := l) (fun e => e.kind != .overflow)
  simp only [List.length_singleton] at hone
  unfold ordinaryCount
  omega

theorem Rst.QueueOk.length_le {size : Nat} {r : Rst} (h : r.QueueOk size) (hs : size ≤ 3840) :
    r.reports.length ≤ 4096 - size := by
  have h1 := length_le_ordinaryCount h.nodup h.overflow
  have h2 := h.ordinary
  simp only [Config.storeSlots] at h2
  omega

theorem Part.reportsBounded_iff (s : Part) :
    s.ReportsBounded ↔ 4 ≤ s.live.plant.jField ∧ s.live.plant.jField ≤ 15 ∧ s.rst.QueueOk s.journalSize := by
  constructor
  · rintro ⟨h1, h2, hnd, hord, _, hov, hen, hdr⟩
    exact ⟨h1, h2, hnd, hord, hov, hen, hdr⟩
  · rintro ⟨h1, h2, h⟩
    have hs : s.journalSize ≤ 3840 := by unfold Part.journalSize; omega
    exact ⟨h1, h2, h.nodup, h.ordinary, h.length_le hs, h.overflow, h.enabled, h.dropped⟩

/-- The queue bounds speak of the queue, the settings and the count of dropped reports alone. -/
theorem Rst.QueueOk.congr {size : Nat} {r q : Rst} (h : r.QueueOk size) (h1 : q.reports = r.reports)
    (h2 : q.enabled = r.enabled) (h3 : q.dropped ≤ 65535) : q.QueueOk size := by
  have hk : ∀ k, q.kindEnabled k = r.kindEnabled k := fun k => by unfold Rst.kindEnabled; rw [h2]
  exact ⟨by rw [h1]; exact h.nodup, by rw [h1]; exact h.ordinary, by rw [h1]; exact h.overflow,
    fun e he => by rw [hk]; exact h.enabled e (h1 ▸ he), h3⟩

/-- A queue from which entries were taken stays within its bounds. -/
theorem Rst.QueueOk.sublist {size : Nat} {r q : Rst} (h : r.QueueOk size) (h1 : q.reports.Sublist r.reports)
    (h2 : ∀ e ∈ q.reports, q.kindEnabled e.kind = true) (h3 : q.dropped ≤ 65535) : q.QueueOk size where
  nodup := h.nodup.sublist h1
  ordinary := (h1.filter fun e => e.kind != .overflow).length_le.trans h.ordinary
  overflow e he := h.overflow e (h1.subset he)
  enabled := h2
  dropped := h3

theorem ordinaryCount_append (l m : List ReportEntry) : ordinaryCount (l ++ m) = ordinaryCount l + ordinaryCount m := by
  simp [ordinaryCount]

/-- R162, R163: queueing a report other than OVERFLOW keeps the bounds. -/
theorem Rst.QueueOk.queue {size : Nat} {r : Rst} (h : r.QueueOk size) {e : ReportEntry} (he : e.kind ≠ .overflow) :
    (r.queue size e).QueueOk size := by
  unfold Rst.queue
  dsimp only
  split
  · exact h
  next hon =>
  split
  · exact h
  next hnew =>
  have hnew : e ∉ r.reports := by simpa using hnew
  split
  · -- the ordinary entries stand at their bound: the report is dropped and OVERFLOW stands in the queue
    split
    · exact h.congr rfl rfl (Nat.min_le_left ..)
    next ho =>
    have ho : overflowEntry ∉ r.reports := by simpa [overflowEntry] using ho
    refine ⟨?_, ?_, ?_, ?_, Nat.min_le_left ..⟩
    · simpa [overflowEntry] using List.Nodup.concat ho h.nodup
    · simp only [ordinaryCount_append]
      exact h.ordinary
    · exact List.forall_mem_append.2 ⟨h.overflow, List.forall_mem_singleton.2 fun _ => rfl⟩
    · exact List.forall_mem_append.2 ⟨h.enabled, List.forall_mem_singleton.2 rfl⟩
  · next hroom =>
    have hon : r.kindEnabled e.kind = true := by simpa using hon
    refine ⟨?_, ?_, ?_, ?_, h.dropped⟩
    · simpa using List.Nodup.concat hnew h.nodup
    · have h1 : ordinaryCount [e] ≤ 1 := List.length_filter_le ..
      simp only [ordinaryCount_append]
      omega
    · exact List.forall_mem_append.2 ⟨h.overflow, List.forall_mem_singleton.2 fun hk => absurd hk he⟩
    · exact List.forall_mem_append.2 ⟨h.enabled, List.forall_mem_singleton.2 hon⟩

theorem Rst.QueueOk.queueAll {size : Nat} {l : List ReportEntry} (hl : ∀ e ∈ l, e.kind ≠ .overflow) {r : Rst}
    (h : r.QueueOk size) : (l.foldl (fun r e => r.queue size e) r).QueueOk size := by
  induction l generalizing r with
  | nil => exact h
  | cons e l ih => exact ih (fun x hx => hl x (List.mem_cons_of_mem e hx)) (h.queue (hl e (List.mem_cons_self ..)))

/-- A record leaves the report queue alone. -/
theorem Rst.QueueOk.append {size : Nat} {r : Rst} (h : r.QueueOk size) (n : Nat) (x : JournalRecord) :
    (r.append n x).QueueOk size := h.congr rfl rfl h.dropped

/-- R162: the reports of an event are of its own six kinds. -/
theorem eventReports_kind {s t : Part} {extra : List ReportEntry} {e : ReportEntry} (h : e ∈ eventReports s t extra) :
    e.kind ≠ .overflow := by
  have hchanged : ∀ {α : Type} (k : ReportKind) (f : α → α → Bool) (u v : List α), e ∈ changedEntries k extra f u v →
      e.kind = k := fun k f u v he => by
    obtain ⟨x, _, rfl⟩ := List.mem_map.1 he
    rfl
  simp only [eventReports, List.mem_append] at h
  rcases h with ((((h | h) | h) | h) | h) | h
  · rw [hchanged _ _ _ _ h]; decide
  · rw [hchanged _ _ _ _ h]; decide
  · obtain ⟨d, _, rfl⟩ := List.mem_map.1 h
    simp
  · rw [hchanged _ _ _ _ h]; decide
  · rw [hchanged _ _ _ _ h]; decide
  · split at h
    · rw [List.mem_singleton.1 h]; decide
    · cases h

end Sys2Proof.Machine
end

section
/-! What an event's own steps keep: the relation `Part.Acts`, closed under the moves of presentation, under records, the
contribution to a load index and the end of an event. It carries the invariants of the journal, the report queue, the load
indices and the link through every event that is built of such steps. -/

namespace Sys2Proof.Machine

/-! ### What the invariants speak of -/

/-- R80, R89: the flood bounds of an area with the thresholds `x`. -/
def AreaStatic.Bounds (x : AreaStatic) (y : Area) : Prop :=
  x.low < x.high ∧ y.load ≤ 65535 ∧ (y.flood ≠ .flood → y.load < x.high) ∧ (y.flood = .flood → x.low < y.load)

theorem Part.floodBounded_iff (s : Part) : s.FloodBounded ↔ ∀ a ∈ numbers 16, (s.areaS a).Bounds (s.area a) := Iff.rfl

/-- Sign-ons, stacks and the credentials stand in `t` as in `s`. -/
structure Part.SameSeats (s t : Part) : Prop where
  live : t.live = s.live
  credDesk : t.credDesk = s.credDesk
  seat : ∀ d, (t.desk d).signedOn = (s.desk d).signedOn ∧ (t.desk d).stack = (s.desk d).stack

theorem Part.SameSeats.refl (s : Part) : s.SameSeats s := ⟨rfl, rfl, fun _ => ⟨rfl, rfl⟩⟩

theorem Part.SameSeats.trans {s t u : Part} (h : s.SameSeats t) (k : t.SameSeats u) : s.SameSeats u :=
  ⟨k.live.trans h.live, k.credDesk.trans h.credDesk,
    fun d => ⟨(k.seat d).1.trans (h.seat d).1, (k.seat d).2.trans (h.seat d).2⟩⟩

/-- Steps of an event led from `s` to `t`: the link, the plant record and the thresholds stand; the invariants of the journal,
the report queue and the load indices carry over; and without `auth` so do sign-ons and stacks. -/
structure Part.Acts (auth : Bool) (s t : Part) : Prop where
  plant : t.live.plant = s.live.plant
  areas : t.live.areas = s.live.areas
  staged : t.staged.plant = s.staged.plant
  lif : t.lif = s.lif
  seats : auth = false → s.SameSeats t
  journal : s.JournalRun → t.JournalRun
  reports : s.ReportsBounded → t.ReportsBounded
  flood : s.FloodBounded → t.FloodBounded

theorem Part.Acts.refl (auth : Bool) (s : Part) : s.Acts auth s :=
  ⟨rfl, rfl, rfl, rfl, fun _ => .refl s, id, id, id⟩

theorem Part.Acts.trans {auth : Bool} {s t u : Part} (h : s.Acts auth t) (k : t.Acts auth u) : s.Acts auth u where
  plant := k.plant.trans h.plant
  areas := k.areas.trans h.areas
  staged := k.staged.trans h.staged
  lif := k.lif.trans h.lif
  seats ha := (h.seats ha).trans (k.seats ha)
  journal hs := k.journal (h.journal hs)
  reports hs := k.reports (h.reports hs)
  flood hs := k.flood (h.flood hs)

/-- What leaves the Record Store, the link, the plant record and thresholds, loads and flood states alone. -/
theorem Part.Acts.quiet {auth : Bool} {s t : Part} (hrst : t.rst = s.rst) (hlif : t.lif = s.lif)
    (hplant : t.live.plant = s.live.plant) (hareas : t.live.areas = s.live.areas)
    (hstaged : t.staged.plant = s.staged.plant) (hseats : auth = false → s.SameSeats t)
    (hflood : ∀ a, (t.area a).load = (s.area a).load ∧ (t.area a).flood = (s.area a).flood) : s.Acts auth t where
  plant := hplant
  areas := hareas
  staged := hstaged
  lif := hlif
  seats := hseats
  journal h := by
    rw [Part.journalRun_iff] at h ⊢
    rw [hrst, Part.journalSize, hplant]
    exact h
  reports h := by
    rw [Part.reportsBounded_iff] at h ⊢
    rw [hrst, Part.journalSize, hplant]
    exact h
  flood h a ha := by
    have := h a ha
    rw [(hflood a).1, (hflood a).2, Part.areaS, hareas]
    exact this

/-! ### The steps -/

section
variable {auth : Bool}

theorem Part.acts_modPoint (s : Part) (p : Nat) (f : Point → Point) : s.Acts auth (s.modPoint p f) :=
  .quiet rfl rfl rfl rfl rfl (fun _ => ⟨rfl, rfl, fun _ => ⟨rfl, rfl⟩⟩) fun _ => ⟨rfl, rfl⟩

theorem Part.acts_modSession (s : Part) (n : Nat) (f : Session → Session) : s.Acts auth (s.modSession n f) :=
  .quiet rfl rfl rfl rfl rfl (fun _ => ⟨rfl, rfl, fun _ => ⟨rfl, rfl⟩⟩) fun _ => ⟨rfl, rfl⟩

/-- A change of the area `a` alone that keeps its flood bounds. -/
theorem Part.acts_onArea {s t : Part} (hrest : t = { s with areas := t.areas }) (a : Nat)
    (hother : ∀ b, b ≠ a → t.area b = s.area b)
    (h : a ∈ numbers 16 → (s.areaS a).Bounds (s.area a) → (s.areaS a).Bounds (t.area a)) : s.Acts auth t := by
  have hrst : t.rst = s.rst := by rw [hrest]
  have hlive : t.live = s.live := by rw [hrest]
  have hdesks : t.desks = s.desks := by rw [hrest]
  have hcred : t.credDesk = s.credDesk := by rw [hrest]
  refine ⟨by rw [hlive], by rw [hlive], by rw [hrest], by rw [hrest],
    fun _ => ⟨hlive, hcred, fun d => by rw [Part.desk, hdesks]; exact ⟨rfl, rfl⟩⟩, fun hs => ?_, fun hs => ?_, fun hs b hb => ?_⟩
  · rw [Part.journalRun_iff] at hs ⊢
    rwa [hrst, Part.journalSize, hlive]
  · rw [Part.reportsBounded_iff] at hs ⊢
    rwa [hrst, Part.journalSize, hlive]
  · show (t.areaS b).Bounds (t.area b)
    rw [Part.areaS, hlive]
    by_cases hba : b = a
    · subst hba
      exact h hb (hs b hb)
    · rw [hother b hba]
      exact hs b hb

/-- A change of an area other than of its load and flood state. -/
theorem Part.acts_modArea (s : Part) (a : Nat) (f : Area → Area)
    (hf : ∀ x, (f x).load = x.load ∧ (f x).flood = x.flood) : s.Acts auth (s.modArea a f) :=
  .quiet rfl rfl rfl rfl rfl (fun _ => ⟨rfl, rfl, fun _ => ⟨rfl, rfl⟩⟩) fun b => by
    rw [Part.modArea_area]
    split
    exacts [hf _, ⟨rfl, rfl⟩]

/-- A change of a desk other than of its sign-on and stack. -/
theorem Part.acts_modDesk (s : Part) (d : Nat) (f : Desk → Desk)
    (hf : ∀ x, (f x).signedOn = x.signedOn ∧ (f x).stack = x.stack) : s.Acts auth (s.modDesk d f) :=
  .quiet rfl rfl rfl rfl rfl (fun _ => ⟨rfl, rfl, fun e => by
    rw [Part.modDesk_desk]
    split
    exacts [hf _, ⟨rfl, rfl⟩]⟩) fun _ => ⟨rfl, rfl⟩

/-- A change of a desk, sign-on and stack included. -/
theorem Part.acts_seat (s : Part) (d : Nat) (f : Desk → Desk) : s.Acts true (s.modDesk d f) :=
  .quiet rfl rfl rfl rfl rfl (fun h => nomatch h) fun _ => ⟨rfl, rfl⟩

theorem Part.acts_shelf (s : Part) (v : Vector (Option ShelfUse) 96) : s.Acts auth { s with shelf := v } :=
  .quiet rfl rfl rfl rfl rfl (fun _ => ⟨rfl, rfl, fun _ => ⟨rfl, rfl⟩⟩) fun _ => ⟨rfl, rfl⟩

theorem Part.acts_groups (s : Part) (v : Vector Bool 64) : s.Acts auth { s with groups := v } :=
  .quiet rfl rfl rfl rfl rfl (fun _ => ⟨rfl, rfl, fun _ => ⟨rfl, rfl⟩⟩) fun _ => ⟨rfl, rfl⟩

/-- What only moves points and sets presentation desks and modes. -/
theorem PresentsOnly.acts {s t : Part} (h : PresentsOnly s t) : s.Acts auth t := by
  have hseat : ∀ d, (t.desk d).signedOn = (s.desk d).signedOn ∧ (t.desk d).stack = (s.desk d).stack := fun d => by
    rw [h.desk d]
    exact ⟨rfl, rfl⟩
  have hflood : ∀ a, (t.area a).load = (s.area a).load ∧ (t.area a).flood = (s.area a).flood := fun a => by
    rw [h.area a]
    exact ⟨rfl, rfl⟩
  have hr := h.rest
  refine .quiet ?_ ?_ ?_ ?_ ?_ (fun _ => ⟨?_, ?_, hseat⟩) hflood <;> rw [hr]

theorem MovesOnly.acts {s t : Part} (h : MovesOnly s t) : s.Acts auth t := h.presents.acts

/-- What only places points. -/
theorem PlacesOnly.acts {s t : Part} (h : PlacesOnly s t) : s.Acts auth t := by
  have hseat : ∀ d, (t.desk d).signedOn = (s.desk d).signedOn ∧ (t.desk d).stack = (s.desk d).stack := fun d => by
    rw [h.desk d]
    exact ⟨rfl, rfl⟩
  have hflood : ∀ a, (t.area a).load = (s.area a).load ∧ (t.area a).flood = (s.area a).flood := fun a => by
    rw [h.area a]
    exact ⟨rfl, rfl⟩
  have hr := h.rest
  refine .quiet ?_ ?_ ?_ ?_ ?_ (fun _ => ⟨?_, ?_, hseat⟩) hflood <;> rw [hr]

/-- R155: a record. -/
theorem Part.acts_write (s : Part) (sig : Bool) (f : RecordFields) : s.Acts auth (s.write sig f) where
  plant := rfl
  areas := rfl
  staged := rfl
  lif := rfl
  seats _ := ⟨rfl, rfl, fun _ => ⟨rfl, rfl⟩⟩
  journal h := (Part.journalRun_iff _).2 (((Part.journalRun_iff s).1 h).append rfl)
  reports h := by
    obtain ⟨h1, h2, h3⟩ := (Part.reportsBounded_iff s).1 h
    exact (Part.reportsBounded_iff _).2 ⟨h1, h2, h3.append _ _⟩
  flood h := h

/-- R162: reports other than OVERFLOW. -/
theorem Part.acts_queueReports (s : Part) (l : List ReportEntry) (hl : ∀ e ∈ l, e.kind ≠ .overflow) :
    s.Acts auth (s.queueReports l) where
  plant := rfl
  areas := rfl
  staged := rfl
  lif := rfl
  seats _ := ⟨rfl, rfl, fun _ => ⟨rfl, rfl⟩⟩
  journal h := by
    rw [Part.queueReports_rest]
    exact h
  reports h := by
    obtain ⟨h1, h2, h3⟩ := (Part.reportsBounded_iff s).1 h
    exact (Part.reportsBounded_iff _).2 ⟨h1, h2, h3.queueAll hl⟩
  flood h := h

/-- Horns worked out again. -/
theorem Part.refreshHorns_seat (s : Part) (d : Nat) :
    (s.refreshHorns.desk d).signedOn = (s.desk d).signedOn ∧ (s.refreshHorns.desk d).stack = (s.desk d).stack := by
  by_cases h : 1 ≤ d ∧ d ≤ 6
  · rw [s.refreshHorns_desk d h.1 h.2]
    exact ⟨rfl, rfl⟩
  · simp only [Part.desk, getAt_out _ _ h, and_self]

theorem Part.acts_refreshHorns (s : Part) : s.Acts auth s.refreshHorns := by
  have hr := s.refreshHorns_rest
  have harea : ∀ a, s.refreshHorns.area a = s.area a := fun a => by
    rw [Part.area, hr]
    rfl
  refine .quiet ?_ ?_ ?_ ?_ ?_ (fun _ => ⟨?_, ?_, s.refreshHorns_seat⟩) fun a => by rw [harea]; exact ⟨rfl, rfl⟩
  all_goals rw [hr]

/-- The end of an event. -/
theorem acts_closeEvent {s : Part} (u : Part) (extra : List ReportEntry) {t : Part} (h : s.Acts auth t) :
    s.Acts auth (closeEvent u extra t) :=
  (h.trans t.acts_refreshHorns).trans (Part.acts_queueReports _ _ fun _ he => eventReports_kind he)

/-- R81: the contribution to a load index keeps it in range and enters FLOOD at the high threshold. -/
theorem Part.acts_contribute (s : Part) (p : Nat) : s.Acts auth (s.contribute p) := by
  let a := (s.pointS p).area
  let n := s.contribution (s.pointS p).priority
  let s1 := s.modArea a fun x => { x with load := min 65535 (x.load + n) }
  have hother : ∀ b, b ≠ a → s1.area b = s.area b := fun b hb => by
    rw [Part.modArea_area, if_neg fun h => hb h.1.symm]
  have hmine : a ∈ numbers 16 → s1.area a = { s.area a with load := min 65535 ((s.area a).load + n) } := fun ha => by
    rw [Part.modArea_area, if_pos ⟨rfl, (mem_numbers a).1 ha⟩]
  show s.Acts auth (if (s1.area a).flood ≠ .flood ∧ (s.areaS a).high ≤ (s1.area a).load then s1.enterFlood a else s1)
  split
  · next hflood =>
    refine Part.Acts.trans ?_ (enterFlood_places s1 a).acts
    refine Part.acts_onArea rfl a (fun b hb => ?_) fun ha ⟨hlt, _, _, _⟩ => ?_
    · rw [Part.modArea_area, if_neg fun h => hb h.1.symm, hother b hb]
    · rw [Part.modArea_area, if_pos ⟨rfl, (mem_numbers a).1 ha⟩]
      rw [hmine ha] at hflood ⊢
      exact ⟨hlt, Nat.min_le_left .., fun h => absurd rfl h, fun _ => Nat.lt_of_lt_of_le hlt hflood.2⟩
  · next hflood =>
    refine Part.acts_onArea rfl a hother fun ha ⟨hlt, hmax, hcalm, hin⟩ => ?_
    rw [hmine ha] at hflood ⊢
    refine ⟨hlt, Nat.min_le_left .., fun h => ?_, fun h => ?_⟩
    · exact Nat.lt_of_not_le fun hle => hflood ⟨h, hle⟩
    · have := hin h
      show (s.areaS a).low < min 65535 ((s.area a).load + n)
      omega

end

end Sys2Proof.Machine
end

section
/-! The events of alarms, flood control, desks and handover, each built of the steps of `Part.Acts`: what carries the
invariants of the journal, the report queue, the load indices, the link and the horns through them. -/

namespace Sys2Proof.Machine

/-- An event led from `s` to `t`, or several did: its steps are those of `Part.Acts`, and horns that followed the slots do so
again at its end. -/
structure Part.Event (auth : Bool) (s t : Part) : Prop extends s.Acts auth t where
  horns : s.HornsFollow → t.HornsFollow

theorem Part.Event.refl (auth : Bool) (s : Part) : s.Event auth s := ⟨.refl auth s, id⟩

theorem Part.Event.trans {auth : Bool} {s t u : Part} (h : s.Event auth t) (k : t.Event auth u) : s.Event auth u :=
  ⟨h.toActs.trans k.toActs, fun hs => k.horns (h.horns hs)⟩

/-- An event whose end works the horns out again. -/
theorem Part.Event.close {auth : Bool} {s t : Part} (u : Part) (extra : List ReportEntry) (h : s.Acts auth t) :
    s.Event auth (closeEvent u extra t) :=
  ⟨acts_closeEvent u extra h, fun _ => closeEvent_follow u extra t⟩

/-- A fold of events, or of the steps of one. -/
theorem foldl_acts {auth : Bool} {α : Type} (f : Part → α → Part) (hf : ∀ (s : Part) x, s.Acts auth (f s x)) (l : List α) (s : Part) :
    s.Acts auth (l.foldl f s) := by
  induction l generalizing s with
  | nil => exact .refl auth s
  | cons x l ih => exact (hf s x).trans (ih _)

/-- R41, R55: items taken in order, each an event. -/
theorem takeItemsInOrder_event {auth : Bool} (f : Part → Nat → Part × List Byte) (hf : ∀ (s : Part) i, s.Event auth (f s i).1)
    (items : List Nat) (s : Part) : s.Event auth (takeItemsInOrder f items s).1 := by
  unfold takeItemsInOrder
  generalize ([] : List Byte) = out
  induction items generalizing s out with
  | nil => exact .refl auth s
  | cons i l ih => exact (hf s i).trans (ih _ _)

section
variable {auth : Bool}

/-! ### Steps that several events share -/

theorem Part.acts_bump (s : Part) (a : Nat) : s.Acts auth (s.bump a) := s.acts_modArea a _ fun _ => ⟨rfl, rfl⟩

theorem Part.acts_changeState (s : Part) (p : Nat) (st : PointState) : s.Acts auth (s.changeState p st) :=
  (s.acts_modPoint p _).trans (Part.acts_modArea _ _ _ fun _ => ⟨rfl, rfl⟩)

theorem Part.acts_enterUnack (s : Part) (p : Nat) : s.Acts auth (s.enterUnack p) :=
  ((s.acts_changeState p .unack).trans (Part.acts_modPoint _ p _)).trans (place_places _ p).acts

theorem Part.acts_enterNormal (s : Part) (p : Nat) : s.Acts auth (s.enterNormal p) :=
  (s.acts_changeState p .normal).trans (Part.acts_modPoint _ p _)

theorem Part.acts_notify (s : Part) (a : Nat) : s.Acts auth (s.notify a) := by
  unfold Part.notify
  split
  · exact .refl auth s
  · exact s.acts_modSession _ _

/-- R13: the notice that a condition gives. -/
theorem Part.acts_notifyIf (s : Part) (c : Bool) (a : Nat) : s.Acts auth (if c then s.notify a else s) := by
  split
  exacts [s.acts_notify a, .refl auth s]

theorem Part.acts_bumpIf (s : Part) (c : Bool) (a : Nat) : s.Acts auth (if c then s.bump a else s) := by
  split
  exacts [s.acts_bump a, .refl auth s]

/-- An area that leaves RELEASING for CALM stays below the high threshold. -/
theorem Part.acts_calm (s : Part) (a : Nat) (h : (s.area a).flood = .releasing) :
    s.Acts auth (s.modArea a fun x => { x with flood := .calm }) := by
  refine Part.acts_onArea rfl a (fun b hb => ?_) fun ha ⟨hlt, hmax, hcalm, _⟩ => ?_
  · rw [Part.modArea_area, if_neg fun h => hb h.1.symm]
  · rw [Part.modArea_area, if_pos ⟨rfl, (mem_numbers a).1 ha⟩]
    exact ⟨hlt, hmax, fun _ => hcalm (by rw [h]; decide), fun h => nomatch h⟩

theorem Part.acts_calmIfEmpty (s : Part) (a : Nat) (sig : Bool) : s.Acts auth (s.calmIfEmpty a sig) := by
  unfold Part.calmIfEmpty
  split
  · next h => exact (s.acts_calm a h.1).trans (Part.acts_write ..)
  · exact .refl auth s

theorem Part.event_refuse (s : Part) (d a p pr : Nat) (r : ResultCode) : s.Event auth (s.refuse d a p pr r) := by
  unfold Part.refuse
  split
  · exact .close s [] (s.acts_write ..)
  · exact .refl auth s

/-! ### CONDITIONS, GROUP and ACK -/

theorem Part.acts_conditionChange (s : Part) (p : Nat) : s.Acts auth (s.conditionChange p) := by
  unfold Part.conditionChange
  split
  case h_1 => exact ((s.acts_modPoint p _).trans (Part.acts_enterUnack _ p)).trans (Part.acts_contribute _ p)
  case h_2 => exact (s.acts_changeState p _).trans (Part.acts_modPoint _ p _)
  case h_3 => exact (s.acts_modPoint p _).trans (Part.acts_enterNormal _ p)
  case h_4 => exact ((s.acts_changeState p _).trans (Part.acts_modPoint _ p _)).trans (Part.acts_contribute _ p)
  all_goals exact s.acts_modPoint p _

theorem Part.event_conditionEvent (s : Part) (p : Nat) (active : Bool) : s.Event auth (s.conditionEvent p active) := by
  unfold Part.conditionEvent
  extract_lets a s1 entered sig s2 value _ s3 _ s4 s5
  have h3 : s.Acts auth s3 :=
    ((s.acts_conditionChange p).trans (Part.acts_bumpIf s1 sig a)).trans (Part.acts_write ..)
  have h4 : s3.Acts auth s4 := by
    show s3.Acts auth (if entered then _ else s3)
    split
    exacts [s3.acts_write .., .refl auth s3]
  have h5 : s4.Acts auth s5 := by
    show s4.Acts auth (if _ then _ else s4)
    split
    exacts [(fillAreaDesk_moves ..).acts, .refl auth s4]
  exact .close s [] (((h3.trans h4).trans h5).trans (s5.acts_notifyIf sig a))

theorem Part.event_conditionItem (s : Part) (p c : Nat) : s.Event auth (s.conditionItem p c).1 := by
  unfold Part.conditionItem
  split_ifs
  exacts [.refl auth s, .refl auth s, .refl auth s, s.event_conditionEvent p _]

theorem event_conditions (body : List Byte) (s : Part) : s.Event auth (conditionsHandler body s).1 :=
  takeItemsInOrder_event _ (fun s _ => s.event_conditionItem _ _) _ s

theorem Part.acts_groupMember (s : Part) (on : Bool) (p : Nat) : s.Acts auth (s.groupMember on p) := by
  unfold Part.groupMember
  split_ifs
  · exact (withdraw_places s p).acts.trans (Part.acts_changeState _ p _)
  · exact s.acts_enterUnack p
  · exact s.acts_enterNormal p

theorem Part.event_groupEvent (s : Part) (g : Nat) (on : Bool) : s.Event auth (s.groupEvent g on) := by
  unfold Part.groupEvent
  extract_lets changed touched s1 s2 s3 s4 s5 s6
  have h1 : s.Acts auth s1 := (s.acts_groups _).trans (foldl_acts _ (fun t p => t.acts_groupMember on p) changed _)
  have h2 : s1.Acts auth s2 := foldl_acts _ (fun t a => t.acts_bump a) touched s1
  have h4 : s2.Acts auth s4 :=
    (s2.acts_write ..).trans (foldl_acts _ (fun t p => t.acts_write ..) changed s3)
  have h5 : s4.Acts auth s5 := foldl_acts _ (fun t a => t.acts_calmIfEmpty a true) touched s4
  have h6 : s5.Acts auth s6 := (fillWhere_moves s5 _).acts
  exact .close s [] (((((h1.trans h2).trans h4).trans h5).trans h6).trans
    (foldl_acts _ (fun t a => t.acts_notify a) touched s6))

theorem event_group (body : List Byte) (s : Part) : s.Event auth (groupHandler body s).1 := by
  unfold groupHandler
  dsimp only
  split_ifs
  exacts [.refl auth s, .refl auth s, s.event_groupEvent _ _]

theorem Part.acts_ackPoint (s : Part) (p : Nat) : s.Acts auth (s.ackPoint p) :=
  ((withdraw_places s p).acts.trans (Part.acts_changeState _ p _)).trans (Part.acts_modPoint _ p _)

theorem Part.event_acknowledge (s : Part) (d p : Nat) (button : Bool) : s.Event auth (s.acknowledge d p button) := by
  unfold Part.acknowledge
  extract_lets a sig s1 s2 _ s3 s4
  have h3 : s.Acts auth s3 := ((s.acts_ackPoint p).trans (s1.acts_bumpIf sig a)).trans (s2.acts_write ..)
  have h4 : s3.Acts auth s4 := (s3.acts_calmIfEmpty a sig).trans (fill_moves _ _).acts
  exact .close s [] ((h3.trans h4).trans (s4.acts_notifyIf sig a))

theorem Part.event_ackItem (s : Part) (d p : Nat) (view : W16) : s.Event auth (s.ackItem d p view).1 := by
  unfold Part.ackItem
  split
  exacts [s.event_acknowledge d p false, .refl auth s, .refl auth s, s.event_refuse ..]

theorem event_ack (body : List Byte) (s : Part) : s.Event auth (ackHandler body s).1 := by
  refine takeItemsInOrder_event _ (fun s i => ?_) _ s
  split
  exacts [s.event_ackItem .., .refl auth s]

/-! ### Shelving and out of service -/

theorem Part.acts_freeShelfOf (s : Part) (p : Nat) : s.Acts auth (s.freeShelfOf p) := by
  unfold Part.freeShelfOf
  dsimp only
  split
  · exact s.acts_modPoint p _
  · exact (s.acts_modPoint p _).trans (Part.acts_shelf _ _)

theorem Part.acts_afterOut (s t : Part) (p : Nat) : t.Acts auth (s.afterOut t p) :=
  ((t.acts_calmIfEmpty _ true).trans (fill_moves _ _).acts).trans (Part.acts_notify _ _)

theorem Part.event_shelveIn (s : Part) (d p granted k : Nat) : s.Event auth (s.shelveIn d p granted k) := by
  unfold Part.shelveIn
  extract_lets s1 s2 s3
  have h2 : s.Acts auth s2 :=
    ((((s.acts_shelf _).trans (withdraw_places s1 p).acts).trans (Part.acts_changeState _ p _)).trans
      (Part.acts_modPoint _ p _)).trans (Part.acts_bump _ _)
  exact .close s [] ((h2.trans (s2.acts_write ..)).trans (s.acts_afterOut s3 p))

theorem Part.event_extendShelf (s : Part) (d p granted k : Nat) : s.Event auth (s.extendShelf d p granted k) := by
  unfold Part.extendShelf
  extract_lets a s1 s2
  have h2 : s.Acts auth s2 := ((s.acts_shelf _).trans (s1.acts_modPoint p _)).trans (Part.acts_bump _ _)
  exact .close s _ ((h2.trans (s2.acts_write ..)).trans (Part.acts_notify _ a))

theorem event_shelve (body : List Byte) (s : Part) : s.Event auth (shelveHandler body s).1 := by
  unfold shelveHandler Part.shelve
  dsimp only
  split
  · exact s.event_refuse ..
  · dsimp only
    split
    exacts [s.event_extendShelf .., s.event_shelveIn ..]

theorem Part.acts_returnPoint (s : Part) (p : Nat) : s.Acts auth (s.returnPoint p) := by
  unfold Part.returnPoint
  split_ifs
  exacts [s.acts_changeState .., s.acts_enterUnack p, s.acts_enterNormal p]

theorem Part.event_returnEvent (s : Part) (k : JKind) (d c p : Nat) : s.Event auth (s.returnEvent k d c p) := by
  unfold Part.returnEvent
  extract_lets a s1 _ s2 s3
  have h2 : s.Acts auth s2 :=
    (((s.acts_freeShelfOf p).trans (Part.acts_returnPoint _ p)).trans (Part.acts_bump _ a)).trans (s1.acts_write ..)
  have h3 : s2.Acts auth s3 := by
    show s2.Acts auth (if _ then _ else s2)
    split
    exacts [(fillAreaDesk_moves ..).acts, .refl auth s2]
  exact .close s [] ((h2.trans h3).trans (s3.acts_notify a))

theorem event_return (perm : Perm) (st : PointState) (k : JKind) (body : List Byte) (s : Part) :
    s.Event auth (Part.returnRequest perm st k body s).1 := by
  unfold Part.returnRequest
  dsimp only
  split
  exacts [s.event_refuse .., s.event_returnEvent ..]

theorem Part.event_shelfExpires (s : Part) (k : Nat) : s.Event auth (s.shelfExpires k) := by
  unfold Part.shelfExpires
  split
  · exact .refl auth s
  · split
    exacts [s.event_returnEvent .., .refl auth s]

theorem event_remove (body : List Byte) (s : Part) : s.Event auth (removeHandler body s).1 := by
  unfold removeHandler
  dsimp only
  split
  · exact s.event_refuse ..
  · exact .close s [] ((((((s.acts_freeShelfOf _).trans (withdraw_places _ _).acts).trans
      (Part.acts_changeState _ _ _)).trans (Part.acts_bump _ _)).trans (Part.acts_write ..)).trans (s.acts_afterOut _ _))

/-! ### Flood control -/

theorem Part.acts_releaseOne (s t : Part) (a : Nat) (h : s.releaseOne a = some t) : s.Acts auth t := by
  unfold Part.releaseOne at h
  split at h
  · cases h
  · split at h
    · cases h
    · cases h
      refine Part.Acts.trans ?_ (Part.acts_modPoint _ _ _)
      exact s.acts_modArea a _ fun _ => ⟨rfl, rfl⟩

theorem Part.acts_releaseUpTo (n : Nat) (s : Part) (a : Nat) : s.Acts auth (s.releaseUpTo n a).1 := by
  induction n generalizing s with
  | zero => exact .refl auth s
  | succ n ih =>
    unfold Part.releaseUpTo
    split
    · exact .refl auth s
    · next t h => exact (s.acts_releaseOne t a h).trans (ih t)

theorem Part.acts_calmNow (s : Part) (a : Nat) : s.Acts auth (s.calmNow a) := by
  unfold Part.calmNow
  split
  · next h =>
    simp only [Part.calmReached, Bool.and_eq_true, beq_iff_eq] at h
    exact s.acts_calm a h.1
  · exact .refl auth s

theorem Part.acts_pacedRelease (s : Part) (a : Nat) (sig : Bool) : s.Acts auth (s.pacedRelease a sig) := by
  unfold Part.pacedRelease
  dsimp only
  split
  · exact .refl auth s
  · exact (((s.acts_releaseUpTo _ a).trans (Part.acts_calmNow _ a)).trans (Part.acts_write ..)).trans
      (fillAreaDesk_moves ..).acts

/-- R82: a load index after a decay is no higher. -/
theorem decay_le (l : Nat) : decay l ≤ l := Nat.sub_le ..

/-- R82, R83: the decay and the flood-exit test together keep the flood bounds; between the two a load index may stand at the
low threshold in FLOOD. -/
theorem Part.acts_decayAndExit (s : Part) (a : Nat) :
    let s1 := s.modArea a fun x => { x with load := decay x.load }
    s.Acts auth (if s1.floodEnds a then s1.exitFlood a else s1) := by
  intro s1
  have hother : ∀ b, b ≠ a → s1.area b = s.area b := fun b hb => by
    rw [Part.modArea_area, if_neg fun h => hb h.1.symm]
  have hmine : a ∈ numbers 16 → s1.area a = { s.area a with load := decay (s.area a).load } := fun ha => by
    rw [Part.modArea_area, if_pos ⟨rfl, (mem_numbers a).1 ha⟩]
  have hle := decay_le (s.area a).load
  split
  · next hends =>
    simp only [Part.floodEnds, Bool.and_eq_true, beq_iff_eq, decide_eq_true_eq] at hends
    unfold Part.exitFlood
    extract_lets calm
    refine Part.Acts.trans ?_ (Part.acts_write ..)
    refine Part.Acts.trans (t := s1.modArea a fun x => { x with flood := if calm then .calm else .releasing }) ?_
      (Part.acts_bump ..)
    refine Part.acts_onArea rfl a (fun b hb => ?_) fun ha ⟨hlt, hmax, _, _⟩ => ?_
    · rw [Part.modArea_area, if_neg fun h => hb h.1.symm, hother b hb]
    · rw [Part.modArea_area, if_pos ⟨rfl, (mem_numbers a).1 ha⟩]
      rw [hmine ha] at hends ⊢
      have hne : (if calm = true then FloodState.calm else .releasing) ≠ .flood := by split <;> decide
      have hlow : decay (s.area a).load ≤ (s.areaS a).low := hends.2
      exact ⟨hlt, hle.trans hmax, fun _ => Nat.lt_of_le_of_lt hlow hlt, fun h => absurd h hne⟩
  · next hends =>
    refine Part.acts_onArea rfl a hother fun ha ⟨hlt, hmax, hcalm, _⟩ => ?_
    simp only [Part.floodEnds, Bool.and_eq_true, beq_iff_eq, decide_eq_true_eq, not_and] at hends
    rw [hmine ha] at hends ⊢
    exact ⟨hlt, hle.trans hmax, fun h => Nat.lt_of_le_of_lt hle (hcalm h), fun h => Nat.lt_of_not_le (hends h)⟩

theorem Part.event_loadTick (s : Part) (a : Nat) : s.Event auth (s.loadTick a) := by
  unfold Part.loadTick
  extract_lets s1 exits s2 s3
  have h3 : s2.Acts auth s3 := by
    show s2.Acts auth (if _ then _ else s2)
    split
    exacts [s2.acts_pacedRelease .., .refl auth s2]
  exact .close s [] (((s.acts_decayAndExit a).trans h3).trans (s3.acts_notifyIf exits a))

theorem event_releaseDeferred (body : List Byte) (s : Part) : s.Event auth (releaseHandler body s).1 := by
  unfold releaseHandler
  dsimp only
  split
  · exact s.event_refuse ..
  · exact .close s [] ((((s.acts_releaseUpTo _ _).trans (Part.acts_calmNow _ _)).trans (Part.acts_write ..)).trans
      (fillAreaDesk_moves ..).acts)

end

end Sys2Proof.Machine
end

section
/-! The events of the desks, of handover and of authority, built of the steps of `Part.Acts`; the events of authority change
sign-ons and stacks as well. -/

namespace Sys2Proof.Machine

section
variable {auth : Bool}

/-! ### The desks -/

/-- A change of a desk other than of its sign-on, stack, slots and horn. -/
theorem Part.event_modDesk (s : Part) (d : Nat) (f : Desk → Desk)
    (hf : ∀ x, f x =
      { f x with signedOn := x.signedOn, stack := x.stack, slots := x.slots, horn := x.horn, hornPattern := x.hornPattern }) :
    s.Event auth (s.modDesk d f) where
  toActs := s.acts_modDesk d f fun x => by rw [hf x]; exact ⟨rfl, rfl⟩
  horns h e he := by
    rw [Part.modDesk_desk]
    split
    · rw [hf]
      exact h e he
    · exact h e he

theorem Part.event_inRunning (s : Part) (f : Part → Part) (hf : s.Event auth (f s)) : s.Event auth (s.inRunning f) := by
  unfold Part.inRunning
  split
  exacts [hf, .refl auth s]

theorem Part.event_buttonIdle (s : Part) (d n : Nat) : s.Event auth (s.buttonIdle d n) := .close s [] (s.acts_write ..)

theorem Part.acts_refreshSlot (s : Part) (d k : Nat) : s.Acts auth (s.refreshSlot d k) :=
  s.acts_modDesk d _ fun _ => ⟨rfl, rfl⟩

theorem Part.event_acknowledgePress (s : Part) (d : Nat) : s.Event auth (s.acknowledgePress d) := by
  unfold Part.acknowledgePress
  split
  · exact s.event_buttonIdle ..
  · split
    · exact s.event_buttonIdle ..
    · split_ifs
      · exact s.event_refuse ..
      · exact s.event_acknowledge ..
      · exact .close s [] ((s.acts_refreshSlot ..).trans (Part.acts_write ..))

theorem Part.acts_setSilenced (s : Part) (d : Nat) (v : Bool) : s.Acts auth (s.setSilenced d v) :=
  s.acts_modDesk d _ fun _ => ⟨rfl, rfl⟩

theorem Part.event_silenceDesk (s : Part) (d : Nat) : s.Event auth (s.silenceDesk d) :=
  .close s _ ((s.acts_setSilenced d true).trans (Part.acts_modDesk _ d _ fun _ => ⟨rfl, rfl⟩))

theorem event_silence (body : List Byte) (s : Part) : s.Event auth (silenceHandler body s).1 := by
  unfold silenceHandler
  dsimp only
  split
  · exact .refl auth s
  · split
    exacts [s.event_refuse .., s.event_silenceDesk _]

theorem Part.event_silencePress (s : Part) (d : Nat) : s.Event auth (s.silencePress d) := by
  unfold Part.silencePress
  split
  exacts [s.event_silenceDesk d, s.event_buttonIdle .., s.event_refuse ..]

theorem Part.event_holdExpires (s : Part) (d : Nat) : s.Event auth (s.holdExpires d) := by
  unfold Part.holdExpires
  extract_lets s1
  have h1 : s.Event auth s1 := s.event_modDesk d _ fun _ => rfl
  split
  · exact .close s _ (h1.toActs.trans (s1.acts_setSilenced d false))
  · exact h1

theorem event_lampTest (body : List Byte) (s : Part) : s.Event auth (lampTestHandler body s).1 := by
  unfold lampTestHandler
  dsimp only
  split
  · exact .refl auth s
  · exact .close s _ (s.acts_modDesk _ _ fun _ => ⟨rfl, rfl⟩)

theorem Part.event_lampTestExpires (s : Part) (d : Nat) : s.Event auth (s.lampTestExpires d) :=
  .close s _ (s.acts_modDesk _ _ fun _ => ⟨rfl, rfl⟩)

theorem Part.event_frameBoundary (s : Part) (d : Nat) : s.Event auth (s.frameBoundary d) :=
  .close s _ (s.acts_modDesk _ _ fun _ => ⟨rfl, rfl⟩)

/-! ### ASSUME -/

theorem Part.acts_setResponsible (s : Part) (a c : Nat) : s.Acts auth (s.modArea a fun x => { x with responsible := c }) :=
  s.acts_modArea a _ fun _ => ⟨rfl, rfl⟩

theorem Part.acts_setSession (s : Part) (a n : Nat) : s.Acts auth (s.modArea a fun x => { x with session := n }) :=
  s.acts_modArea a _ fun _ => ⟨rfl, rfl⟩

theorem Part.acts_recompute (s : Part) : s.Acts auth s.recompute := (recompute_presents s).acts

theorem Part.event_assumeArea (s : Part) (d a : Nat) (first : Bool) : s.Event auth (s.assumeArea d a first) := by
  unfold Part.assumeArea
  extract_lets c s1
  have h1 : s.Acts auth s1 :=
    ((s.acts_setResponsible a _).trans (Part.acts_bump _ a)).trans (Part.acts_recompute _)
  exact .close s _ (h1.trans (s1.acts_write ..))

theorem Part.event_assumeItems (d : Nat) (l : List Nat) (s : Part) (first : Bool) :
    s.Event auth (s.assumeItems d l first).1 := by
  induction l generalizing s first with
  | nil => exact .refl auth s
  | cons a l ih =>
    unfold Part.assumeItems
    split
    · exact (s.event_refuse ..).trans (ih _ _)
    · exact (s.event_assumeArea ..).trans (ih _ _)

theorem event_assume (body : List Byte) (s : Part) : s.Event auth (assumeHandler body s).1 := by
  unfold assumeHandler
  dsimp only
  split_ifs
  exacts [.refl auth s, .refl auth s, Part.event_assumeItems ..]

/-! ### Handover -/

theorem Part.acts_clearSessionField (s : Part) (l : List Nat) : s.Acts auth (s.clearSessionField l) :=
  foldl_acts _ (fun t a => t.acts_setSession a _) l s

theorem Part.acts_abandon (s : Part) (n reason desk : Nat) : s.Acts auth (s.abandon n reason desk) :=
  ((s.acts_clearSessionField _).trans (Part.acts_modSession _ n _)).trans (Part.acts_write ..)

theorem Part.acts_abandonWhere (s : Part) (reason desk : Nat) (f : Session → Bool) :
    s.Acts auth (s.abandonWhere reason desk f) := by
  refine foldl_acts _ (fun t n => ?_) _ s
  split
  exacts [t.acts_abandon .., .refl auth t]

theorem Part.event_makeOffer (s : Part) (d c n : Nat) (l : List Nat) : s.Event auth (s.makeOffer d c n l) := by
  unfold Part.makeOffer
  extract_lets x s1
  have h1 : s.Acts auth s1 :=
    (s.acts_modSession n _).trans (foldl_acts _ (fun t a => t.acts_setSession a _) _ _)
  exact .close s [] (h1.trans (foldl_acts _ (fun t a => t.acts_write ..) _ s1))

theorem event_offer (body : List Byte) (s : Part) : s.Event auth (offerHandler body s).1 := by
  unfold offerHandler
  dsimp only
  split
  exacts [s.event_refuse .., s.event_makeOffer ..]

theorem event_takeUp (body : List Byte) (s : Part) : s.Event auth (takeUpHandler body s).1 := by
  unfold takeUpHandler
  dsimp only
  split
  · exact s.event_refuse ..
  · exact .close s [] ((s.acts_modSession _ _).trans (Part.acts_write ..))

theorem event_reviewNext (body : List Byte) (s : Part) : s.Event auth (reviewNextHandler body s).1 := by
  unfold reviewNextHandler
  dsimp only
  split
  · exact s.event_refuse ..
  · exact .close s [] (s.acts_modSession _ _)

theorem event_reviewDelta (body : List Byte) (s : Part) : s.Event auth (reviewDeltaHandler body s).1 := by
  unfold reviewDeltaHandler
  dsimp only
  split
  · exact s.event_refuse ..
  · split
    · exact .close s [] (s.acts_modSession _ _)
    · exact .close s [] (s.acts_modSession _ _)

theorem event_confirmArea (body : List Byte) (s : Part) : s.Event auth (confirmAreaHandler body s).1 := by
  unfold confirmAreaHandler
  dsimp only
  split
  · exact .refl auth s
  · exact s.event_refuse ..
  · exact .close s [] ((s.acts_modSession _ _).trans (Part.acts_write ..))

theorem Part.acts_transferArea (s : Part) (d n c a : Nat) : s.Acts auth (s.transferArea d n c a) :=
  ((s.acts_setResponsible a _).trans (Part.acts_bump _ a)).trans (Part.acts_write ..)

theorem Part.acts_complete (s : Part) (d n : Nat) : s.Acts auth (s.complete d n) := by
  unfold Part.complete
  extract_lets x s1 s2
  have h2 : s.Acts auth s2 := ((s.acts_modSession n _).trans (Part.acts_clearSessionField _ _)).trans
    (foldl_acts _ (fun t a => t.acts_transferArea ..) _ s1)
  exact (h2.trans s2.acts_recompute).trans (Part.acts_modSession _ n _)

theorem event_readyRequest (q : Party) (body : List Byte) (s : Part) :
    s.Event auth (Part.readyRequest q body s).1 := by
  unfold Part.readyRequest
  dsimp only
  split
  · exact s.event_refuse ..
  · refine .close s [] ?_
    split
    exacts [s.acts_complete .., s.acts_modSession _ _]

theorem event_withdraw (body : List Byte) (s : Part) : s.Event auth (withdrawHandler body s).1 := by
  unfold withdrawHandler
  dsimp only
  split
  · exact s.event_refuse ..
  · exact .close s [] (s.acts_abandon ..)

theorem Part.event_sessionExpires (s : Part) (n : Nat) : s.Event auth (s.sessionExpires n) := .close s [] (s.acts_abandon ..)

end

/-! ### Authority: the steps that change sign-ons and stacks -/

theorem Part.acts_credDesk (s : Part) (v : Vector Nat 64) : s.Acts true { s with credDesk := v } :=
  .quiet rfl rfl rfl rfl rfl (fun h => nomatch h) fun _ => ⟨rfl, rfl⟩

theorem Part.acts_setCred (s : Part) (c : Nat) (x : Credential) : s.Acts true (s.setCred c x) :=
  .quiet rfl rfl rfl rfl rfl (fun h => nomatch h) fun _ => ⟨rfl, rfl⟩

theorem Part.acts_signOffDesk (s : Part) (d : Nat) : s.Acts true (s.signOffDesk d) :=
  ((s.acts_seat d _).trans (Part.acts_credDesk _ _)).trans (foldl_acts _ (fun t k => (returnSlot_moves t d k).acts) _ _)

theorem Part.acts_cascade (s : Part) (d n : Nat) (reason : W16) : s.Acts true (s.cascade d n reason) :=
  (s.acts_seat d _).trans (foldl_acts _ (fun t _ => t.acts_write ..) _ _)

theorem event_signOn (body : List Byte) (s : Part) : s.Event true (signOnHandler body s).1 := by
  unfold signOnHandler
  dsimp only
  split
  · exact s.event_refuse ..
  · exact .close s [] ((((s.acts_seat _ _).trans (Part.acts_credDesk _ _)).trans (Part.acts_recompute _)).trans
      (Part.acts_write ..))

theorem event_signOff (body : List Byte) (s : Part) : s.Event true (signOffHandler body s).1 := by
  unfold signOffHandler
  dsimp only
  split
  · exact .refl true s
  · exact .close s [] ((((s.acts_abandonWhere ..).trans (Part.acts_signOffDesk _ _)).trans (Part.acts_recompute _)).trans
      (Part.acts_write ..))

theorem event_elevate (body : List Byte) (s : Part) : s.Event true (elevateHandler body s).1 := by
  unfold elevateHandler
  dsimp only
  split
  · exact s.event_refuse ..
  · exact .close s [] ((s.acts_seat _ _).trans (Part.acts_write ..))

theorem event_drop (body : List Byte) (s : Part) : s.Event true (dropHandler body s).1 := by
  unfold dropHandler
  dsimp only
  split
  · exact .refl true s
  · exact .close s [] (s.acts_cascade ..)

theorem Part.event_layerExpires (s : Part) (d n : Nat) : s.Event true (s.layerExpires d n) := .close s [] (s.acts_cascade ..)

theorem Part.event_runningEdit (s : Part) (body : List Byte) : s.Event true (s.runningEdit body).1 := by
  unfold Part.runningEdit
  dsimp only
  split
  · exact s.event_refuse ..
  · unfold Part.editCredential
    extract_lets d s1 s2
    have h2 : s1.Acts true s2 := by
      show s1.Acts true (if _ then s1 else _)
      split
      exacts [.refl true s1, s1.acts_seat ..]
    exact .close s _ (((s.acts_setCred ..).trans h2).trans s2.acts_recompute)

theorem Part.acts_releaseResponsibility {auth : Bool} (s : Part) (d a : Nat) : s.Acts auth (s.releaseResponsibility d a) :=
  ((s.acts_setResponsible a _).trans (Part.acts_bump _ a)).trans (Part.acts_write ..)

theorem Part.acts_revokeGrants (s : Part) (c d : Nat) : s.Acts true (s.revokeGrants c d) := by
  unfold Part.revokeGrants
  split
  exacts [.refl true s, s.acts_cascade ..]

theorem Part.acts_forceOff (s : Part) (c : Nat) : s.Acts true (s.forceOff c) := by
  unfold Part.forceOff
  split
  · exact .refl true s
  · exact (s.acts_signOffDesk _).trans (Part.acts_write ..)

theorem event_revoke (body : List Byte) (s : Part) : s.Event true (revokeHandler body s).1 := by
  unfold revokeHandler
  dsimp only
  split
  · exact s.event_refuse ..
  · unfold Part.revoke
    extract_lets s1 s2 s3
    have h1 : s.Acts true s1 := s.acts_abandonWhere ..
    have h2 : s1.Acts true s2 := foldl_acts _ (fun t a => t.acts_releaseResponsibility _ a) _ s1
    have h3 : s2.Acts true s3 := foldl_acts _ (fun t e => t.acts_revokeGrants _ e) _ s2
    exact .close s [] ((((h1.trans h2).trans h3).trans (s3.acts_forceOff _)).trans
      ((Part.acts_setCred ..).trans (Part.acts_recompute _)))

end Sys2Proof.Machine
end

section
/-! The relation `Part.Carries`, which a command must keep for six of the invariants to go on holding, and the taking of a
request, the assembler, the transmitter and the link reset under it. -/

namespace Sys2Proof.Machine

/-- The invariants of the journal, the report queue, the load indices, sign-ons and horns carry over from `s` to `t`. -/
structure Part.CarriesRest (s t : Part) : Prop where
  journal : s.JournalRun → t.JournalRun
  reports : s.ReportsBounded → t.ReportsBounded
  flood : s.FloodBounded → t.FloodBounded
  seats : s.SignOnsAgree → t.SignOnsAgree
  horns : s.HornsFollow → t.HornsFollow

/-- These invariants and that of the link carry over from `s` to `t`. -/
structure Part.Carries (s t : Part) : Prop extends s.CarriesRest t where
  link : s.LinkBounded → t.LinkBounded

theorem Part.CarriesRest.trans {s t u : Part} (h : s.CarriesRest t) (k : t.CarriesRest u) : s.CarriesRest u where
  journal hs := k.journal (h.journal hs)
  reports hs := k.reports (h.reports hs)
  flood hs := k.flood (h.flood hs)
  seats hs := k.seats (h.seats hs)
  horns hs := k.horns (h.horns hs)

theorem Part.Carries.refl (s : Part) : s.Carries s := ⟨⟨id, id, id, id, id⟩, id⟩

theorem Part.Carries.trans {s t u : Part} (h : s.Carries t) (k : t.Carries u) : s.Carries u :=
  ⟨h.toCarriesRest.trans k.toCarriesRest, fun hs => k.link (h.link hs)⟩

/-! ### Sign-ons, desk by desk and credential by credential -/

/-- What `SignOnsAgree` says of one desk. -/
structure Part.SeatOk (s : Part) (d : Nat) : Prop where
  empty : (s.desk d).signedOn = 0 → (s.desk d).stack = []
  holder : (s.desk d).signedOn ≠ 0 → (s.desk d).signedOn ≤ 64 ∧ getAt s.credDesk (s.desk d).signedOn = d
    ∧ (s.cred (s.desk d).signedOn).valid = true
    ∧ (s.desk d).stack.head? = some (s.baseOf (s.desk d).signedOn)
  depth : (s.desk d).stack.length ≤ 4
  rises : stackRises (s.desk d).stack = true

/-- What `SignOnsAgree` says of one credential. -/
def Part.CredOk (s : Part) (c : Nat) : Prop :=
  getAt s.credDesk c ≠ 0 → getAt s.credDesk c ≤ 6 ∧ (s.desk (getAt s.credDesk c)).signedOn = c

theorem Part.signOnsAgree_iff (s : Part) :
    s.SignOnsAgree ↔ (∀ d ∈ numbers 6, s.SeatOk d) ∧ ∀ c ∈ numbers 64, s.CredOk c :=
  ⟨fun ⟨h, h1⟩ => ⟨fun d hd => ⟨(h d hd).1, (h d hd).2.1, (h d hd).2.2.1, (h d hd).2.2.2⟩, h1⟩,
    fun ⟨h, h1⟩ => ⟨fun d hd => ⟨(h d hd).empty, (h d hd).holder, (h d hd).depth, (h d hd).rises⟩, h1⟩⟩

theorem Part.SameSeats.agree {s t : Part} (h : s.SameSeats t) (hs : s.SignOnsAgree) : t.SignOnsAgree := by
  rw [Part.signOnsAgree_iff] at hs ⊢
  obtain ⟨hlive, hcred, hseat⟩ := h
  have hbase : ∀ c, t.baseOf c = s.baseOf c := fun c => by simp only [Part.baseOf, Part.effPerms, Part.cred, hlive]
  refine ⟨fun d hd => ?_, fun c hc => ?_⟩
  · obtain ⟨h1, h2, h3, h4⟩ := hs.1 d hd
    obtain ⟨hon, hst⟩ := hseat d
    refine ⟨?_, ?_, ?_, ?_⟩
    · rw [hon, hst]; exact h1
    · rw [hon, hst, hbase, hcred, Part.cred, hlive]; exact h2
    · rw [hst]; exact h3
    · rw [hst]; exact h4
  · have := hs.2 c hc
    unfold Part.CredOk at this ⊢
    rw [hcred, (hseat _).1]
    exact this

/-! ### Events -/

/-- The link's bounds speak of the Link Interface and the two pacing fields alone. -/
theorem Part.LinkBounded.congr {s t : Part} (h : s.LinkBounded) (hlif : t.lif = s.lif)
    (hlive : t.live.plant = s.live.plant) (hstaged : t.staged.plant = s.staged.plant) : t.LinkBounded := by
  unfold Part.LinkBounded at h ⊢
  rw [hlif, hlive, hstaged]
  exact h

/-- An event carries the invariants; one of authority needs its own argument about sign-ons. -/
theorem Part.Event.carries {auth : Bool} {s t : Part} (h : s.Event auth t)
    (hseats : s.SignOnsAgree → t.SignOnsAgree) : s.Carries t where
  journal := h.journal
  reports := h.reports
  flood := h.flood
  seats := hseats
  horns := h.horns
  link hs := hs.congr h.lif h.plant h.staged

theorem Part.Event.carriesAll {s t : Part} (h : s.Event false t) : s.Carries t := h.carries (h.seats rfl).agree

/-- A change of the Link Interface alone. -/
theorem Part.carriesRest_modLif (s : Part) (f : Lif → Lif) : s.CarriesRest (s.modLif f) := ⟨id, id, id, id, id⟩

theorem Part.carries_modLif (s : Part) (f : Lif → Lif) (h : s.LinkBounded → (s.modLif f).LinkBounded) :
    s.Carries (s.modLif f) := ⟨s.carriesRest_modLif f, h⟩

/-- A record written outside any event's end. -/
theorem Part.carries_write (s : Part) (sig : Bool) (f : RecordFields) : s.Carries (s.write sig f) where
  journal := (s.acts_write (auth := false) sig f).journal
  reports := (s.acts_write (auth := false) sig f).reports
  flood := id
  seats := id
  horns := id
  link := id

theorem carries_closeEvent (s : Part) (extra : List ReportEntry) (t : Part) : t.Carries (closeEvent s extra t) :=
  (Part.Event.close s extra (.refl false t)).carriesAll

/-! ### Requests and replies (R172) -/

theorem Part.carries_reply (s : Part) (tag kind : Byte) (body : List Byte) : s.Carries (s.reply tag kind body) :=
  s.carries_modLif _ fun ⟨h1, h2, h3, h4, h5, h6, _, h8⟩ => ⟨h1, h2, h3, h4, h5, h6, by simp, h8⟩

/-- The oldest frame leaves the input queue. -/
theorem Part.carries_taken (s : Part) : s.Carries s.taken :=
  s.carries_modLif _ fun ⟨h1, h2, h3, h4, h5⟩ =>
    ⟨h1, h2, (List.tail_sublist _).length_le.trans h3, fun f hf => h4 f (List.mem_of_mem_tail hf), h5⟩

theorem Part.taken_eq {s : Part} {f : Frame} {rest : List Frame} (h : s.lif.inputQueue = f :: rest) :
    (s.modLif fun l => { l with inputQueue := rest }) = s.taken := by
  simp [Part.taken, Part.modLif, h]

/-- A request whose owning block carries the invariants carries them. -/
theorem Part.carries_serve (s : Part) (k : ReqKind) (h : Handler) (hh : ∀ body (t : Part), t.Carries (h body t).1) :
    s.Carries (s.serve k h) := by
  unfold Part.serve
  split
  · next f rest hslot hq =>
    split
    · rw [s.taken_eq hq]
      have hhandle : s.taken.Carries (s.taken.handle k h f.body).1 := by
        unfold Part.handle
        split_ifs
        exacts [.refl _, .refl _, hh ..]
      exact (s.carries_taken.trans hhandle).trans (Part.carries_reply ..)
    · exact .refl s
  · exact .refl s

theorem Part.carries_serveUnknown (s : Part) : s.Carries s.serveUnknown := by
  unfold Part.serveUnknown
  split
  · next f rest hslot hq =>
    split
    · exact .refl s
    · rw [s.taken_eq hq]
      exact s.carries_taken.trans (Part.carries_reply ..)
  · exact .refl s

/-! ### The assembler (R170, R171) -/

/-- Another assembler that is sound. -/
theorem Part.carries_setAsm (s : Part) (x : Assembler) (h : s.LinkBounded → x.Sound ∧ x.gap ≤ 3) :
    s.Carries (s.modLif fun l => { l with asm := x }) :=
  s.carries_modLif _ fun hs => ⟨(h hs).1, (h hs).2, hs.2.2⟩

theorem Part.carries_badFrame (s : Part) : s.Carries (s.modLif Lif.badFrame) :=
  s.carries_modLif _ fun ⟨_, _, h3, h4, h5, h6, h7, _, h9⟩ =>
    ⟨trivial, Nat.zero_le _, h3, h4, h5, h6, h7, Nat.min_le_left .., h9⟩

theorem Part.carries_hostActivity (s : Part) : s.Carries s.hostActivity := by
  unfold Part.hostActivity
  dsimp only
  have h : s.Carries (s.modLif fun l => { l with link := .active, quietTimer := Timer.load s.live.plant.quietTime }) :=
    s.carries_modLif _ id
  split
  · exact h.trans (Part.carries_write ..)
  · exact h

/-- R171: an offered frame with a tag and a body in range. -/
theorem Part.LinkBounded.offer {s : Part} (h : s.LinkBounded) {f : Frame} (htag : f.tag ≠ 0) (hbody : f.body.length ≤ 240) :
    (s.modLif fun l => l.offer f).LinkBounded := by
  obtain ⟨h1, h2, h3, h4, h5, h6, h7, h8, h9⟩ := h
  show ({ s with lif := s.lif.offer f } : Part).LinkBounded
  unfold Lif.offer
  split
  · next hroom =>
    refine ⟨h1, h2, ?_, ?_, h5, h6, h7, h8, h9⟩
    · simpa using hroom
    · exact List.forall_mem_append.2 ⟨h4, List.forall_mem_singleton.2 ⟨htag, hbody⟩⟩
  · split
    · next hbusy =>
      refine ⟨h1, h2, h3, h4, ?_, ?_, fun r hr => (h7 r hr).trans (by simp), h8, h9⟩
      · simpa using hbusy
      · exact List.forall_mem_append.2 ⟨h6, List.forall_mem_singleton.2 htag⟩
    · exact ⟨h1, h2, h3, h4, h5, h6, h7, Nat.min_le_left .., h9⟩

theorem Part.carries_checkFrame (s : Part) (len : Byte) (inner crc : List Byte)
    (hlen : s.LinkBounded → inner.length ≤ 242) : s.Carries (s.checkFrame len inner crc) := by
  unfold Part.checkFrame
  split
  · next tag kind body =>
    split
    · next hok =>
      have hasm := s.carries_setAsm Assembler.hunting fun _ => ⟨trivial, Nat.zero_le _⟩
      have hact := Part.carries_hostActivity (s.modLif fun l => { l with asm := Assembler.hunting })
      refine ⟨(((hasm.trans hact).toCarriesRest).trans (Part.carriesRest_modLif ..)).trans
        (carries_closeEvent ..).toCarriesRest, fun hs => ?_⟩
      have hbody : body.length ≤ 240 := by
        have := hlen hs
        simp only [List.length_cons] at this
        omega
      exact (carries_closeEvent ..).link (((hasm.trans hact).link hs).offer hok.2 hbody)
    · exact s.carries_badFrame
  · exact s.carries_badFrame

theorem Assembler.sound_collecting {x : Assembler} (hx : x.state = .collecting) (h : x.Sound) :
    2 ≤ x.len.toNat ∧ x.len.toNat ≤ 242 ∧ x.buf.length < x.len.toNat ∧ x.crc = [] := by
  unfold Assembler.Sound at h
  rw [hx] at h
  exact h

theorem Assembler.sound_checking {x : Assembler} (hx : x.state = .checking) (h : x.Sound) :
    2 ≤ x.len.toNat ∧ x.len.toNat ≤ 242 ∧ x.buf.length = x.len.toNat ∧ x.crc.length ≤ 1 := by
  unfold Assembler.Sound at h
  rw [hx] at h
  exact h

theorem Part.carries_receive (s : Part) (b : Byte) (stopLow : Bool) : s.Carries (s.receive b stopLow) := by
  unfold Part.receive
  extract_lets a set
  split
  case h_1 =>
    split
    exacts [s.carries_setAsm _ fun _ => ⟨trivial, Nat.zero_le _⟩, .refl s]
  case h_2 =>
    split_ifs
    · exact s.carries_badFrame
    · next hlen => exact s.carries_setAsm _ fun _ => ⟨⟨hlen.1, hlen.2, Nat.lt_of_lt_of_le Nat.zero_lt_two hlen.1, rfl⟩, Nat.zero_le _⟩
    · exact s.carries_badFrame
  case h_3 hst =>
    split_ifs with _ hmore
    · exact s.carries_badFrame
    · refine s.carries_setAsm _ fun hs => ⟨?_, Nat.zero_le _⟩
      obtain ⟨hlo, hhi, _, hcrc⟩ := Assembler.sound_collecting hst hs.1
      exact ⟨hlo, hhi, hmore, hcrc⟩
    · refine s.carries_setAsm _ fun hs => ⟨?_, Nat.zero_le _⟩
      obtain ⟨hlo, hhi, hbuf, hcrc⟩ := Assembler.sound_collecting hst hs.1
      refine ⟨hlo, hhi, Nat.le_antisymm ?_ (Nat.le_of_not_lt hmore), by rw [hcrc]; exact Nat.zero_le _⟩
      show (a.buf ++ [b]).length ≤ _
      simpa using hbuf
  case h_4 hst =>
    split_ifs
    · exact s.carries_badFrame
    · refine s.carries_setAsm _ fun hs => ⟨?_, Nat.zero_le _⟩
      obtain ⟨hlo, hhi, hbuf, _⟩ := Assembler.sound_checking hst hs.1
      unfold Assembler.Sound
      rw [show ({ a with crc := [b], gap := 0 } : Assembler).state = .checking from hst]
      exact ⟨hlo, hhi, hbuf, Nat.le_refl _⟩
    · refine s.carries_checkFrame _ _ _ fun hs => ?_
      obtain ⟨_, hhi, hbuf, _⟩ := Assembler.sound_checking hst hs.1
      exact Nat.le_trans (Nat.le_of_eq hbuf) hhi

end Sys2Proof.Machine
end

section
/-! The transmitter, the link reset, the Record Store's settings, the clock and the two ticks carry the invariants. -/

namespace Sys2Proof.Machine

/-! ### The link (R173 to R176) -/

theorem Part.carries_sendReply (s : Part) : s.Carries (s.modLif Lif.sendReply) := by
  refine s.carries_modLif _ fun h => ?_
  obtain ⟨h1, h2, h3, h4, h5, h6, h7, h8⟩ := h
  show ({ s with lif := s.lif.sendReply } : Part).LinkBounded
  unfold Lif.sendReply
  split
  case h_1 => exact ⟨h1, h2, h3, h4, h5, h6, h7, h8⟩
  case h_2 => exact ⟨h1, h2, h3, h4, h5, h6, h7, h8⟩
  case h_3 => exact ⟨h1, h2, h3, h4, h5, h6, by simp, h8⟩
  case h_4 e rest _ hslot hbusy =>
    rw [hbusy] at h5 h6
    exact ⟨h1, h2, h3, h4, Nat.le_of_succ_le h5, fun x hx => h6 x (List.mem_cons_of_mem e hx), by simp [hslot], h8⟩
  case h_5 r e rest _ hslot hbusy =>
    have hahead := h7 r hslot
    rw [hbusy] at h5 h6 hahead
    split
    · refine ⟨h1, h2, h3, h4, ?_, ?_, by simp, h8⟩
      · rw [hbusy]; exact h5
      · rw [hbusy]; exact h6
    · refine ⟨h1, h2, h3, h4, Nat.le_of_succ_le h5, fun x hx => h6 x (List.mem_cons_of_mem e hx), ?_, h8⟩
      intro x hx
      obtain rfl : { r with busyAhead := r.busyAhead - 1 } = x := by simpa using hx
      simp only [List.length_cons] at hahead
      show r.busyAhead - 1 ≤ rest.length
      omega

/-- R174: the entries a report frame leaves are the last of the queue. -/
theorem Part.takeItems_left (s : Part) (l : List ReportEntry) (body : List Byte) : (s.takeItems l body).left <:+ l := by
  induction l generalizing body with
  | nil => exact List.suffix_refl _
  | cons e l ih =>
    unfold Part.takeItems
    dsimp only
    split
    · exact List.suffix_refl _
    · split
      · exact (ih _).trans (List.suffix_cons e l)
      · split
        · exact List.suffix_cons e l
        · exact (ih _).trans (List.suffix_cons e l)

theorem Part.carries_sendReport (s : Part) : s.Carries s.sendReport where
  journal h := h
  reports h := by
    obtain ⟨h1, h2, h3⟩ := (Part.reportsBounded_iff s).1 h
    have hsub : s.buildReport.left.Sublist s.rst.reports := (s.takeItems_left ..).sublist
    refine (Part.reportsBounded_iff _).2 ⟨h1, h2, h3.sublist hsub (fun e he => h3.enabled e (hsub.subset he)) ?_⟩
    show (if _ then 0 else s.rst.dropped) ≤ 65535
    split
    exacts [Nat.zero_le _, h3.dropped]
  flood h := h
  seats h := h
  horns h := h
  link h := by
    obtain ⟨h1, h2, h3, h4, h5, h6, h7, h8, h9, h10, _, h12, h13⟩ := h
    exact ⟨h1, h2, h3, h4, h5, h6, h7, h8, h9, h10, h12, h12, h13⟩

/-- R166: the queue with RESYNC alone is within its bounds, whatever it held before. -/
theorem Part.resync_reports (s : Part) (why : ResyncReason) (h : 4 ≤ s.live.plant.jField) (h' : s.live.plant.jField ≤ 15) :
    (s.resync why).ReportsBounded := by
  refine (Part.reportsBounded_iff _).2 ⟨h, h', List.nodup_singleton _, ?_, ?_, ?_, Nat.zero_le _⟩
  · show 1 ≤ 4096 - 256 * s.live.plant.jField - 1
    omega
  · exact List.forall_mem_singleton.2 fun h => nomatch h
  · exact List.forall_mem_singleton.2 rfl

theorem Part.carries_resync (s : Part) (why : ResyncReason) : s.Carries (s.resync why) :=
  ⟨⟨id, fun h => s.resync_reports why h.1 h.2.1, id, id, id⟩, id⟩

theorem Part.carries_linkReset (s : Part) : s.Carries s.linkReset := by
  refine (s.carries_resync _).trans (Part.carries_modLif _ _ fun h => ?_)
  obtain ⟨_, _, _, _, _, _, _, h8, h9, h10, _, h12, h13⟩ := h
  refine ⟨trivial, Nat.zero_le _, Nat.zero_le _, by simp, Nat.zero_le _, by simp, ?_, h8, h9, h10, Nat.zero_le _, h12, h13⟩
  intro r hr
  obtain ⟨x, _, rfl⟩ := Option.map_eq_some_iff.1 hr
  exact Nat.zero_le _

theorem Part.carries_takenTick (s : Part) :
    s.Carries (s.modLif fun l => { l with breakCount := 10, tickTaken := true }) :=
  s.carries_modLif _ fun ⟨h1, h2, h3, h4, h5, h6, h7, h8, h9, _, h11⟩ =>
    ⟨h1, h2, h3, h4, h5, h6, h7, h8, h9, Nat.le_refl _, h11⟩

theorem Part.carries_goQuiet (s : Part) : s.Carries s.goQuiet := by
  refine Part.Carries.trans (s.carries_modLif _ fun h => ?_) ((Part.carries_write ..).trans (carries_closeEvent s [] _))
  obtain ⟨h1, h2, h3, h4, h5, h6, h7, h8, _, h10⟩ := h
  exact ⟨h1, h2, h3, h4, h5, h6, h7, h8, Nat.zero_le _, h10⟩

/-! ### The Record Store's requests (R159, R160, R165) -/

theorem carries_journalMark (body : List Byte) (s : Part) : s.Carries (journalMarkHandler body s).1 := by
  unfold journalMarkHandler
  dsimp only
  split
  · refine ⟨⟨fun h => ?_, fun h => ?_, id, id, id⟩, id⟩
    · rw [Part.journalRun_iff] at h ⊢
      exact h.congr rfl rfl ((Nat.min_le_left ..).trans h.length)
    · obtain ⟨h1, h2, h3⟩ := (Part.reportsBounded_iff s).1 h
      exact (Part.reportsBounded_iff _).2 ⟨h1, h2, h3.congr rfl rfl h3.dropped⟩
  · exact .refl s

/-- R165: the setting of a kind after a request that names the kinds `l`. -/
theorem Rst.setEnabled_enabled (r : Rst) (l : List Nat) (v : Bool) (k : Nat) (hk : k ∈ numbers 6) :
    getAt (r.setEnabled l v).enabled k = if k ∈ l then v else getAt r.enabled k := by
  have hk6 := (mem_numbers k).1 hk
  unfold Rst.setEnabled
  dsimp only
  generalize r.enabled = e
  induction l generalizing e with
  | nil => simp
  | cons j l ih =>
    rw [List.foldl_cons, ih]
    by_cases hl : k ∈ l
    · simp [hl]
    · by_cases hj : k = j
      · subst hj
        simp [hl, hk6.2, hk6]
      · have hkeep : getAt (if j ≤ 6 then setAt e j v else e) k = getAt e k := by
          split
          · rw [getAt_setAt, if_neg fun h => hj h.1.symm]
          · rfl
        simp [hl, hj, hkeep]

theorem ReportKind.code_mem (k : ReportKind) (h : k.code ≤ 6) : k.code ∈ numbers 6 := by
  refine (mem_numbers _).2 ⟨?_, h⟩
  cases k <;> decide

theorem Rst.setEnabled_kindEnabled (r : Rst) (l : List Nat) (v : Bool) (k : ReportKind) :
    (r.setEnabled l v).kindEnabled k = if k.code ≤ 6 ∧ k.code ∈ l then v else r.kindEnabled k := by
  unfold Rst.kindEnabled
  split
  · next h => simp [r.setEnabled_enabled l v _ (k.code_mem h), h]
  · next h => simp [h]

theorem carries_reportEnable (body : List Byte) (s : Part) : s.Carries (reportEnableHandler body s).1 := by
  unfold reportEnableHandler
  dsimp only
  split_ifs
  · exact .refl s
  · exact .refl s
  · refine ⟨⟨fun h => ?_, fun h => ?_, id, id, id⟩, id⟩
    · rw [Part.journalRun_iff] at h ⊢
      exact h.congr rfl rfl h.unarchived
    · obtain ⟨h1, h2, h3⟩ := (Part.reportsBounded_iff s).1 h
      refine (Part.reportsBounded_iff _).2 ⟨h1, h2, h3.sublist (List.Sublist.refl _) (fun e he => ?_) h3.dropped⟩
      have := h3.enabled e he
      show (s.rst.setEnabled _ true).kindEnabled e.kind = true
      rw [Rst.setEnabled_kindEnabled]
      split
      exacts [rfl, this]

theorem Part.carries_disableReports (s : Part) (l : List Nat) : s.Carries (s.disableReports l) := by
  unfold Part.disableReports
  extract_lets s1
  have h1 : s.Carries s1 := by
    refine ⟨⟨fun h => ?_, fun h => ?_, id, id, id⟩, id⟩
    · rw [Part.journalRun_iff] at h ⊢
      exact h.congr rfl rfl h.unarchived
    · obtain ⟨h1, h2, h3⟩ := (Part.reportsBounded_iff s).1 h
      refine (Part.reportsBounded_iff _).2 ⟨h1, h2, h3.sublist List.filter_sublist (fun e he => ?_) h3.dropped⟩
      obtain ⟨hmem, hkind⟩ := List.mem_filter.1 he
      have hkind : e.kind.code ∉ l := by simpa using hkind
      show (s.rst.setEnabled l false).kindEnabled e.kind = true
      rw [Rst.setEnabled_kindEnabled, if_neg fun h => hkind h.2]
      exact h3.enabled e hmem
  split
  · exact h1.trans (s1.carries_modLif _ id)
  · exact h1

theorem carries_reportDisable (body : List Byte) (s : Part) : s.Carries (reportDisableHandler body s).1 := by
  unfold reportDisableHandler
  dsimp only
  split
  exacts [.refl s, s.carries_disableReports _]

/-! ### The clock and the ticks (R64 to R67) -/

theorem Part.carries_tset (s : Part) (t : Tset) : s.Carries { s with tset := t } := ⟨⟨id, id, id, id, id⟩, id⟩

theorem carries_setTime (body : List Byte) (s : Part) : s.Carries (setTimeHandler body s).1 := s.carries_tset _

/-- Desks replaced by others with the same sign-ons, slots and horns, whose stacks hold the same layers apart from their timers. -/
theorem Part.carries_desks (s : Part) (v : Vector Desk 6)
    (hseat : s.SignOnsAgree → ({ s with desks := v } : Part).SignOnsAgree)
    (hhorn : ∀ d, (getAt v d).slots = (s.desk d).slots ∧ (getAt v d).horn = (s.desk d).horn
      ∧ (getAt v d).hornPattern = (s.desk d).hornPattern) : s.Carries { s with desks := v } := by
  refine ⟨⟨id, id, id, hseat, fun h d hd => ?_⟩, id⟩
  obtain ⟨h1, h2, h3⟩ := hhorn d
  have hocc : (getAt v d).hornFromSlots = (s.desk d).hornFromSlots := by
    unfold Desk.hornFromSlots Desk.occupants
    rw [h1]
  show (getAt v d).HornOk
  unfold Desk.HornOk
  rw [hocc, h2, h3]
  exact h d hd

/-- A desk of a table whose desks have each taken a tick. -/
theorem Part.ticked_desk (s : Part) (r : Bool) (a b : Nat → Bool) (d : Nat) :
    ∃ x y, getAt (s.desks.mapIdx fun i z => z.tick r (a i) (b i)) d = (s.desk d).tick r x y ∨
      getAt (s.desks.mapIdx fun i z => z.tick r (a i) (b i)) d = s.desk d := by
  by_cases h : 1 ≤ d ∧ d ≤ 6
  · exact ⟨a (d - 1), b (d - 1), .inl (getAt_mapIdx _ s.desks d h.1 h.2)⟩
  · exact ⟨false, false, .inr (by rw [getAt_out _ _ h, Part.desk, getAt_out _ _ h])⟩

theorem Part.carries_tick (s : Part) (pins : TickPins) : s.Carries (s.tick pins) := by
  unfold Part.tick
  extract_lets ticked
  have hdesks : s.Carries { s with
      desks := s.desks.mapIdx fun i x => x.tick (s.phase == .running) (pins.ackLow.getLsbD i) (pins.silLow.getLsbD i) } := by
    have hkept := s.ticked_desk (s.phase == .running) pins.ackLow.getLsbD pins.silLow.getLsbD
    refine s.carries_desks _ (Part.SameSeats.agree ⟨rfl, rfl, fun d => ?_⟩) fun d => ?_
    · obtain ⟨x, y, h | h⟩ := hkept d <;> (rw [Part.desk, h]; exact ⟨rfl, rfl⟩)
    · obtain ⟨x, y, h | h⟩ := hkept d <;> (rw [h]; exact ⟨rfl, rfl, rfl⟩)
  have hlif : s.Carries (s.modLif fun l => l.tick pins.rxdLow) := by
    refine s.carries_modLif _ fun h => ?_
    obtain ⟨h1, h2, h3, h4, h5, h6, h7, h8, h9, h10, h11, h12⟩ := h
    show ({ s with lif := s.lif.tick pins.rxdLow } : Part).LinkBounded
    unfold Lif.tick Assembler.tick
    split_ifs
    · exact ⟨h1, h2, h3, h4, h5, h6, h7, h8, h9, h10, h11, h12⟩
    · exact ⟨h1, h2, h3, h4, h5, h6, h7, h8, h9, Nat.min_le_left .., (Nat.sub_le ..).trans h11, h12⟩
    · exact ⟨h1, h2, h3, h4, h5, h6, h7, h8, h9, Nat.zero_le _, (Nat.sub_le ..).trans h11, h12⟩
    · exact ⟨h1, Nat.min_le_left .., h3, h4, h5, h6, h7, h8, h9, Nat.min_le_left .., (Nat.sub_le ..).trans h11, h12⟩
    · exact ⟨h1, Nat.min_le_left .., h3, h4, h5, h6, h7, h8, h9, Nat.zero_le _, (Nat.sub_le ..).trans h11, h12⟩
  have hticked : s.Carries ticked :=
    ⟨⟨hdesks.journal, hdesks.reports, hdesks.flood, hdesks.seats, hdesks.horns⟩, hlif.link⟩
  split
  · exact hticked.trans ticked.carries_linkReset
  · exact hticked

/-- A layer's tick changes its timer alone. -/
theorem Layer.tick_contents (l : Layer) :
    l.tick.perms = l.perms ∧ l.tick.scope = l.scope ∧ l.tick.elev.isSome = l.elev.isSome
      ∧ (l.elev = none → l.tick = l) := by
  refine ⟨rfl, rfl, by simp [Layer.tick], fun h => ?_⟩
  obtain ⟨p, sc, e⟩ := l
  obtain rfl : e = none := h
  rfl

theorem stackRises_tick (l : List Layer) : stackRises (l.map Layer.tick) = stackRises l := by
  induction l with
  | nil => rfl
  | cons x l ih =>
    cases l with
    | nil => rfl
    | cons y l =>
      obtain ⟨h1, h2, _⟩ := x.tick_contents
      obtain ⟨k1, k2, k3, _⟩ := y.tick_contents
      simp only [List.map_cons] at ih ⊢
      simp only [stackRises, h1, h2, k1, k2, k3, ih]

theorem Part.carries_second (s : Part) : s.Carries s.second := by
  have hdesk : ∀ d, getAt (s.desks.map Desk.second) d = (s.desk d).second ∨
      getAt (s.desks.map Desk.second) d = s.desk d := fun d => by
    by_cases h : 1 ≤ d ∧ d ≤ 6
    · exact .inl (getAt_map _ s.desks d h.1 h.2)
    · exact .inr (by rw [getAt_out _ _ h, Part.desk, getAt_out _ _ h])
  have hdesks : s.Carries { s with desks := s.desks.map Desk.second } := by
    refine s.carries_desks _ (fun hs => ?_) fun d => ?_
    · rw [Part.signOnsAgree_iff] at hs ⊢
      refine ⟨fun d hd => ?_, fun c hc hne => ?_⟩
      · obtain ⟨h1, h2, h3, h4⟩ := hs.1 d hd
        have hx : ({ s with desks := s.desks.map Desk.second } : Part).desk d = (s.desk d).second :=
          getAt_map _ s.desks d ((mem_numbers d).1 hd).1 ((mem_numbers d).1 hd).2
        refine ⟨?_, ?_, ?_, ?_⟩
        · rw [hx]
          intro h
          simp [Desk.second, h1 h]
        · rw [hx]
          intro h
          obtain ⟨k1, k2, k3, k4⟩ := h2 h
          refine ⟨k1, k2, k3, ?_⟩
          show ((s.desk d).stack.map Layer.tick).head? = some (s.baseOf (s.desk d).signedOn)
          rw [List.head?_map, k4]
          rfl
        · rw [hx]
          simpa [Desk.second] using h3
        · rw [hx]
          exact (stackRises_tick _).trans h4
      · obtain ⟨h1, h2⟩ := hs.2 c hc hne
        refine ⟨h1, Eq.trans ?_ h2⟩
        show (getAt (s.desks.map Desk.second) (getAt s.credDesk c)).signedOn = (s.desk (getAt s.credDesk c)).signedOn
        obtain h | h := hdesk (getAt s.credDesk c) <;> rw [h]
        rfl
    · obtain h | h := hdesk d <;> (rw [h]; exact ⟨rfl, rfl, rfl⟩)
  refine ⟨⟨hdesks.journal, hdesks.reports, hdesks.flood, hdesks.seats, hdesks.horns⟩, fun h => ?_⟩
  obtain ⟨h1, h2, h3, h4, h5, h6, h7, h8, h9, h10⟩ := h
  refine ⟨h1, h2, h3, h4, h5, h6, h7, h8, ?_, h10⟩
  show (if _ then _ else _) ≤ 65535
  split
  exacts [Nat.min_le_left .., h9]

end Sys2Proof.Machine
end

section
/-! Sign-ons and stacks through the events of authority (R23 to R37). -/

namespace Sys2Proof.Machine

/-! ### Rising stacks (R23) -/

theorem permsWithin_or (p q : PermSet) : permsWithin p (p ||| q) = true := by
  have h : p &&& ~~~(p ||| q) = 0 := by
    ext i
    simp only [BitVec.getElem_and, BitVec.getElem_not, BitVec.getElem_or]
    cases p[i] <;> simp
  simp [permsWithin, h]

theorem scope_or (a b : AreaSet) : (a &&& ~~~(a ||| b) == 0) = true := permsWithin_or a b

theorem stackRises_cons_cons (x y : Layer) (l : List Layer) :
    stackRises (x :: y :: l) = true ↔ permsWithin x.perms y.perms = true ∧ (x.scope &&& ~~~y.scope == 0) = true
      ∧ y.elev.isSome = true ∧ stackRises (y :: l) = true := by
  simp only [stackRises, Bool.and_eq_true, and_assoc]

theorem stackRises_take {l : List Layer} (h : stackRises l = true) (n : Nat) : stackRises (l.take n) = true := by
  induction l generalizing n with
  | nil => simp [stackRises]
  | cons x l ih =>
    cases n with
    | zero => rfl
    | succ n =>
      cases l with
      | nil => cases n <;> rfl
      | cons y l =>
        cases n with
        | zero => rfl
        | succ n =>
          obtain ⟨h1, h2, h3, h4⟩ := (stackRises_cons_cons x y l).1 h
          exact (stackRises_cons_cons x y _).2 ⟨h1, h2, h3, ih h4 (n + 1)⟩

/-- R27: a layer that holds the top one goes on top. -/
theorem stackRises_over {l : List Layer} (h : stackRises l = true) {below : Layer} (hl : l.getLast? = some below)
    (c : Nat) (perms : PermSet) (sc : AreaSet) (minutes : Nat) :
    stackRises (l ++ [below.over c perms sc minutes]) = true := by
  induction l with
  | nil => cases hl
  | cons x l ih =>
    cases l with
    | nil =>
      obtain rfl : x = below := by simpa using hl
      exact (stackRises_cons_cons _ _ _).2 ⟨permsWithin_or .., scope_or .., rfl, rfl⟩
    | cons y l =>
      obtain ⟨h1, h2, h3, h4⟩ := (stackRises_cons_cons x y l).1 h
      exact (stackRises_cons_cons x y _).2 ⟨h1, h2, h3, ih h4 (by simpa using hl)⟩

theorem stackRises_elev {x : Layer} {l : List Layer} (h : stackRises (x :: l) = true) : ∀ y ∈ l, y.elev.isSome = true := by
  induction l generalizing x with
  | nil => simp
  | cons y l ih =>
    obtain ⟨_, _, h3, h4⟩ := (stackRises_cons_cons x y l).1 h
    exact List.forall_mem_cons.2 ⟨h3, ih h4⟩

theorem rebuildOver_some (below l : Layer) (e : Elevation) (h : l.elev = some e) (rest : List Layer) :
    rebuildOver below (l :: rest) =
      { l with perms := below.perms ||| e.grantPerms, scope := below.scope ||| e.grantScope }
        :: rebuildOver { l with perms := below.perms ||| e.grantPerms, scope := below.scope ||| e.grantScope } rest := by
  rw [rebuildOver, h]

/-- R35: elevation layers built again over a base layer rise. -/
theorem stackRises_rebuild (l : List Layer) (below : Layer) (h : ∀ y ∈ l, y.elev.isSome = true) :
    stackRises (below :: rebuildOver below l) = true := by
  induction l generalizing below with
  | nil => rfl
  | cons y l ih =>
    obtain ⟨e, he⟩ := Option.isSome_iff_exists.1 (h y (List.mem_cons_self ..))
    rw [rebuildOver_some below y e he]
    exact (stackRises_cons_cons _ _ _).2
      ⟨permsWithin_or .., scope_or .., h y (List.mem_cons_self ..), ih _ fun z hz => h z (List.mem_cons_of_mem y hz)⟩

theorem rebuildOver_length (below : Layer) (l : List Layer) : (rebuildOver below l).length = l.length := by
  induction l generalizing below with
  | nil => rfl
  | cons y l ih =>
    unfold rebuildOver
    split <;> simp [ih]

/-! ### Changes of one stack (R27 to R29) -/

/-- A part whose stack at desk `d` alone is another, over the same base layer. -/
theorem Part.SignOnsAgree.restack {s t : Part} (hs : s.SignOnsAgree) (hlive : t.live = s.live)
    (hcred : t.credDesk = s.credDesk) (hon : ∀ e, (t.desk e).signedOn = (s.desk e).signedOn) (d : Nat)
    (hother : ∀ e, e ≠ d → (t.desk e).stack = (s.desk e).stack)
    (hempty : (s.desk d).signedOn = 0 → (t.desk d).stack = [])
    (hhead : (t.desk d).stack.head? = (s.desk d).stack.head?) (hlen : (t.desk d).stack.length ≤ 4)
    (hrise : stackRises (t.desk d).stack = true) : t.SignOnsAgree := by
  rw [Part.signOnsAgree_iff] at hs ⊢
  have hbase : ∀ c, t.baseOf c = s.baseOf c := fun c => by simp only [Part.baseOf, Part.effPerms, Part.cred, hlive]
  refine ⟨fun e he => ?_, fun c hc => ?_⟩
  · obtain ⟨h1, h2, h3, h4⟩ := hs.1 e he
    by_cases hed : e = d
    · subst hed
      refine ⟨by rw [hon]; exact hempty, ?_, hlen, hrise⟩
      rw [hon, hbase, hcred, Part.cred, hlive, hhead]
      exact h2
    · rw [← hother e hed] at h1 h2 h3 h4
      refine ⟨by rw [hon]; exact h1, ?_, h3, h4⟩
      rw [hon, hbase, hcred, Part.cred, hlive]
      exact h2
  · have := hs.2 c hc
    unfold Part.CredOk at this ⊢
    rw [hcred, hon]
    exact this

/-- R29: the layers from an elevation layer up go. -/
theorem Part.SignOnsAgree.cascade {s : Part} (hs : s.SignOnsAgree) {d n : Nat} (hd : d ∈ numbers 6) (hn : 2 ≤ n)
    (reason : W16) : (s.cascade d n reason).SignOnsAgree := by
  have hwrites : (s.modDesk d fun x => { x with stack := x.stack.take (n - 1) }).SameSeats (s.cascade d n reason) :=
    (foldl_acts (auth := false) _ (fun t _ => t.acts_write ..) _ _).seats rfl
  obtain ⟨h1, h2, h3, h4⟩ := ((Part.signOnsAgree_iff s).1 hs).1 d hd
  have hmine : ((s.modDesk d fun x => { x with stack := x.stack.take (n - 1) }).desk d) =
      { s.desk d with stack := (s.desk d).stack.take (n - 1) } := by
    rw [Part.modDesk_desk, if_pos ⟨rfl, (mem_numbers d).1 hd⟩]
  refine hwrites.agree (hs.restack rfl rfl (fun e => ?_) d (fun e he => ?_) ?_ ?_ ?_ ?_)
  · rw [Part.modDesk_desk]
    split <;> rfl
  · rw [Part.modDesk_desk, if_neg fun h => he h.1.symm]
  · intro h
    rw [hmine]
    simp [h1 h]
  · rw [hmine]
    obtain ⟨m, rfl⟩ : ∃ m, n = m + 2 := ⟨n - 2, by omega⟩
    cases (s.desk d).stack <;> rfl
  · rw [hmine]
    exact (List.length_take_le' ..).trans h3
  · rw [hmine]
    exact stackRises_take h4 _

/-- R37: a layer that a credential granted is not the base layer. -/
theorem Part.SeatOk.grantedLayer {s : Part} {c d n : Nat} (h : s.SeatOk d) (hn : s.grantedLayer d c = some n) : 2 ≤ n := by
  obtain ⟨⟨l, m⟩, hfind, rfl⟩ := Option.map_eq_some_iff.1 hn
  have hgrant : l.elev.map (·.grantor) = some c := by simpa using List.find?_some hfind
  obtain ⟨hle, hget⟩ := List.mk_mem_zipIdx_iff_le_and_getElem?_sub.1 (List.mem_of_find?_eq_some hfind)
  refine Nat.lt_of_le_of_ne hle fun hm => ?_
  subst hm
  by_cases hon : (s.desk d).signedOn = 0
  · simp [h.empty hon] at hget
  · obtain ⟨_, _, _, hhead⟩ := h.holder hon
    rw [Nat.sub_self, ← List.head?_eq_getElem?, hhead] at hget
    cases hget
    cases hgrant

/-! ### Signing on and off (R24, R25) -/

theorem Part.SignOnsAgree.signOff {s : Part} (hs : s.SignOnsAgree) {d : Nat} (hd : d ∈ numbers 6) :
    (s.signOffDesk d).SignOnsAgree := by
  let s1 : Part :=
    { s.modDesk d fun x => { x with stack := [], signedOn := 0 } with credDesk := setAt s.credDesk (s.desk d).signedOn 0 }
  have hreturns : s1.SameSeats (s.signOffDesk d) :=
    (foldl_acts (auth := false) _ (fun t k => (returnSlot_moves t d k).acts) _ s1).seats rfl
  have hmine : s1.desk d = { s.desk d with stack := [], signedOn := 0 } := by
    show (s.modDesk d _).desk d = _
    rw [Part.modDesk_desk, if_pos ⟨rfl, (mem_numbers d).1 hd⟩]
  have hother : ∀ e, e ≠ d → s1.desk e = s.desk e := fun e he => by
    show (s.modDesk d _).desk e = _
    rw [Part.modDesk_desk, if_neg fun h => he h.1.symm]
  have hcred : ∀ c, c ≠ (s.desk d).signedOn → getAt s1.credDesk c = getAt s.credDesk c := fun c hc => by
    show getAt (setAt s.credDesk _ 0) c = _
    rw [getAt_setAt, if_neg fun h => hc h.1.symm]
  refine hreturns.agree ?_
  rw [Part.signOnsAgree_iff] at hs ⊢
  refine ⟨fun e he => ?_, fun c hc hne => ?_⟩
  · by_cases hed : e = d
    · subst hed
      refine ⟨fun _ => by rw [hmine], fun h => absurd (by rw [hmine]) h, ?_, ?_⟩ <;> rw [hmine]
      · exact Nat.zero_le _
      · rfl
    · obtain ⟨h1, h2, h3, h4⟩ := hs.1 e he
      rw [← hother e hed] at h1 h2 h3 h4
      refine ⟨h1, fun h => ?_, h3, h4⟩
      obtain ⟨k1, k2, k3, k4⟩ := h2 h
      refine ⟨k1, ?_, k3, k4⟩
      rw [hcred _ fun heq => ?_]
      · exact k2
      · have hon : (s.desk d).signedOn ≠ 0 := heq ▸ h
        have := ((hs.1 d hd).holder hon).2.1
        rw [← heq, k2] at this
        exact hed this
  · by_cases hcd : c = (s.desk d).signedOn
    · refine absurd ?_ hne
      show getAt (setAt s.credDesk _ 0) c = 0
      rw [hcd, getAt_setAt, if_pos ⟨rfl, (mem_numbers _).1 (hcd ▸ hc)⟩]
    · rw [hcred c hcd] at hne ⊢
      obtain ⟨h1, h2⟩ := hs.2 c hc hne
      refine ⟨h1, ?_⟩
      rw [hother _ fun h => hcd ?_]
      · exact h2
      · rw [← h, h2]

/-- R20: what a badge finds is a VALID credential. -/
theorem Part.findBadge_some {s : Part} {badge c : Nat} (h : s.findBadge badge = some c) :
    c ∈ numbers 64 ∧ (s.cred c).valid = true := by
  unfold Part.findBadge at h
  split at h
  · cases h
  · refine ⟨List.mem_of_find?_eq_some h, ?_⟩
    have := List.find?_some h
    simp only [Bool.and_eq_true] at this
    exact this.1

/-- R24: a credential that is signed on nowhere takes a free desk. -/
theorem Part.SignOnsAgree.signOn {s : Part} (hs : s.SignOnsAgree) {d c : Nat} (hd : d ∈ numbers 6) (hc : c ∈ numbers 64)
    (hvalid : (s.cred c).valid = true) (hfree : getAt s.credDesk c = 0) (hempty : (s.desk d).signedOn = 0) :
    ({ s.modDesk d fun x => { x with signedOn := c, stack := [s.baseOf c] } with
        credDesk := setAt s.credDesk c d } : Part).SignOnsAgree := by
  generalize ht : ({ s.modDesk d fun x => { x with signedOn := c, stack := [s.baseOf c] } with
    credDesk := setAt s.credDesk c d } : Part) = t
  have hcr := (mem_numbers c).1 hc
  have hmine : t.desk d = { s.desk d with signedOn := c, stack := [s.baseOf c] } := by
    subst ht
    show (s.modDesk d _).desk d = _
    rw [Part.modDesk_desk, if_pos ⟨rfl, (mem_numbers d).1 hd⟩]
  have hother : ∀ e, e ≠ d → t.desk e = s.desk e := fun e he => by
    subst ht
    show (s.modDesk d _).desk e = _
    rw [Part.modDesk_desk, if_neg fun h => he h.1.symm]
  have hcred : ∀ b, getAt t.credDesk b = if b = c then d else getAt s.credDesk b := fun b => by
    subst ht
    show getAt (setAt s.credDesk c d) b = _
    rw [getAt_setAt]
    by_cases hb : b = c
    · rw [if_pos hb, if_pos ⟨hb.symm, hcr⟩]
    · rw [if_neg hb, if_neg fun h => hb h.1.symm]
  have hlive : t.live = s.live := by subst ht; rfl
  have hbase : ∀ b, t.baseOf b = s.baseOf b := fun b => by simp only [Part.baseOf, Part.effPerms, Part.cred, hlive]
  rw [Part.signOnsAgree_iff] at hs ⊢
  refine ⟨fun e he => ?_, fun b hb hne => ?_⟩
  · by_cases hed : e = d
    · subst hed
      have hc0 : c ≠ 0 := by omega
      refine ⟨fun h => absurd (by rw [hmine] at h; exact h) hc0, fun _ => ?_, ?_, ?_⟩ <;> rw [hmine]
      · refine ⟨hcr.2, by rw [hcred, if_pos rfl], by rw [Part.cred, hlive]; exact hvalid, ?_⟩
        rw [hbase]
        rfl
      · exact Nat.le_of_ble_eq_true rfl
      · rfl
    · obtain ⟨h1, h2, h3, h4⟩ := hs.1 e he
      rw [← hother e hed] at h1 h2 h3 h4
      refine ⟨h1, fun h => ?_, h3, h4⟩
      obtain ⟨k1, k2, k3, k4⟩ := h2 h
      have hne : (t.desk e).signedOn ≠ c := fun heq => by
        rw [heq, hfree] at k2
        have := (mem_numbers e).1 he
        omega
      refine ⟨k1, by rw [hcred, if_neg hne]; exact k2, by rw [Part.cred, hlive]; exact k3, by rw [hbase]; exact k4⟩
  · rw [hcred] at hne ⊢
    split
    · next h =>
      rw [hmine]
      exact ⟨((mem_numbers d).1 hd).2, h.symm⟩
    · next h =>
      rw [if_neg h] at hne
      obtain ⟨h1, h2⟩ := hs.2 b hb hne
      refine ⟨h1, ?_⟩
      rw [hother _ fun hdb => ?_]
      · exact h2
      · rw [hdb, hempty] at h2
        have := (mem_numbers b).1 hb
        omega

/-! ### The credentials (R34 to R37) -/

theorem Part.setCred_cred (s : Part) (c : Nat) (x : Credential) (b : Nat) (h : b ≠ c) :
    (s.setCred c x).cred b = s.cred b := by
  show getAt (setAt s.live.creds c x) b = getAt s.live.creds b
  rw [getAt_setAt, if_neg fun k => h k.1.symm]

theorem Part.setCred_baseOf (s : Part) (c : Nat) (x : Credential) (b : Nat) (h : b ≠ c) :
    (s.setCred c x).baseOf b = s.baseOf b := by
  simp only [Part.baseOf, Part.effPerms, s.setCred_cred c x b h]
  rfl

/-- A credential that is signed on nowhere may become any other. -/
theorem Part.SignOnsAgree.setCred {s : Part} (hs : s.SignOnsAgree) {c : Nat} (x : Credential)
    (hfree : getAt s.credDesk c = 0) : (s.setCred c x).SignOnsAgree := by
  rw [Part.signOnsAgree_iff] at hs ⊢
  refine ⟨fun d hd => ?_, hs.2⟩
  obtain ⟨h1, h2, h3, h4⟩ := hs.1 d hd
  refine ⟨h1, fun h => ?_, h3, h4⟩
  obtain ⟨k1, k2, k3, k4⟩ := h2 h
  have hne : (s.desk d).signedOn ≠ c := fun heq => by
    rw [heq, hfree] at k2
    have := (mem_numbers d).1 hd
    omega
  exact ⟨k1, k2, (congrArg Credential.valid (s.setCred_cred c x _ hne)).trans k3,
    k4.trans (congrArg some (s.setCred_baseOf c x _ hne).symm)⟩

/-- R35: the edit of a credential that is signed on builds its desk's stack again. -/
theorem Part.SignOnsAgree.edit {s : Part} (hs : s.SignOnsAgree) {c : Nat} (hc : c ∈ numbers 64) (x : Credential)
    (hvalid : x.valid = true) (hon : getAt s.credDesk c ≠ 0) :
    ((s.setCred c x).modDesk (getAt s.credDesk c) fun y =>
      { y with stack := (s.setCred c x).baseOf c :: rebuildOver ((s.setCred c x).baseOf c) y.stack.tail }).SignOnsAgree := by
  have hiff := (Part.signOnsAgree_iff s).1 hs
  obtain ⟨hle, hseat⟩ := hiff.2 c hc hon
  have hcr := (mem_numbers c).1 hc
  have hd : getAt s.credDesk c ∈ numbers 6 := (mem_numbers _).2 ⟨Nat.pos_of_ne_zero hon, hle⟩
  generalize getAt s.credDesk c = d at hd hseat hon
  generalize hb : (s.setCred c x).baseOf c = base
  generalize ht : ((s.setCred c x).modDesk d fun y => { y with stack := base :: rebuildOver base y.stack.tail }) = t
  have hmine : t.desk d = { s.desk d with stack := base :: rebuildOver base (s.desk d).stack.tail } := by
    subst ht
    rw [Part.modDesk_desk, if_pos ⟨rfl, (mem_numbers d).1 hd⟩]
    rfl
  have hother : ∀ e, e ≠ d → t.desk e = s.desk e := fun e he => by
    subst ht
    rw [Part.modDesk_desk, if_neg fun h => he h.1.symm]
    rfl
  have hlive : t.live = (s.setCred c x).live := by subst ht; rfl
  have hcred : t.credDesk = s.credDesk := by subst ht; rfl
  have hbase : ∀ b, t.baseOf b = (s.setCred c x).baseOf b := fun b => by
    simp only [Part.baseOf, Part.effPerms, Part.cred, hlive]
  have hcredc : ∀ b, t.cred b = (s.setCred c x).cred b := fun b => by simp only [Part.cred, hlive]
  have hx : (s.setCred c x).cred c = x := by
    show getAt (setAt s.live.creds c x) c = x
    rw [getAt_setAt, if_pos ⟨rfl, hcr⟩]
  refine (Part.signOnsAgree_iff t).2 ⟨fun e he => ?_, fun b hb' => ?_⟩
  · obtain ⟨h1, h2, h3, h4⟩ := hiff.1 e he
    by_cases hed : e = d
    · subst hed
      have hc0 : (s.desk e).signedOn ≠ 0 := by omega
      obtain ⟨k1, k2, k3, k4⟩ := h2 hc0
      obtain ⟨l, hl⟩ : ∃ l, (s.desk e).stack = s.baseOf (s.desk e).signedOn :: l :=
        List.head?_eq_some_iff.1 k4
      refine ⟨?_, fun _ => ?_, ?_, ?_⟩ <;> rw [hmine]
      · exact fun h => absurd h hc0
      · have hmycred : t.cred (s.desk e).signedOn = x := by rw [hcredc, hseat, hx]
        refine ⟨k1, by rw [hcred]; exact k2, (congrArg Credential.valid hmycred).trans hvalid, ?_⟩
        show some base = some (t.baseOf (s.desk e).signedOn)
        rw [hbase, hseat, hb]
      · rw [hl] at h3 ⊢
        simpa [rebuildOver_length] using h3
      · rw [hl] at h4 ⊢
        exact stackRises_rebuild _ _ (stackRises_elev h4)
    · rw [← hother e hed] at h1 h2 h3 h4
      refine ⟨h1, fun h => ?_, h3, h4⟩
      obtain ⟨k1, k2, k3, k4⟩ := h2 h
      have hne : (t.desk e).signedOn ≠ c := fun heq => by
        have := ((hiff.1 d hd).holder (by omega)).2.1
        rw [hseat, ← heq, k2] at this
        exact hed this
      exact ⟨k1, by rw [hcred]; exact k2, by rw [hcredc, Part.setCred_cred s c x _ hne]; exact k3,
        by rw [hbase, Part.setCred_baseOf s c x _ hne]; exact k4⟩
  · have := hiff.2 b hb'
    unfold Part.CredOk at this ⊢
    rw [hcred]
    intro hne
    obtain ⟨k1, k2⟩ := this hne
    refine ⟨k1, ?_⟩
    by_cases hed : getAt s.credDesk b = d
    · rw [hed, hmine]
      rw [hed] at k2
      exact k2
    · rw [hother _ hed]
      exact k2

end Sys2Proof.Machine
end

section
/-! The requests of authority and of the configuration carry the invariants. -/

namespace Sys2Proof.Machine

theorem isDesk_iff (d : Nat) : isDesk d = true ↔ d ∈ numbers 6 := by simp [isDesk, mem_numbers, Config.nDesks]
theorem isArea_iff (a : Nat) : isArea a = true ↔ a ∈ numbers 16 := by simp [isArea, mem_numbers, Config.nAreas]
theorem isPoint_iff (p : Nat) : isPoint p = true ↔ p ∈ numbers 1024 := by simp [isPoint, mem_numbers, Config.nPoints]

/-! ### Sign-ons and stacks -/

/-- R24: what the checks of a SIGN_ON that passes have established. -/
theorem Part.signOnCheck_ok {s : Part} {d badge c : Nat} (h : s.signOnCheck d badge = .ok c) :
    d ∈ numbers 6 ∧ s.findBadge badge = some c ∧ getAt s.credDesk c = 0 ∧ (s.desk d).signedOn = 0 := by
  unfold Part.signOnCheck at h
  split at h
  · cases h
  next hd =>
  split at h
  · cases h
  next b hb =>
  split_ifs at h with _ hfree hempty
  cases h
  exact ⟨(isDesk_iff d).1 (by simpa using hd), hb, by simpa using hfree, by simpa using hempty⟩

theorem carries_signOn (body : List Byte) (s : Part) : s.Carries (signOnHandler body s).1 := by
  refine (event_signOn body s).carries fun hs => ?_
  unfold signOnHandler
  dsimp only
  split
  · exact ((s.event_refuse (auth := false) ..).seats rfl).agree hs
  · next c hcheck =>
    obtain ⟨hd, hbadge, hfree, hempty⟩ := Part.signOnCheck_ok hcheck
    obtain ⟨hc, hvalid⟩ := Part.findBadge_some hbadge
    exact ((acts_closeEvent (auth := false) s [] ((Part.acts_recompute _).trans (Part.acts_write ..))).seats rfl).agree
      (hs.signOn hd hc hvalid hfree hempty)

/-- R25: what the checks of a SIGN_OFF that passes have established. -/
theorem Part.signOffCheck_none {s : Part} {d : Nat} (h : s.signOffCheck d = none) :
    d ∈ numbers 6 ∧ (s.desk d).signedOn ≠ 0 ∧ s.heldBy (s.desk d).signedOn = [] := by
  unfold Part.signOffCheck at h
  split_ifs at h with hd hon hheld
  exact ⟨(isDesk_iff d).1 (by simpa using hd), hon, by simpa using hheld⟩

theorem carries_signOff (body : List Byte) (s : Part) : s.Carries (signOffHandler body s).1 := by
  refine (event_signOff body s).carries fun hs => ?_
  unfold signOffHandler
  dsimp only
  split
  · exact hs
  · next hcheck =>
    obtain ⟨hd, _, _⟩ := Part.signOffCheck_none hcheck
    have habandon := ((s.acts_abandonWhere (auth := false) abandonIncomingSignedOff (byteAt body 0) fun x =>
      x.incoming == (s.desk (byteAt body 0)).signedOn).seats rfl).agree hs
    exact ((acts_closeEvent (auth := false) s [] ((Part.acts_recompute _).trans (Part.acts_write ..))).seats rfl).agree
      (habandon.signOff hd)

/-- R26: what the checks of an ELEVATE that passes have established. -/
theorem Part.elevateCheck_ok {s : Part} {d badge c minutes : Nat} {perms : PermSet} {sc : AreaSet}
    (h : s.elevateCheck d badge perms sc minutes = .ok c) :
    d ∈ numbers 6 ∧ s.findBadge badge = some c ∧ (s.desk d).signedOn ≠ 0 ∧ (s.desk d).stack.length < 4 := by
  unfold Part.elevateCheck at h
  split at h
  · cases h
  next hd =>
  split at h
  · cases h
  next b hb =>
  split_ifs at h with hon _ hfull
  cases h
  refine ⟨(isDesk_iff d).1 ?_, hb, hon, Nat.lt_of_not_le hfull⟩
  simp only [Bool.or_eq_true, not_or] at hd
  simpa using hd.1.1

theorem carries_elevate (body : List Byte) (s : Part) : s.Carries (elevateHandler body s).1 := by
  refine (event_elevate body s).carries fun hs => ?_
  unfold elevateHandler
  dsimp only
  split
  · exact ((s.event_refuse (auth := false) ..).seats rfl).agree hs
  · next c hcheck =>
    obtain ⟨hd, _, hon, hfull⟩ := Part.elevateCheck_ok hcheck
    generalize byteAt body 0 = d at hd hon hfull
    refine ((acts_closeEvent (auth := false) s [] (Part.acts_write ..)).seats rfl).agree ?_
    obtain ⟨_, h2, _, h4⟩ := ((Part.signOnsAgree_iff s).1 hs).1 d hd
    obtain ⟨l, hl⟩ := List.head?_eq_some_iff.1 (h2 hon).2.2.2
    obtain ⟨below, hbelow⟩ : ∃ x, (s.desk d).stack.getLast? = some x := by
      rw [hl]
      exact ⟨_, List.getLast?_eq_some_getLast (List.cons_ne_nil _ _)⟩
    have hmine : ∀ f : Desk → Desk, (s.modDesk d f).desk d = f (s.desk d) := fun f => by
      rw [Part.modDesk_desk, if_pos ⟨rfl, (mem_numbers d).1 hd⟩]
    refine hs.restack rfl rfl (fun e => ?_) d (fun e he => ?_) (fun h => absurd h hon) ?_ ?_ ?_
    · rw [Part.modDesk_desk]
      split <;> rfl
    · rw [Part.modDesk_desk, if_neg fun h => he h.1.symm]
    · rw [hmine, hl]
      rfl
    · rw [hmine]
      simpa using hfull
    · rw [hmine, show s.topLayer d = some below from hbelow]
      exact stackRises_over h4 hbelow ..

/-- R28: what the checks of a DROP that passes have established. -/
theorem Part.dropCheck_none {s : Part} {d : Nat} (h : s.dropCheck d = none) :
    d ∈ numbers 6 ∧ (s.desk d).signedOn ≠ 0 ∧ 2 ≤ (s.desk d).stack.length := by
  unfold Part.dropCheck at h
  split_ifs at h with hd hon hlen
  exact ⟨(isDesk_iff d).1 (by simpa using hd), hon, by omega⟩

theorem carries_drop (body : List Byte) (s : Part) : s.Carries (dropHandler body s).1 := by
  refine (event_drop body s).carries fun hs => ?_
  unfold dropHandler
  dsimp only
  split
  · exact hs
  · next hcheck =>
    obtain ⟨hd, _, hlen⟩ := Part.dropCheck_none hcheck
    exact ((acts_closeEvent (auth := false) s [] (.refl false _)).seats rfl).agree (hs.cascade hd hlen _)

theorem Part.carries_layerExpires (s : Part) (d n : Nat) (hd : isDesk d = true) (hn : 2 ≤ n) :
    s.Carries (s.layerExpires d n) :=
  (s.event_layerExpires d n).carries fun hs =>
    ((acts_closeEvent (auth := false) s [] (.refl false _)).seats rfl).agree (hs.cascade ((isDesk_iff d).1 hd) hn _)

/-! ### Credentials -/

/-- R34: what the checks of an edit that passes have established. -/
theorem Part.editCheck_none {s : Part} {d c status : Nat} {x : Credential} (h : s.editCheck d c status x = none) :
    c ∈ numbers 64 ∧ status = 1 := by
  unfold Part.editCheck at h
  split at h
  · cases h
  · split_ifs at h with hbad _
    simp only [Part.editBadField, Bool.not_eq_true, Bool.or_eq_false_iff] at hbad
    obtain ⟨⟨⟨⟨⟨⟨hc, hst⟩, _⟩, _⟩, _⟩, _⟩, _⟩ := hbad
    refine ⟨(mem_numbers c).2 ?_, by simpa using hst⟩
    simpa [Config.nCreds] using hc

theorem Part.carries_runningEdit (s : Part) (body : List Byte) : s.Carries (s.runningEdit body).1 := by
  refine (s.event_runningEdit body).carries fun hs => ?_
  unfold Part.runningEdit
  dsimp only
  split
  · exact ((s.event_refuse (auth := false) ..).seats rfl).agree hs
  · next hcheck =>
    obtain ⟨hc, hstatus⟩ := Part.editCheck_none hcheck
    have hvalid : (credentialOf body).valid = true := by simp [credentialOf, hstatus]
    unfold Part.editCredential
    extract_lets d s1 s2
    refine ((acts_closeEvent (auth := false) s _ s2.acts_recompute).seats rfl).agree ?_
    show (if d = 0 then s1 else _ : Part).SignOnsAgree
    split
    · next hd => exact hs.setCred _ hd
    · next hd => exact hs.edit hc _ hvalid hd

/-- R34, R36, R189: what the checks of CONFIGURE authority that pass have established. -/
theorem Part.configureCheck_none {s : Part} {d : Nat} {bad : Bool} (h : s.configureCheck d bad = none) :
    d ∈ numbers 6 ∧ bad = false ∧ (s.desk d).signedOn ≠ 0
      ∧ allowsPlantWide (s.topLayer d) Perm.configure.set = true := by
  unfold Part.configureCheck at h
  split_ifs at h with hd hon hallow
  simp only [Bool.or_eq_true, not_or, Bool.not_eq_true] at hd
  exact ⟨(isDesk_iff d).1 (by simpa using hd.1), hd.2, hon, by simpa using hallow⟩

/-- R36: what the checks of a REVOKE that passes have established. -/
theorem Part.revokeCheck_none {s : Part} {d c : Nat} (h : s.revokeCheck d c = none) :
    d ∈ numbers 6 ∧ c ∈ numbers 64 ∧ (s.cred c).valid = true := by
  unfold Part.revokeCheck at h
  split at h
  · cases h
  · next hconf =>
    obtain ⟨hd, hc, _⟩ := Part.configureCheck_none hconf
    split_ifs at h with hvalid
    exact ⟨hd, (mem_numbers c).2 (by simpa [Config.nCreds] using hc), hvalid⟩

theorem Part.SignOnsAgree.revokeGrants {s : Part} (hs : s.SignOnsAgree) (c : Nat) {e : Nat} (he : e ∈ numbers 6) :
    (s.revokeGrants c e).SignOnsAgree := by
  unfold Part.revokeGrants
  split
  · exact hs
  · next n hn => exact hs.cascade he ((((Part.signOnsAgree_iff s).1 hs).1 e he).grantedLayer hn) _

theorem foldl_revokeGrants_agree (c : Nat) (l : List Nat) (hl : ∀ e ∈ l, e ∈ numbers 6) {s : Part} (hs : s.SignOnsAgree) :
    (l.foldl (fun t e => t.revokeGrants c e) s).SignOnsAgree := by
  induction l generalizing s with
  | nil => exact hs
  | cons e l ih =>
    exact ih (fun x hx => hl x (List.mem_cons_of_mem e hx)) (hs.revokeGrants c (hl e (List.mem_cons_self ..)))

/-- R37: the credential revoked is signed on nowhere when its record becomes VACANT. -/
theorem Part.SignOnsAgree.forceOff {s : Part} (hs : s.SignOnsAgree) {c : Nat} (hc : c ∈ numbers 64) (x : Credential) :
    ((s.forceOff c).setCred c x).SignOnsAgree := by
  unfold Part.forceOff
  split
  · next h => exact hs.setCred x h
  · next h =>
    obtain ⟨hle, hseat⟩ := ((Part.signOnsAgree_iff s).1 hs).2 c hc h
    have hd : getAt s.credDesk c ∈ numbers 6 := (mem_numbers _).2 ⟨Nat.pos_of_ne_zero h, hle⟩
    refine Part.SignOnsAgree.setCred (((Part.acts_write (auth := false) ..).seats rfl).agree (hs.signOff hd)) x ?_
    have hreturns := (foldl_acts (auth := false) _ (fun t k => (returnSlot_moves t (getAt s.credDesk c) k).acts) [4, 3, 2, 1]
      ({ s.modDesk (getAt s.credDesk c) fun x => { x with stack := [], signedOn := 0 } with
        credDesk := setAt s.credDesk (s.desk (getAt s.credDesk c)).signedOn 0 } : Part)).seats rfl
    show getAt (s.signOffDesk (getAt s.credDesk c)).credDesk c = 0
    refine (congrArg (fun v => getAt v c) hreturns.credDesk).trans ?_
    show getAt (setAt s.credDesk (s.desk (getAt s.credDesk c)).signedOn 0) c = 0
    rw [hseat, getAt_setAt, if_pos ⟨rfl, (mem_numbers c).1 hc⟩]

theorem carries_revoke (body : List Byte) (s : Part) : s.Carries (revokeHandler body s).1 := by
  refine (event_revoke body s).carries fun hs => ?_
  unfold revokeHandler
  dsimp only
  split
  · exact ((s.event_refuse (auth := false) ..).seats rfl).agree hs
  · next hcheck =>
    obtain ⟨_, hc, _⟩ := Part.revokeCheck_none hcheck
    unfold Part.revoke
    extract_lets s1 s2 s3
    have h1 : s1.SignOnsAgree := ((s.acts_abandonWhere (auth := false) ..).seats rfl).agree hs
    have h2 : s2.SignOnsAgree :=
      ((foldl_acts (auth := false) _ (fun t a => t.acts_releaseResponsibility _ a) _ s1).seats rfl).agree h1
    have h3 : s3.SignOnsAgree := foldl_revokeGrants_agree _ _ (fun _ h => h) h2
    exact ((acts_closeEvent (auth := false) s [] (Part.acts_recompute _)).seats rfl).agree (h3.forceOff hc _)

/-! ### The staged copy (R186) -/

/-- R168: a byte read from a body. -/
theorem byteAt_lt (body : List Byte) (i : Nat) : byteAt body i < 256 := BitVec.isLt _

theorem Part.carries_modStaged (s : Part) (f : Cfg → Cfg) (h : s.staged.plant.pacing ≤ 255 → (f s.staged).plant.pacing ≤ 255) :
    s.Carries (s.modStaged f) :=
  ⟨⟨id, id, id, id, id⟩, fun ⟨h1, h2, h3, h4, h5, h6, h7, h8, h9, h10, h11, h12, h13⟩ =>
    ⟨h1, h2, h3, h4, h5, h6, h7, h8, h9, h10, h11, h12, h h13⟩⟩

theorem Part.carries_stage (s : Part) (ok : Bool) (f : Cfg → Cfg)
    (h : s.staged.plant.pacing ≤ 255 → (f s.staged).plant.pacing ≤ 255) : s.Carries (s.stage ok f).1 := by
  unfold Part.stage
  split
  exacts [s.carries_modStaged f h, .refl s]

theorem carries_configPlant (body : List Byte) (s : Part) : s.Carries (configPlantHandler body s).1 :=
  s.carries_stage _ _ fun _ => Nat.le_of_lt_succ (byteAt_lt body 9)

theorem carries_configArea (body : List Byte) (s : Part) : s.Carries (configAreaHandler body s).1 := s.carries_stage _ _ id

theorem carries_configPoints (body : List Byte) (s : Part) : s.Carries (configPointsHandler body s).1 := by
  unfold configPointsHandler
  dsimp only
  generalize itemOffsets 0 8 body.length = l
  generalize ([] : List Byte) = out
  induction l generalizing s out with
  | nil => exact .refl s
  | cons i l ih => exact (s.carries_stage _ _ id).trans (ih _ _)

theorem carries_configRole (body : List Byte) (s : Part) : s.Carries (configRoleHandler body s).1 := s.carries_stage _ _ id

theorem carries_configDesk (body : List Byte) (s : Part) : s.Carries (configDeskHandler body s).1 := s.carries_stage _ _ id

theorem carries_configCredential (body : List Byte) (s : Part) : s.Carries (configCredentialHandler body s).1 := by
  unfold configCredentialHandler
  split
  · exact s.carries_runningEdit body
  · exact s.carries_stage _ _ id

/-! ### The commit and the restart (R187 to R190) -/

/-- R188, R190: nobody is signed on any more, and every area rests. -/
theorem Part.restDynamic_seats (s : Part) : s.restDynamic.SignOnsAgree := by
  have hdesk : ∀ d ∈ numbers 6, s.restDynamic.desk d = (s.desk d).cleared := fun d hd =>
    getAt_map _ s.desks d ((mem_numbers d).1 hd).1 ((mem_numbers d).1 hd).2
  refine (Part.signOnsAgree_iff _).2 ⟨fun d hd => ?_, fun c hc h => absurd ?_ h⟩
  · refine ⟨?_, ?_, ?_, ?_⟩ <;> rw [hdesk d hd]
    · exact fun _ => rfl
    · exact fun h => absurd rfl h
    · exact Nat.zero_le _
    · rfl
  · exact getAt_replicate _ _ ((mem_numbers c).1 hc).1 ((mem_numbers c).1 hc).2

theorem Part.restDynamic_horns (s : Part) : s.restDynamic.HornsFollow := fun d hd => by
  have hdesk : s.restDynamic.desk d = (s.desk d).cleared :=
    getAt_map _ s.desks d ((mem_numbers d).1 hd).1 ((mem_numbers d).1 hd).2
  rw [hdesk]
  exact ⟨rfl, fun _ => rfl⟩

theorem Part.restDynamic_flood (s : Part) (h : ∀ a ∈ numbers 16, (s.areaS a).low < (s.areaS a).high) :
    s.restDynamic.FloodBounded := fun a ha => by
  have harea : s.restDynamic.area a = Area.resting :=
    getAt_replicate _ _ ((mem_numbers a).1 ha).1 ((mem_numbers a).1 ha).2
  have hlt : (s.restDynamic.areaS a).low < (s.restDynamic.areaS a).high := h a ha
  rw [harea]
  exact ⟨hlt, Nat.zero_le _, fun _ => Nat.lt_of_le_of_lt (Nat.zero_le _) hlt, fun h => nomatch h⟩

/-- The report of a journal that nears its end (R160). -/
theorem carries_closeJournal (s t : Part) : t.Carries (closeJournal s t) := by
  have h : t.Acts false (closeJournal s t) := by
    refine t.acts_queueReports _ fun e he => ?_
    split at he
    · rw [List.mem_singleton.1 he]; decide
    · cases he
  exact ⟨⟨h.journal, h.reports, h.flood, (h.seats rfl).agree, id⟩, fun hs => hs.congr h.lif h.plant h.staged⟩

theorem Part.carries_phase (s : Part) (p : Phase) : s.Carries { s with phase := p } := ⟨⟨id, id, id, id, id⟩, id⟩

theorem Part.carries_enterPhase (s : Part) (p : Phase) : s.Carries (s.enterPhase p) :=
  (s.carries_phase p).trans (Part.carries_write ..)

/-- R187: what the checks of a commit have established about the plant record. -/
theorem Cfg.jField_of_passes {c : Cfg} (h : c.failing = none) : 4 ≤ c.plant.jField ∧ c.plant.jField ≤ 15 := by
  unfold Cfg.failing at h
  split at h
  · cases h
  split at h
  · cases h
  split at h
  · cases h
  split at h
  · cases h
  split_ifs at h with hj
  simpa [within] using hj

theorem firstFailing_none {α : Type} {f : α → Bool} {l : List α} (h : firstFailing f l = none) : ∀ x ∈ l, f x = false := by
  have : l.findIdx? f = none := by simpa [firstFailing] using h
  exact List.findIdx?_eq_none_iff.1 this

theorem getAt_mem {α : Type} [Inhabited α] {n : Nat} (v : Vector α n) {i : Nat} (h : i ∈ numbers n) : getAt v i ∈ v.toList := by
  rw [getAt_eq v i ((mem_numbers i).1 h)]
  simp

/-- R187, class 2: the thresholds of a staged copy that passes are in order. -/
theorem Cfg.thresholds_of_passes {c : Cfg} (h : c.failing = none) (a : Nat) (ha : a ∈ numbers 16) :
    (getAt c.areas a).low < (getAt c.areas a).high := by
  unfold Cfg.failing at h
  split at h
  · cases h
  split at h
  · cases h
  next hareas =>
  have := firstFailing_none hareas _ (getAt_mem c.areas ha)
  simp only [areaFails, Bool.or_eq_false_iff, decide_eq_false_iff_not] at this
  obtain ⟨⟨⟨⟨⟨_, h2⟩, _⟩, _⟩, _⟩, _⟩ := this
  omega

/-- R188: the part of a commit before the queue is emptied: the staged copy is live and everything rests. -/
def Part.committed (s : Part) : Part :=
  { s.settleBoundaries.adoptStaged.restDynamic with sessions := Vector.replicate 4 Session.idle }

theorem Part.commit_eq (s : Part) :
    s.commit = closeJournal (s.committed.resync .commit) ((s.committed.resync .commit).enterPhase .running) := rfl

theorem Part.adoptStaged_eq (s : Part) :
    s.adoptStaged =
      { s with live := s.staged, rst := if s.staged.plant.jField = s.live.plant.jField then s.rst else s.rst.resize } := by
  unfold Part.adoptStaged
  split <;> rfl

/-- R157, R188: what a commit makes of the configuration, the Record Store and the link. -/
theorem Part.committed_fields (s : Part) :
    s.committed.live = s.staged ∧ s.committed.staged = s.staged ∧ s.committed.lif = s.lif
      ∧ s.committed.rst = if s.staged.plant.jField = s.live.plant.jField then s.rst else s.rst.resize := by
  unfold Part.committed
  rw [Part.adoptStaged_eq]
  exact ⟨rfl, rfl, rfl, rfl⟩

/-- R188: a commit whose checks pass. -/
theorem Part.carries_commit (s : Part) (h : s.staged.failing = none) : s.Carries s.commit := by
  obtain ⟨hlive, hstaged, hlif, hrst⟩ := s.committed_fields
  obtain ⟨hj4, hj15⟩ := Cfg.jField_of_passes h
  have hstart : s.Carries (s.committed.resync .commit) := by
    refine ⟨⟨fun hs => ?_, fun _ => ?_, fun _ => ?_, fun _ => ?_, fun _ => ?_⟩, fun hs => ?_⟩
    · rw [Part.journalRun_iff] at hs
      refine (s.committed.carries_resync .commit).journal ((Part.journalRun_iff _).2 ?_)
      rw [hrst, Part.journalSize, hlive]
      split
      · next hj => rwa [hj]
      · exact .resize _ _
    · exact s.committed.resync_reports _ (hlive ▸ hj4) (hlive ▸ hj15)
    · refine Part.restDynamic_flood s.settleBoundaries.adoptStaged fun a ha => ?_
      rw [Part.adoptStaged_eq]
      exact Cfg.thresholds_of_passes h a ha
    · exact Part.restDynamic_seats s.settleBoundaries.adoptStaged
    · exact Part.restDynamic_horns s.settleBoundaries.adoptStaged
    · refine (s.committed.carries_resync .commit).link ?_
      unfold Part.LinkBounded at hs ⊢
      rw [hlif, hlive, hstaged]
      obtain ⟨k1, k2, k3, k4, k5, k6, k7, k8, k9, k10, k11, _, k13⟩ := hs
      exact ⟨k1, k2, k3, k4, k5, k6, k7, k8, k9, k10, k11, k13, k13⟩
  rw [Part.commit_eq]
  exact hstart.trans ((Part.carries_enterPhase _ .running).trans (carries_closeJournal ..))

theorem carries_configCommit (body : List Byte) (s : Part) : s.Carries (configCommitHandler body s).1 := by
  unfold configCommitHandler
  split
  · exact .refl s
  · next h => exact s.carries_commit h

/-- R166, R190: the queue is emptied. -/
theorem Part.carries_emptyReports (s : Part) : s.Carries s.emptyReports := by
  refine ⟨⟨id, fun h => ?_, id, id, id⟩, id⟩
  obtain ⟨h1, h2, h3⟩ := (Part.reportsBounded_iff s).1 h
  exact (Part.reportsBounded_iff _).2 ⟨h1, h2, h3.sublist (List.nil_sublist _) (fun _ he => nomatch he) (Nat.zero_le _)⟩

/-- R190: everything rests, over the configuration that stays live. -/
theorem Part.carries_restDynamic (s : Part) : s.Carries s.restDynamic :=
  ⟨⟨id, id, fun h => s.restDynamic_flood fun a ha => (h a ha).1, fun _ => s.restDynamic_seats,
    fun _ => s.restDynamic_horns⟩, id⟩

theorem Desk.settled_seat (x : Desk) (live : DeskCfg) :
    x.settled live = { x with boundaryDue := (x.settled live).boundaryDue, lamps := (x.settled live).lamps } := by
  unfold Desk.settled
  split <;> rfl

/-- R127: settled frame boundaries change lamps alone. -/
theorem Part.settleBoundaries_desk (s : Part) (d : Nat) :
    s.settleBoundaries.desk d =
      { s.desk d with
        boundaryDue := (s.settleBoundaries.desk d).boundaryDue, lamps := (s.settleBoundaries.desk d).lamps } := by
  by_cases h : 1 ≤ d ∧ d ≤ 6
  · have hx : s.settleBoundaries.desk d = (s.desk d).settled (getAt s.live.desks d) := by
      show getAt (s.desks.zipWith Desk.settled s.live.desks) d = _
      rw [Part.desk, getAt_eq _ _ h, getAt_eq _ _ h, getAt_eq _ _ h]
      simp
    rw [hx]
    exact Desk.settled_seat _ _
  · have hout : ∀ v : Vector Desk 6, getAt v d = default := fun v => getAt_out v d h
    simp only [Part.desk, hout]

theorem Part.carries_settleBoundaries (s : Part) : s.Carries s.settleBoundaries := by
  have hkept : ∀ d, (s.settleBoundaries.desk d).signedOn = (s.desk d).signedOn
      ∧ (s.settleBoundaries.desk d).stack = (s.desk d).stack ∧ (s.settleBoundaries.desk d).slots = (s.desk d).slots
      ∧ (s.settleBoundaries.desk d).horn = (s.desk d).horn
      ∧ (s.settleBoundaries.desk d).hornPattern = (s.desk d).hornPattern := fun d => by
    rw [s.settleBoundaries_desk]
    exact ⟨rfl, rfl, rfl, rfl, rfl⟩
  refine s.carries_desks _ (Part.SameSeats.agree ⟨rfl, rfl, fun d => ?_⟩) fun d => ?_
  · obtain ⟨hon, hst, _⟩ := hkept d
    exact ⟨hon, hst⟩
  · obtain ⟨_, _, hslots⟩ := hkept d
    exact hslots

/-- Sessions abandoned outside any event's end: no step of them moves a slot or a horn. -/
theorem Part.abandonWhere_desks (s : Part) (reason desk : Nat) (f : Session → Bool) :
    (s.abandonWhere reason desk f).desks = s.desks := by
  have hclear : ∀ (l : List Nat) (t : Part), (t.clearSessionField l).desks = t.desks := fun l => by
    induction l with
    | nil => exact fun _ => rfl
    | cons a l ih => exact fun t => ih _
  unfold Part.abandonWhere
  generalize numbers Config.nSessions = l
  induction l generalizing s with
  | nil => rfl
  | cons n l ih =>
    rw [List.foldl_cons, ih]
    split
    · exact hclear _ s
    · rfl

theorem Part.carries_abandonWhere (s : Part) (reason desk : Nat) (f : Session → Bool) :
    s.Carries (s.abandonWhere reason desk f) := by
  refine Part.Event.carriesAll ⟨s.acts_abandonWhere .., fun h d hd => ?_⟩
  rw [Part.desk, s.abandonWhere_desks]
  exact h d hd

theorem Part.carries_restart (s : Part) (d : Nat) : s.Carries (s.restart d) := by
  unfold Part.restart
  extract_lets c s1
  have h1 : s.Carries s1 := (((s.carries_abandonWhere ..).trans (Part.carries_settleBoundaries _)).trans
    (Part.carries_restDynamic _)).trans (Part.carries_emptyReports _)
  exact h1.trans (((s1.carries_write ..).trans (Part.carries_enterPhase _ .loading)).trans (carries_closeJournal ..))

theorem carries_configBegin (body : List Byte) (s : Part) : s.Carries (configBeginHandler body s).1 := by
  unfold configBeginHandler
  split
  · exact (s.carries_enterPhase .loading).trans (carries_closeJournal ..)
  · exact .refl s
  · unfold Part.beginRunning
    split
    · exact (s.event_refuse ..).carriesAll
    · exact s.carries_restart _

end Sys2Proof.Machine
end

section
/-! Every command carries six of the invariants; the statements about what every step keeps of the journal, the report queue,
the load indices, sign-ons, horns and the link. -/

namespace Sys2Proof.Machine

/-- R191: what the invariants say of a part when RESET# is released. -/
theorem powerOn_sound (b1 b0 : Bool) :
    (Part.powerOn b1 b0).JournalRun ∧ (Part.powerOn b1 b0).ReportsBounded ∧ (Part.powerOn b1 b0).FloodBounded
      ∧ (Part.powerOn b1 b0).SignOnsAgree ∧ (Part.powerOn b1 b0).HornsFollow ∧ (Part.powerOn b1 b0).LinkBounded := by
  have hdesk : ∀ d ∈ numbers 6, (Part.powerOn b1 b0).desk d = Desk.initial := fun d hd =>
    getAt_replicate _ _ ((mem_numbers d).1 hd).1 ((mem_numbers d).1 hd).2
  have harea : ∀ a ∈ numbers 16, (Part.powerOn b1 b0).area a = Area.resting := fun a ha =>
    getAt_replicate _ _ ((mem_numbers a).1 ha).1 ((mem_numbers a).1 ha).2
  have hareaS : ∀ a ∈ numbers 16, (Part.powerOn b1 b0).areaS a = AreaStatic.initial := fun a ha =>
    getAt_replicate _ _ ((mem_numbers a).1 ha).1 ((mem_numbers a).1 ha).2
  have hcred : ∀ c ∈ numbers 64, getAt (Part.powerOn b1 b0).credDesk c = 0 := fun c hc =>
    getAt_replicate _ _ ((mem_numbers c).1 hc).1 ((mem_numbers c).1 hc).2
  refine ⟨⟨Nat.zero_le _, rfl, Nat.zero_le _⟩, ?_, fun a ha => ?_, ?_, fun d hd => ?_, ?_⟩
  · exact ⟨Nat.le_of_ble_eq_true rfl, Nat.le_of_ble_eq_true rfl, List.nodup_nil, Nat.zero_le _, Nat.zero_le _,
      fun _ h => absurd h List.not_mem_nil, fun _ h => absurd h List.not_mem_nil, Nat.zero_le _⟩
  · rw [harea a ha, hareaS a ha]
    decide
  · refine (Part.signOnsAgree_iff _).2 ⟨fun d hd => ?_, fun c hc h => absurd (hcred c hc) h⟩
    refine ⟨?_, ?_, ?_, ?_⟩ <;> rw [hdesk d hd]
    · exact fun _ => rfl
    · exact fun h => absurd rfl h
    · exact Nat.zero_le _
    · rfl
  · rw [hdesk d hd]
    exact ⟨rfl, fun _ => rfl⟩
  · refine ⟨trivial, ?_⟩
    simp [Part.powerOn, Lif.initial, Assembler.hunting, Cfg.initial, PlantRecord.initial]

/-- Power-on and the fall of RESET# establish the invariants. -/
theorem Part.carries_powerOn (s : Part) (b1 b0 : Bool) : s.Carries (Part.powerOn b1 b0) := by
  obtain ⟨h1, h2, h3, h4, h5, h6⟩ := powerOn_sound b1 b0
  exact ⟨⟨fun _ => h1, fun _ => h2, fun _ => h3, fun _ => h4, fun _ => h5⟩, fun _ => h6⟩

theorem Part.carries_heldInReset (s : Part) : s.Carries Part.heldInReset := by
  obtain ⟨h1, h2, h3, h4, h5, h6⟩ := powerOn_sound false false
  exact ⟨⟨fun _ => h1, fun _ => h2, fun _ => h3, fun _ => h4, fun _ => h5⟩, fun _ => h6⟩

/-- While RESET# is low nothing changes. -/
theorem Part.carries_unlessReset {s t : Part} (h : s.Carries t) : s.Carries (if s.resetLow = true then s else t) := by
  split
  exacts [.refl s, h]

/-- An event that is taken only when it is due. -/
theorem Part.carries_ifDue {s t : Part} {c : Prop} [Decidable c] (h : c → s.Carries t) : s.Carries (if c then t else s) := by
  split
  · next hc => exact h hc
  · exact .refl s

/-- A request whose owning block is an event without authority. -/
theorem Part.carries_request (s : Part) (k : ReqKind) (h : Handler)
    (hh : ∀ body (t : Part), t.Event false (h body t).1) : s.Carries (s.serve k h) :=
  s.carries_serve k h fun body t => (hh body t).carriesAll

/-- A request that changes nothing (R63, R95, R115, R153, R158, R177). -/
theorem Part.carries_still (s : Part) (k : ReqKind) (h : Handler) (hh : ∀ body t, (h body t).1 = t) :
    s.Carries (s.serve k h) :=
  s.carries_serve k h fun body t => by rw [hh]; exact .refl t

theorem areaStatusHandler_still (body : List Byte) (s : Part) : (areaStatusHandler body s).1 = s := by
  unfold areaStatusHandler
  dsimp only
  split <;> rfl

theorem deskStatusHandler_still (body : List Byte) (s : Part) : (deskStatusHandler body s).1 = s := by
  unfold deskStatusHandler
  dsimp only
  split <;> rfl

theorem sessionStatusHandler_still (body : List Byte) (s : Part) : (sessionStatusHandler body s).1 = s := by
  unfold sessionStatusHandler
  dsimp only
  split <;> rfl

theorem journalReadHandler_still (body : List Byte) (s : Part) : (journalReadHandler body s).1 = s := by
  unfold journalReadHandler
  dsimp only
  split <;> rfl

theorem Part.carries_loadMonitorTick (s : Part) (a : Nat) :
    s.Carries (if isArea a && 0 < getAt s.tset.loadDue a then
      ({ s with tset := { s.tset with loadDue := modAt s.tset.loadDue a (· - 1) } }).loadTick a else s) :=
  s.carries_ifDue fun _ => (s.carries_tset _).trans (Part.event_loadTick _ a).carriesAll

/-- A press is taken and acted upon (R118). -/
theorem Part.carries_press (s : Part) (d : Nat) (f : Desk → Desk) (g : Part → Part)
    (hf : ∀ x, f x =
      { f x with signedOn := x.signedOn, stack := x.stack, slots := x.slots, horn := x.horn, hornPattern := x.hornPattern })
    (hg : ∀ t : Part, t.Event false (g t)) : s.Carries ((s.modDesk d f).inRunning g) :=
  ((s.event_modDesk d f hf).trans (Part.event_inRunning _ g (hg _))).carriesAll

/-- Every command carries the invariants of the journal, the report queue, the load indices, sign-ons, horns and the link. -/
theorem carries_partAfter (i : Instr) (s : Part) : s.Carries (partAfter i s) := by
  cases i with
  | powerOn b1 b0 => exact s.carries_powerOn b1 b0
  | resetFalls => exact s.carries_heldInReset
  | receiveByte b stopLow => exact Part.carries_unlessReset (s.carries_receive b stopLow)
  | gapExpiry => exact Part.carries_unlessReset (Part.carries_ifDue fun _ => s.carries_badFrame)
  | linkReset =>
    exact Part.carries_unlessReset (Part.carries_ifDue fun _ => s.carries_linkReset.trans (Part.carries_takenTick _))
  | unknownKind => exact Part.carries_unlessReset s.carries_serveUnknown
  | sendReply => exact Part.carries_unlessReset s.carries_sendReply
  | sendReportFrame => exact Part.carries_unlessReset (Part.carries_ifDue fun _ => s.carries_sendReport)
  | transmitterFree => exact Part.carries_unlessReset (s.carries_modLif _ id)
  | hostQuietExpiry => exact Part.carries_unlessReset (Part.carries_ifDue fun _ => s.carries_goQuiet)
  | tick pins => exact Part.carries_unlessReset (s.carries_tick pins)
  | oneSecondTick =>
    refine Part.carries_unlessReset ?_
    show s.Carries (if s.tset.secondsDue = 0 then s else s.second)
    split
    exacts [.refl s, s.carries_second]
  | loadMonitorTick a => exact Part.carries_unlessReset (s.carries_loadMonitorTick a)
  | frameBoundary d =>
    exact Part.carries_unlessReset (Part.carries_ifDue fun _ => (s.event_frameBoundary d).carriesAll)
  | shelfExpiry k => exact Part.carries_unlessReset (s.event_shelfExpires k).carriesAll
  | layerExpiry d n =>
    refine Part.carries_unlessReset (Part.carries_ifDue fun h => ?_)
    simp only [Bool.and_eq_true, decide_eq_true_eq] at h
    exact s.carries_layerExpires d n h.1.1 h.1.2
  | sessionTimerExpiry n =>
    exact Part.carries_unlessReset (Part.carries_ifDue fun _ => (s.event_sessionExpires n).carriesAll)
  | silenceHoldExpiry d =>
    exact Part.carries_unlessReset (Part.carries_ifDue fun _ => (s.event_holdExpires d).carriesAll)
  | lampTestExpiry d =>
    exact Part.carries_unlessReset (Part.carries_ifDue fun _ => (s.event_lampTestExpires d).carriesAll)
  | acknowledgePress d =>
    exact Part.carries_unlessReset (Part.carries_ifDue fun _ =>
      s.carries_press d _ _ (fun _ => rfl) fun t => t.event_acknowledgePress d)
  | silencePress d =>
    exact Part.carries_unlessReset (Part.carries_ifDue fun _ =>
      s.carries_press d _ _ (fun _ => rfl) fun t => t.event_silencePress d)
  | conditions => exact Part.carries_unlessReset (s.carries_request _ _ event_conditions)
  | group => exact Part.carries_unlessReset (s.carries_request _ _ event_group)
  | ack => exact Part.carries_unlessReset (s.carries_request _ _ event_ack)
  | silence => exact Part.carries_unlessReset (s.carries_request _ _ event_silence)
  | shelve => exact Part.carries_unlessReset (s.carries_request _ _ event_shelve)
  | unshelve => exact Part.carries_unlessReset (s.carries_request _ _ (event_return _ _ _))
  | remove => exact Part.carries_unlessReset (s.carries_request _ _ event_remove)
  | restore => exact Part.carries_unlessReset (s.carries_request _ _ (event_return _ _ _))
  | releaseDeferred => exact Part.carries_unlessReset (s.carries_request _ _ event_releaseDeferred)
  | signOn => exact Part.carries_unlessReset (s.carries_serve _ _ carries_signOn)
  | signOff => exact Part.carries_unlessReset (s.carries_serve _ _ carries_signOff)
  | elevate => exact Part.carries_unlessReset (s.carries_serve _ _ carries_elevate)
  | drop => exact Part.carries_unlessReset (s.carries_serve _ _ carries_drop)
  | assume => exact Part.carries_unlessReset (s.carries_request _ _ event_assume)
  | offer => exact Part.carries_unlessReset (s.carries_request _ _ event_offer)
  | takeUp => exact Part.carries_unlessReset (s.carries_request _ _ event_takeUp)
  | reviewNext => exact Part.carries_unlessReset (s.carries_request _ _ event_reviewNext)
  | reviewDelta => exact Part.carries_unlessReset (s.carries_request _ _ event_reviewDelta)
  | confirmArea => exact Part.carries_unlessReset (s.carries_request _ _ event_confirmArea)
  | accept => exact Part.carries_unlessReset (s.carries_request _ _ (event_readyRequest _))
  | handOff => exact Part.carries_unlessReset (s.carries_request _ _ (event_readyRequest _))
  | withdraw => exact Part.carries_unlessReset (s.carries_request _ _ event_withdraw)
  | lampTest => exact Part.carries_unlessReset (s.carries_request _ _ event_lampTest)
  | pointStatus => exact Part.carries_unlessReset (s.carries_still _ _ fun _ _ => rfl)
  | areaStatus => exact Part.carries_unlessReset (s.carries_still _ _ areaStatusHandler_still)
  | deskStatus => exact Part.carries_unlessReset (s.carries_still _ _ deskStatusHandler_still)
  | sessionStatus => exact Part.carries_unlessReset (s.carries_still _ _ sessionStatusHandler_still)
  | partStatus => exact Part.carries_unlessReset (s.carries_still _ _ fun _ _ => rfl)
  | journalRead => exact Part.carries_unlessReset (s.carries_still _ _ journalReadHandler_still)
  | journalMark => exact Part.carries_unlessReset (s.carries_serve _ _ carries_journalMark)
  | setTime => exact Part.carries_unlessReset (s.carries_serve _ _ carries_setTime)
  | reportEnable => exact Part.carries_unlessReset (s.carries_serve _ _ carries_reportEnable)
  | reportDisable => exact Part.carries_unlessReset (s.carries_serve _ _ carries_reportDisable)
  | configBegin => exact Part.carries_unlessReset (s.carries_serve _ _ carries_configBegin)
  | configPlant => exact Part.carries_unlessReset (s.carries_serve _ _ carries_configPlant)
  | configArea => exact Part.carries_unlessReset (s.carries_serve _ _ carries_configArea)
  | configPoints => exact Part.carries_unlessReset (s.carries_serve _ _ carries_configPoints)
  | configRole => exact Part.carries_unlessReset (s.carries_serve _ _ carries_configRole)
  | configCredential => exact Part.carries_unlessReset (s.carries_serve _ _ carries_configCredential)
  | configDesk => exact Part.carries_unlessReset (s.carries_serve _ _ carries_configDesk)
  | configCommit => exact Part.carries_unlessReset (s.carries_serve _ _ carries_configCommit)
  | revoke => exact Part.carries_unlessReset (s.carries_serve _ _ carries_revoke)

/-- Settles O52: every command carries the run of the journal. -/
theorem everyStepKeepsTheJournalRun : Obligations.EveryStepKeepsTheJournalRun := fun _ _ hs h =>
  step_keeps (fun i p => (carries_partAfter i p).journal) hs h

/-- Settles O53: every command carries the bounds of the report queue. -/
theorem everyStepKeepsTheReportBounds : Obligations.EveryStepKeepsTheReportBounds := fun _ _ hs h =>
  step_keeps (fun i p => (carries_partAfter i p).reports) hs h

/-- Settles O54: every command carries the bounds of load indices and flood states. -/
theorem everyStepKeepsTheFloodBounds : Obligations.EveryStepKeepsTheFloodBounds := fun _ _ hs h =>
  step_keeps (fun i p => (carries_partAfter i p).flood) hs h

/-- Settles O55: every command carries the agreement of sign-ons and stacks. -/
theorem everyStepKeepsSignOnsAndStacks : Obligations.EveryStepKeepsSignOnsAndStacks := fun _ _ hs h =>
  step_keeps (fun i p => (carries_partAfter i p).seats) hs h

/-- Settles O56: every command that moves a slot works the horns out again. -/
theorem everyStepKeepsHornsFollowing : Obligations.EveryStepKeepsHornsFollowing := fun _ _ hs h =>
  step_keeps (fun i p => (carries_partAfter i p).horns) hs h

/-- Settles O57: every command carries the bounds of the Link Interface. -/
theorem everyStepKeepsTheLinkBounds : Obligations.EveryStepKeepsTheLinkBounds := fun _ _ hs h =>
  step_keeps (fun i p => (carries_partAfter i p).link) hs h

end Sys2Proof.Machine
end

section
/-! The board: what it is for every queue, slot and order to hold exactly the points whose placements say so (R4, R7, R97, R99),
and what withdrawing a point, queueing it, deferring it and presenting it make of the board. -/

namespace Sys2Proof.Machine

/-- Two changes of one entry are one. -/
theorem modAt_modAt {α : Type} [Inhabited α] {n : Nat} (v : Vector α n) (i : Nat) (f g : α → α) :
    modAt (modAt v i f) i g = modAt v i fun x => g (f x) := by
  refine table_ext _ _ fun j _ _ => ?_
  simp only [getAt_modAt]
  split <;> rfl

theorem modAt_congr {α : Type} [Inhabited α] {n : Nat} (v : Vector α n) (i : Nat) {f g : α → α}
    (h : f (getAt v i) = g (getAt v i)) : modAt v i f = modAt v i g := by
  unfold modAt
  rw [h]

/-! ### The invariant -/

/-- Point `p` of the part has area `a` and priority `pr`. -/
structure Part.At (s : Part) (p a pr : Nat) : Prop where
  point : p ∈ numbers 1024
  area : (s.pointS p).area = a
  priority : (s.pointS p).priority = pr

/-- Queues, slots and orders hold exactly the points whose placements say so. -/
structure Part.BoardOk (s : Part) : Prop where
  placed : ∀ p ∈ numbers 1024, (s.point p).placement ≠ .none → s.InPlant p
  inRange : ∀ p ∈ numbers 1024, (s.point p).placement.InRange
  pend : ∀ a ∈ numbers 16, ∀ pr ∈ numbers 4, (getAt (s.area a).pend pr).Nodup
    ∧ ∀ p, p ∈ getAt (s.area a).pend pr ↔ s.At p a pr ∧ (s.point p).placement = .queued
  defer : ∀ a ∈ numbers 16, ∀ pr ∈ numbers 4, (getAt (s.area a).defer pr).Nodup
    ∧ ∀ p, p ∈ getAt (s.area a).defer pr ↔ s.At p a pr ∧ (s.point p).placement = .deferred
  slot : ∀ d ∈ numbers 6, ∀ k ∈ numbers 4, ∀ x ∈ getAt (s.desk d).slots k,
    x.point ∈ numbers 1024 ∧ (s.point x.point).placement = .presented d k
  shown : ∀ p ∈ numbers 1024, ∀ d k, (s.point p).placement = .presented d k →
    ∃ x ∈ getAt (s.desk d).slots k, x.point = p
  order : ∀ d ∈ numbers 6, (s.desk d).order.Nodup ∧ (∀ k ∈ (s.desk d).order, k ∈ numbers 4)
    ∧ ∀ k ∈ numbers 4, k ∈ (s.desk d).order ↔ getAt (s.desk d).slots k ≠ none
  rotation : ∀ d ∈ numbers 6, (s.desk d).rotation.Nodup ∧ ∀ a, a ∈ (s.desk d).rotation ↔ a ∈ numbers 16

/-- The deferred count of every area is the number of points in its deferred queues. -/
def Part.DeferOk (s : Part) : Prop :=
  ∀ a ∈ numbers 16, (s.area a).counts.deferred = (s.area a).deferredTotal

theorem Part.At.mem {s : Part} {p : Nat} (h : s.InPlant p) : s.At p (s.pointS p).area (s.pointS p).priority :=
  ⟨h.point_mem, rfl, rfl⟩

/-- A point in a slot stands in that slot alone. -/
theorem Part.BoardOk.slot_iff {s : Part} (h : s.BoardOk) {d k p : Nat} (hd : d ∈ numbers 6) (hk : k ∈ numbers 4) {x : Slot}
    (hx : getAt (s.desk d).slots k = some x) (hp : p ∈ numbers 1024) :
    x.point = p ↔ (s.point p).placement = .presented d k := by
  obtain ⟨hx1, hx2⟩ := h.slot d hd k hk x hx
  constructor
  · rintro rfl
    exact hx2
  · intro hplace
    obtain ⟨y, hy, hyp⟩ := h.shown p hp d k hplace
    have : y = x := Option.some.inj ((show _ = some y from hy).symm.trans hx)
    rw [← this, hyp]

/-! ### Withdrawing (R4) -/

/-- R4: what a withdrawal changes. -/
theorem withdraw_withdrew (s : Part) (p : Nat) (hp : isPoint p = true) : s.Withdrew (s.withdraw p) p := by
  have hp1 := (mem_numbers p).1 ((isPoint_iff p).1 hp)
  have hpoint : ∀ (t : Part), t.points = s.points → ∀ q ∈ numbers 1024,
      (t.modPoint p fun x => { x with placement := .none }).point q =
        if q = p then { s.point q with placement := .none } else s.point q := fun t ht q _ => by
    have hq : t.point q = s.point q := congrArg (getAt · q) ht
    rw [Part.modPoint_point, hq]
    exact if_congr ⟨fun h => h.1.symm, fun h => ⟨h.symm, hp1⟩⟩ rfl rfl
  have harea : ∀ (f : Area → Area) (b : Nat), b ∈ numbers 16 →
      (s.modArea (s.pointS p).area f).area b = if b = (s.pointS p).area then f (s.area b) else s.area b := fun f b hb => by
    rw [Part.modArea_area]
    exact if_congr ⟨fun h => h.1.symm, fun h => ⟨h.symm, h ▸ (mem_numbers b).1 hb⟩⟩ rfl rfl
  unfold Part.withdraw Part.Withdrew Part.shownAt
  cases hpl : (s.point p).placement with
  | none =>
    refine ⟨rfl, hpoint s rfl, fun b _ => ?_, fun e _ => ⟨fun _ => rfl, fun k _ h => nomatch h⟩⟩
    show s.area b = _
    split <;> rfl
  | queued =>
    refine ⟨rfl, hpoint _ rfl, fun b hb => (harea _ b hb).trans ?_, fun e _ => ⟨fun _ => rfl, fun k _ h => nomatch h⟩⟩
    split <;> rfl
  | deferred =>
    refine ⟨rfl, hpoint _ rfl, fun b hb => (harea _ b hb).trans ?_, fun e _ => ⟨fun _ => rfl, fun k _ h => nomatch h⟩⟩
    split <;> rfl
  | presented d k =>
    refine ⟨rfl, hpoint _ rfl, fun b _ => ?_, fun e he => ⟨fun hne => ?_, fun j _ h => ?_⟩⟩
    · show s.area b = _
      split <;> rfl
    · exact (s.modDesk_desk d e _).trans (if_neg fun h => hne h.1.symm)
    · cases h
      exact (s.modDesk_desk d d _).trans (if_pos ⟨rfl, (mem_numbers d).1 he⟩)

/-- A withdrawal takes the point out of the pending queues. -/
theorem Part.Withdrew.pend {s t : Part} {p : Nat} (h : s.Withdrew t p) (hs : s.BoardOk) {a pr : Nat}
    (ha : a ∈ numbers 16) (hpr : pr ∈ numbers 4) :
    (getAt (t.area a).pend pr).Nodup ∧ ∀ q, q ∈ getAt (t.area a).pend pr ↔ q ∈ getAt (s.area a).pend pr ∧ q ≠ p := by
  obtain ⟨_, _, harea, _⟩ := h
  obtain ⟨hnd, hmem⟩ := hs.pend a ha pr hpr
  have hout : p ∉ getAt (s.area a).pend pr → ∀ q, q ∈ getAt (s.area a).pend pr ↔ q ∈ getAt (s.area a).pend pr ∧ q ≠ p :=
    fun hp q => ⟨fun hq => ⟨hq, fun h => hp (h ▸ hq)⟩, fun hq => hq.1⟩
  rw [harea a ha]
  split
  · next hmine =>
    dsimp only
    split
    · next hq =>
      rw [getAt_modAt]
      split
      · exact ⟨hnd.erase p, fun q => by rw [hnd.mem_erase_iff, and_comm]⟩
      · next hne =>
        refine ⟨hnd, hout fun hp => hne ?_⟩
        obtain ⟨hat, _⟩ := (hmem p).1 hp
        rw [hat.priority]
        exact ⟨rfl, (mem_numbers pr).1 hpr⟩
    · next hq => exact ⟨hnd, hout fun hp => hq ((hmem p).1 hp).2⟩
  · next hne => exact ⟨hnd, hout fun hp => hne ((hmem p).1 hp).1.area.symm⟩

/-- A withdrawal takes the point out of the deferred queues. -/
theorem Part.Withdrew.defer {s t : Part} {p : Nat} (h : s.Withdrew t p) (hs : s.BoardOk) {a pr : Nat}
    (ha : a ∈ numbers 16) (hpr : pr ∈ numbers 4) :
    (getAt (t.area a).defer pr).Nodup ∧ ∀ q, q ∈ getAt (t.area a).defer pr ↔ q ∈ getAt (s.area a).defer pr ∧ q ≠ p := by
  obtain ⟨_, _, harea, _⟩ := h
  obtain ⟨hnd, hmem⟩ := hs.defer a ha pr hpr
  have hout : p ∉ getAt (s.area a).defer pr → ∀ q, q ∈ getAt (s.area a).defer pr ↔ q ∈ getAt (s.area a).defer pr ∧ q ≠ p :=
    fun hp q => ⟨fun hq => ⟨hq, fun h => hp (h ▸ hq)⟩, fun hq => hq.1⟩
  rw [harea a ha]
  split
  · next hmine =>
    dsimp only
    split
    · next hq =>
      rw [getAt_modAt]
      split
      · exact ⟨hnd.erase p, fun q => by rw [hnd.mem_erase_iff, and_comm]⟩
      · next hne =>
        refine ⟨hnd, hout fun hp => hne ?_⟩
        obtain ⟨hat, _⟩ := (hmem p).1 hp
        rw [hat.priority]
        exact ⟨rfl, (mem_numbers pr).1 hpr⟩
    · next hq => exact ⟨hnd, hout fun hp => hq ((hmem p).1 hp).2⟩
  · next hne => exact ⟨hnd, hout fun hp => hne ((hmem p).1 hp).1.area.symm⟩

theorem Part.Withdrew.live {s t : Part} {p : Nat} (h : s.Withdrew t p) : t.live = s.live := by rw [h.1]

theorem Part.Withdrew.placement {s t : Part} {p : Nat} (h : s.Withdrew t p) {q : Nat} (hq : q ∈ numbers 1024) :
    (t.point q).placement = if q = p then .none else (s.point q).placement := by
  rw [h.2.1 q hq]
  split <;> rfl

/-- The slots and orders of a desk after a withdrawal: the point's own slot is empty. -/
theorem Part.Withdrew.desk {s t : Part} {p : Nat} (h : s.Withdrew t p) (hs : s.BoardOk) (hp : p ∈ numbers 1024) {e : Nat}
    (he : e ∈ numbers 6) :
    t.desk e = s.desk e ∧ (∀ k, (s.point p).placement ≠ .presented e k)
    ∨ ∃ k ∈ numbers 4, (s.point p).placement = .presented e k
      ∧ t.desk e =
        { s.desk e with slots := setAt (s.desk e).slots k none, order := (s.desk e).order.filter (· != k) } := by
  obtain ⟨hother, hmine⟩ := h.2.2.2 e he
  by_cases hk : ∃ k, (s.point p).placement = .presented e k
  · obtain ⟨k, hk⟩ := hk
    have hrange := hs.inRange p hp
    rw [hk] at hrange
    exact .inr ⟨k, hrange.2, hk, hmine k hrange.2 hk⟩
  · refine .inl ⟨hother fun heq => ?_, fun k h => hk ⟨k, h⟩⟩
    have he0 : e ≠ 0 := fun h0 => by simp [h0] at he
    unfold Part.shownAt at heq
    cases hpl : (s.point p).placement with
    | presented d j =>
      simp only [hpl] at heq
      exact hk ⟨j, by rw [hpl, heq]⟩
    | none => simp only [hpl] at heq; exact he0 heq
    | queued => simp only [hpl] at heq; exact he0 heq
    | deferred => simp only [hpl] at heq; exact he0 heq

theorem Part.At.congr {s t : Part} (h : t.live = s.live) (p a pr : Nat) : t.At p a pr ↔ s.At p a pr := by
  have hS : t.pointS p = s.pointS p := by rw [Part.pointS, h, Part.pointS]
  exact ⟨fun ⟨h1, h2, h3⟩ => ⟨h1, hS ▸ h2, hS ▸ h3⟩, fun ⟨h1, h2, h3⟩ => ⟨h1, hS.symm ▸ h2, hS.symm ▸ h3⟩⟩

theorem Part.InPlant.congr {s t : Part} (h : t.live = s.live) (p : Nat) : t.InPlant p ↔ s.InPlant p := by
  have hS : t.pointS p = s.pointS p := by rw [Part.pointS, h, Part.pointS]
  unfold Part.InPlant
  rw [hS]

/-- R4: a withdrawal keeps the board. -/
theorem Part.BoardOk.withdrew {s t : Part} {p : Nat} (hs : s.BoardOk) (hp : p ∈ numbers 1024) (h : s.Withdrew t p) :
    t.BoardOk := by
  have hnone : ∀ {q : Nat} {x : Placement}, q ∈ numbers 1024 → x ≠ .none →
      ((t.point q).placement = x ↔ (s.point q).placement = x ∧ q ≠ p) := fun {q x} hq hx => by
    rw [h.placement hq]
    split
    · next hqp => exact ⟨fun he => absurd he.symm hx, fun he => absurd hqp he.2⟩
    · next hqp => exact ⟨fun he => ⟨he, hqp⟩, fun he => he.1⟩
  refine ⟨fun q hq hpl => ?_, fun q hq => ?_, fun a ha pr hpr => ?_, fun a ha pr hpr => ?_, fun d hd k hk x hx => ?_,
    fun q hq d k hpl => ?_, fun d hd => ?_, fun d hd => ?_⟩
  · rw [Part.InPlant.congr h.live]
    exact hs.placed q hq fun he => hpl (by rw [h.placement hq, he, ite_self])
  · rw [h.placement hq]
    split
    exacts [trivial, hs.inRange q hq]
  · obtain ⟨hnd, hmem⟩ := h.pend hs ha hpr
    refine ⟨hnd, fun q => ?_⟩
    rw [hmem, (hs.pend a ha pr hpr).2, Part.At.congr h.live, and_assoc]
    exact and_congr_right fun hat => (hnone hat.point (by decide)).symm
  · obtain ⟨hnd, hmem⟩ := h.defer hs ha hpr
    refine ⟨hnd, fun q => ?_⟩
    rw [hmem, (hs.defer a ha pr hpr).2, Part.At.congr h.live, and_assoc]
    exact and_congr_right fun hat => (hnone hat.point (by decide)).symm
  · obtain ⟨hdesk, hout⟩ | ⟨j, hj, hpj, hdesk⟩ := h.desk hs hp hd
    · rw [hdesk] at hx
      obtain ⟨hxp, hxpl⟩ := hs.slot d hd k hk x hx
      exact ⟨hxp, (hnone hxp (by simp)).2 ⟨hxpl, fun he => hout k (he ▸ hxpl)⟩⟩
    · rw [hdesk] at hx
      replace hx : getAt (setAt (s.desk d).slots j none) k = some x := hx
      rw [getAt_setAt] at hx
      split at hx
      · cases hx
      · next hne =>
        obtain ⟨hxp, hxpl⟩ := hs.slot d hd k hk x hx
        refine ⟨hxp, (hnone hxp (by simp)).2 ⟨hxpl, fun he => hne ?_⟩⟩
        rw [he, hpj] at hxpl
        cases hxpl
        exact ⟨rfl, (mem_numbers k).1 hk⟩
  · obtain ⟨hpl, hqp⟩ := (hnone hq (by simp)).1 hpl
    obtain ⟨x, hx, hxq⟩ := hs.shown q hq d k hpl
    refine ⟨x, ?_, hxq⟩
    have hrange := hs.inRange q hq
    rw [hpl] at hrange
    obtain ⟨hdesk, _⟩ | ⟨j, hj, hpj, hdesk⟩ := h.desk hs hp hrange.1
    · rw [hdesk]
      exact hx
    · rw [hdesk]
      show getAt (setAt (s.desk d).slots j none) k = some x
      rw [getAt_setAt, if_neg]
      · exact hx
      · rintro ⟨rfl, _⟩
        exact hqp (hxq.symm.trans ((hs.slot_iff hrange.1 hj hx hp).2 hpj))
  · obtain ⟨hnd, hrange, hiff⟩ := hs.order d hd
    obtain ⟨hdesk, _⟩ | ⟨j, hj, _, hdesk⟩ := h.desk hs hp hd
    · rw [hdesk]
      exact hs.order d hd
    · rw [hdesk]
      refine ⟨hnd.filter _, fun k hk => hrange k (List.mem_filter.1 hk).1, fun k hk => ?_⟩
      show k ∈ (s.desk d).order.filter (· != j) ↔ getAt (setAt (s.desk d).slots j none) k ≠ none
      rw [List.mem_filter, getAt_setAt, hiff k hk]
      by_cases hkj : k = j
      · subst hkj
        simp [(mem_numbers k).1 hk]
      · simp [hkj, Ne.symm hkj]
  · obtain ⟨hdesk, _⟩ | ⟨_, _, _, hdesk⟩ := h.desk hs hp hd <;> rw [hdesk] <;> exact hs.rotation d hd

theorem Part.BoardOk.withdraw {s : Part} (hs : s.BoardOk) {p : Nat} (hp : p ∈ numbers 1024) : (s.withdraw p).BoardOk :=
  hs.withdrew hp (withdraw_withdrew s p ((isPoint_iff p).2 hp))

end Sys2Proof.Machine
end

section
/-! A point that is held nowhere takes its place on the board: in a pending queue, in a deferred queue or in a slot. The returns
and the placements of a fill, and a release, are each a withdrawal and such a step. -/

namespace Sys2Proof.Machine

/-! ### Joining a queue -/

/-- A part in which point `p`, held nowhere before, stands in one of its queues, and nothing else on the board has moved. -/
theorem Part.BoardOk.enqueued {s t : Part} (hs : s.BoardOk) {p : Nat} (hp : s.InPlant p)
    (hfree : (s.point p).placement = .none) (hlive : t.live = s.live) (hdesks : t.desks = s.desks) {x : Placement}
    (hx : x = .queued ∨ x = .deferred)
    (hpl : ∀ q ∈ numbers 1024, (t.point q).placement = if q = p then x else (s.point q).placement)
    (hpend : ∀ a ∈ numbers 16, ∀ pr ∈ numbers 4, (getAt (t.area a).pend pr).Nodup ∧ ∀ q, q ∈ getAt (t.area a).pend pr ↔
      q ∈ getAt (s.area a).pend pr ∨ q = p ∧ s.At p a pr ∧ x = .queued)
    (hdefer : ∀ a ∈ numbers 16, ∀ pr ∈ numbers 4, (getAt (t.area a).defer pr).Nodup ∧ ∀ q, q ∈ getAt (t.area a).defer pr ↔
      q ∈ getAt (s.area a).defer pr ∨ q = p ∧ s.At p a pr ∧ x = .deferred) : t.BoardOk := by
  have hdesk : ∀ d, t.desk d = s.desk d := fun d => congrArg (getAt · d) hdesks
  have hqueue : ∀ {y : Placement} {q a pr : Nat}, y ≠ .none →
      (s.At q a pr ∧ (s.point q).placement = y ∨ q = p ∧ s.At p a pr ∧ x = y ↔
        t.At q a pr ∧ (t.point q).placement = y) := fun {y q a pr} hy => by
    rw [Part.At.congr hlive]
    constructor
    · rintro (⟨hat, hq⟩ | ⟨rfl, hat, rfl⟩)
      · refine ⟨hat, ?_⟩
        rw [hpl q hat.point, if_neg fun h => hy ?_]
        · exact hq
        · rw [← hq, h, hfree]
      · exact ⟨hat, by rw [hpl q hat.point, if_pos rfl]⟩
    · rintro ⟨hat, hq⟩
      rw [hpl q hat.point] at hq
      split at hq
      · next h => subst h; exact .inr ⟨rfl, hat, hq⟩
      · exact .inl ⟨hat, hq⟩
  have hpresented : ∀ {q d k : Nat}, q ∈ numbers 1024 →
      ((t.point q).placement = .presented d k ↔ (s.point q).placement = .presented d k) := fun {q d k} hq => by
    rw [hpl q hq]
    split
    · next h =>
      rw [h, hfree]
      rcases hx with rfl | rfl <;> simp
    · rfl
  refine ⟨fun q hq hq0 => ?_, fun q hq => ?_, fun a ha pr hpr => ?_, fun a ha pr hpr => ?_, fun d hd k hk y hy => ?_,
    fun q hq d k hq0 => ?_, fun d hd => ?_, fun d hd => ?_⟩
  · rw [Part.InPlant.congr hlive]
    rw [hpl q hq] at hq0
    split at hq0
    · next h => exact h ▸ hp
    · exact hs.placed q hq hq0
  · rw [hpl q hq]
    split
    · rcases hx with rfl | rfl <;> trivial
    · exact hs.inRange q hq
  · refine ⟨(hpend a ha pr hpr).1, fun q => ?_⟩
    rw [(hpend a ha pr hpr).2, (hs.pend a ha pr hpr).2]
    exact hqueue (by decide)
  · refine ⟨(hdefer a ha pr hpr).1, fun q => ?_⟩
    rw [(hdefer a ha pr hpr).2, (hs.defer a ha pr hpr).2]
    exact hqueue (by decide)
  · rw [hdesk] at hy
    obtain ⟨h1, h2⟩ := hs.slot d hd k hk y hy
    exact ⟨h1, (hpresented h1).2 h2⟩
  · rw [hdesk]
    exact hs.shown q hq d k ((hpresented hq).1 hq0)
  · rw [hdesk]
    exact hs.order d hd
  · rw [hdesk]
    exact hs.rotation d hd

/-- The placement of one point set. -/
theorem Part.setPlacement_point (s : Part) {p : Nat} (hp : p ∈ numbers 1024) (x : Placement) (q : Nat) :
    (s.modPoint p fun y => { y with placement := x }).point q =
      if q = p then { s.point q with placement := x } else s.point q := by
  have := (mem_numbers p).1 hp
  rw [Part.modPoint_point]
  exact if_congr ⟨fun h => h.1.symm, fun h => ⟨h.symm, this⟩⟩ rfl rfl

/-- A point that is held nowhere joins its pending queue, at either end. -/
theorem Part.BoardOk.enqueue {s : Part} (hs : s.BoardOk) {p : Nat} (hp : s.InPlant p)
    (hfree : (s.point p).placement = .none) (f : List Nat → List Nat)
    (hf : ∀ l, p ∉ l → l.Nodup → (f l).Nodup ∧ ∀ q, q ∈ f l ↔ q ∈ l ∨ q = p) :
    ((s.modArea (s.pointS p).area fun a => { a with pend := modAt a.pend (s.pointS p).priority f }).modPoint p
      fun x => { x with placement := .queued }).BoardOk := by
  refine hs.enqueued hp hfree rfl rfl (.inl rfl) (fun q hq => ?_) (fun a ha pr hpr => ?_) fun a ha pr hpr => ?_
  · rw [Part.setPlacement_point _ hp.point_mem _ q]
    split <;> rfl
  · have hnot : p ∉ getAt (s.area a).pend pr := fun h => by
      have := (((hs.pend a ha pr hpr).2 p).1 h).2
      rw [hfree] at this
      cases this
    obtain ⟨hnd, hmem⟩ := hf _ hnot (hs.pend a ha pr hpr).1
    show (getAt ((s.modArea _ _).area a).pend pr).Nodup ∧ ∀ q, q ∈ getAt ((s.modArea _ _).area a).pend pr ↔ _
    rw [Part.modArea_area]
    by_cases hat : s.At p a pr
    · rw [if_pos ⟨hat.area, (hat.area ▸ (mem_numbers a).1 ha : _)⟩]
      dsimp only
      rw [getAt_modAt, if_pos ⟨hat.priority, (hat.priority ▸ (mem_numbers pr).1 hpr : _)⟩]
      exact ⟨hnd, fun q => by simp [hmem, hat]⟩
    · have hkeep : getAt (if (s.pointS p).area = a ∧ 1 ≤ (s.pointS p).area ∧ (s.pointS p).area ≤ 16 then
          { s.area a with pend := modAt (s.area a).pend (s.pointS p).priority f } else s.area a).pend pr
            = getAt (s.area a).pend pr := by
        split
        · next h => exact getAt_modAt_ne _ _ _ _ fun h' => hat ⟨hp.point_mem, h.1, h'⟩
        · rfl
      rw [hkeep]
      exact ⟨(hs.pend a ha pr hpr).1, fun q => by simp [hat]⟩
  · have hkeep : getAt ((s.modArea (s.pointS p).area fun a =>
        { a with pend := modAt a.pend (s.pointS p).priority f }).area a).defer pr = getAt (s.area a).defer pr := by
      rw [Part.modArea_area]
      split <;> rfl
    show (getAt ((s.modArea _ _).area a).defer pr).Nodup ∧ ∀ q, q ∈ getAt ((s.modArea _ _).area a).defer pr ↔ _
    rw [hkeep]
    exact ⟨(hs.defer a ha pr hpr).1, fun q => by simp⟩

theorem snoc_joins {p : Nat} {l : List Nat} (h : p ∉ l) (hl : l.Nodup) :
    (l ++ [p]).Nodup ∧ ∀ q, q ∈ l ++ [p] ↔ q ∈ l ∨ q = p :=
  ⟨by simpa using List.Nodup.concat h hl, fun q => by simp⟩

theorem cons_joins {p : Nat} {l : List Nat} (h : p ∉ l) (hl : l.Nodup) :
    (p :: l).Nodup ∧ ∀ q, q ∈ p :: l ↔ q ∈ l ∨ q = p :=
  ⟨List.nodup_cons.2 ⟨h, hl⟩, fun q => by simp [or_comm]⟩

theorem Part.BoardOk.joinPending {s : Part} (hs : s.BoardOk) {p : Nat} (hp : s.InPlant p)
    (hfree : (s.point p).placement = .none) : (s.joinPending p).BoardOk :=
  hs.enqueue hp hfree _ fun _ h hl => snoc_joins h hl

theorem Part.BoardOk.returnHead {s : Part} (hs : s.BoardOk) {p : Nat} (hp : s.InPlant p)
    (hfree : (s.point p).placement = .none) : (s.returnHead p).BoardOk :=
  hs.enqueue hp hfree _ fun _ h hl => cons_joins h hl

/-- A point that is held nowhere joins its deferred queue. -/
theorem Part.BoardOk.joinDeferred {s : Part} (hs : s.BoardOk) {p : Nat} (hp : s.InPlant p)
    (hfree : (s.point p).placement = .none) : (s.joinDeferred p).BoardOk := by
  unfold Part.joinDeferred
  refine hs.enqueued hp hfree rfl rfl (.inr rfl) (fun q hq => ?_) (fun a ha pr hpr => ?_) fun a ha pr hpr => ?_
  · rw [Part.setPlacement_point _ hp.point_mem _ q]
    split <;> rfl
  · show (getAt ((s.modArea _ _).area a).pend pr).Nodup ∧ ∀ q, q ∈ getAt ((s.modArea _ _).area a).pend pr ↔ _
    rw [Part.modArea_area]
    split <;> exact ⟨(hs.pend a ha pr hpr).1, fun q => by simp⟩
  · have hnot : p ∉ getAt (s.area a).defer pr := fun h => by
      have := (((hs.defer a ha pr hpr).2 p).1 h).2
      rw [hfree] at this
      cases this
    obtain ⟨hnd, hmem⟩ := snoc_joins hnot (hs.defer a ha pr hpr).1
    show (getAt ((s.modArea _ _).area a).defer pr).Nodup ∧ ∀ q, q ∈ getAt ((s.modArea _ _).area a).defer pr ↔ _
    rw [Part.modArea_area]
    by_cases hat : s.At p a pr
    · rw [if_pos ⟨hat.area, (hat.area ▸ (mem_numbers a).1 ha : _)⟩]
      dsimp only
      rw [getAt_modAt, if_pos ⟨hat.priority, (hat.priority ▸ (mem_numbers pr).1 hpr : _)⟩]
      exact ⟨hnd, fun q => by rw [hmem]; simp [hat]⟩
    · split
      · next h =>
        dsimp only
        rw [getAt_modAt_ne _ _ _ _ fun h' => hat ⟨hp.point_mem, h.1, h'⟩]
        exact ⟨(hs.defer a ha pr hpr).1, fun q => by simp [hat]⟩
      · exact ⟨(hs.defer a ha pr hpr).1, fun q => by simp [hat]⟩

/-- R51: a point that is held nowhere is placed. -/
theorem Part.BoardOk.place {s : Part} (hs : s.BoardOk) {p : Nat} (hp : s.InPlant p)
    (hfree : (s.point p).placement = .none) : (s.place p).BoardOk := by
  unfold Part.place
  dsimp only
  split
  exacts [hs.joinDeferred hp hfree, hs.joinPending hp hfree]

/-! ### Taking a slot (R102) -/

/-- R102: point `p` takes slot `k` of desk `d`, and area `a` moves to the end of the rotation order. -/
def Part.present (s : Part) (d k a p : Nat) : Part :=
  (s.modDesk d fun x =>
    { x with
      slots := setAt x.slots k (some { point := p, view := (s.point p).view, presentedAt := s.now, silenced := false })
      order := x.order ++ [k]
      rotation := x.rotation.filter (· != a) ++ [a] }).modPoint p fun x => { x with placement := .presented d k }

/-- A rotation order with one area moved to its end holds the same areas. -/
theorem rotated {l : List Nat} {n a : Nat} (hl : l.Nodup) (h : ∀ b, b ∈ l ↔ b ∈ numbers n) (ha : a ∈ numbers n) :
    (l.filter (· != a) ++ [a]).Nodup ∧ ∀ b, b ∈ l.filter (· != a) ++ [a] ↔ b ∈ numbers n := by
  refine ⟨by simpa using List.Nodup.concat (by simp) (hl.filter (· != a)), fun b => ?_⟩
  by_cases hb : b = a
  · subst hb
    simpa using (mem_numbers b).1 ha
  · simp [h, hb]

theorem Part.BoardOk.present {s : Part} (hs : s.BoardOk) {d k a p : Nat} (hd : d ∈ numbers 6) (hk : k ∈ numbers 4)
    (ha : a ∈ numbers 16) (hp : s.InPlant p) (hfree : (s.point p).placement = .none)
    (hempty : getAt (s.desk d).slots k = none) : (s.present d k a p).BoardOk := by
  generalize ht : s.present d k a p = t
  have hlive : t.live = s.live := by subst ht; rfl
  have harea : ∀ b, t.area b = s.area b := fun b => by subst ht; rfl
  have hpl : ∀ q ∈ numbers 1024, (t.point q).placement = if q = p then .presented d k else (s.point q).placement :=
    fun q hq => by
      subst ht
      refine (congrArg Point.placement (Part.setPlacement_point _ hp.point_mem _ q)).trans ?_
      split <;> rfl
  have hother : ∀ e, e ≠ d → t.desk e = s.desk e := fun e he => by
    subst ht
    exact (s.modDesk_desk d e _).trans (if_neg fun h => he h.1.symm)
  have hmine : ∃ x : Slot, x.point = p ∧ t.desk d =
      { s.desk d with
        slots := setAt (s.desk d).slots k (some x), order := (s.desk d).order ++ [k]
        rotation := (s.desk d).rotation.filter (· != a) ++ [a] } := by
    subst ht
    exact ⟨_, rfl, (s.modDesk_desk d d _).trans (if_pos ⟨rfl, (mem_numbers d).1 hd⟩)⟩
  obtain ⟨x, hxp, hmine⟩ := hmine
  have hslot : ∀ j, getAt (t.desk d).slots j = if j = k then some x else getAt (s.desk d).slots j := fun j => by
    rw [hmine]
    show getAt (setAt _ k _) j = _
    rw [getAt_setAt]
    exact if_congr ⟨fun h => h.1.symm, fun h => ⟨h.symm, (mem_numbers k).1 hk⟩⟩ rfl rfl
  have hqueue : ∀ {y : Placement} {q b pr : Nat}, y ≠ .none → (∀ e j, y ≠ .presented e j) →
      (s.At q b pr ∧ (s.point q).placement = y ↔ t.At q b pr ∧ (t.point q).placement = y) := fun {y q b pr} hy hy' => by
    rw [Part.At.congr hlive]
    refine and_congr_right fun hat => ?_
    rw [hpl q hat.point]
    split
    · next h => exact ⟨fun he => absurd (by rw [← he, h, hfree]) hy, fun he => absurd he.symm (hy' d k)⟩
    · rfl
  refine ⟨fun q hq hq0 => ?_, fun q hq => ?_, fun b hb pr hpr => ?_, fun b hb pr hpr => ?_, fun e he j hj y hy => ?_,
    fun q hq e j hq0 => ?_, fun e he => ?_, fun e he => ?_⟩
  · rw [Part.InPlant.congr hlive]
    rw [hpl q hq] at hq0
    split at hq0
    · next h => exact h ▸ hp
    · exact hs.placed q hq hq0
  · rw [hpl q hq]
    split
    exacts [⟨hd, hk⟩, hs.inRange q hq]
  · rw [harea]
    exact ⟨(hs.pend b hb pr hpr).1, fun q => ((hs.pend b hb pr hpr).2 q).trans (hqueue (by decide) fun _ _ => by simp)⟩
  · rw [harea]
    exact ⟨(hs.defer b hb pr hpr).1, fun q => ((hs.defer b hb pr hpr).2 q).trans (hqueue (by decide) fun _ _ => by simp)⟩
  · have hold : getAt (s.desk e).slots j = some y → y.point ∈ numbers 1024 ∧ (t.point y.point).placement = .presented e j :=
      fun hy => by
        obtain ⟨h1, h2⟩ := hs.slot e he j hj y hy
        refine ⟨h1, ?_⟩
        rw [hpl _ h1, if_neg fun h => ?_]
        · exact h2
        · rw [h, hfree] at h2
          cases h2
    by_cases hed : e = d
    · subst hed
      replace hy : getAt (t.desk e).slots j = some y := hy
      rw [hslot] at hy
      split at hy
      · next h =>
        cases hy
        subst h hxp
        exact ⟨hp.point_mem, by rw [hpl _ hp.point_mem, if_pos rfl]⟩
      · exact hold hy
    · rw [hother e hed] at hy
      exact hold hy
  · rw [hpl q hq] at hq0
    split at hq0
    · next h =>
      cases hq0
      exact ⟨x, by rw [hslot, if_pos rfl]; rfl, hxp.trans h.symm⟩
    · obtain ⟨y, hy, hyq⟩ := hs.shown q hq e j hq0
      refine ⟨y, ?_, hyq⟩
      by_cases hed : e = d
      · subst hed
        rw [hslot, if_neg fun h => ?_]
        · exact hy
        · rw [h, hempty] at hy
          cases hy
      · rw [hother e hed]
        exact hy
  · obtain ⟨hnd, hrange, hiff⟩ := hs.order e he
    by_cases hed : e = d
    · subst hed
      have hnot : k ∉ (s.desk e).order := fun h => (hiff k hk).1 h hempty
      refine ⟨?_, fun j hj => ?_, fun j hj => ?_⟩
      · rw [hmine]
        simpa using List.Nodup.concat hnot hnd
      · rw [hmine] at hj
        rcases List.mem_append.1 hj with hj | hj
        · exact hrange j hj
        · rwa [List.mem_singleton.1 hj]
      · rw [hslot]
        have horder : (t.desk e).order = (s.desk e).order ++ [k] := by rw [hmine]
        rw [horder]
        by_cases hjk : j = k
        · simp [hjk]
        · simp [hjk, hiff j hj]
    · rw [hother e hed]
      exact hs.order e he
  · obtain ⟨hnd, hiff⟩ := hs.rotation e he
    by_cases hed : e = d
    · subst hed
      have hrot : (t.desk e).rotation = (s.desk e).rotation.filter (· != a) ++ [a] := by rw [hmine]
      rw [hrot]
      exact rotated hnd hiff ha
    · rw [hother e hed]
      exact hs.rotation e he

end Sys2Proof.Machine
end

section
/-! The Link Interface: the assembler's table, the check of a frame, the transmitter, the break and the quiet host. -/

namespace Sys2Proof.Machine

/-! ### Commands that are one change of the part -/

/-- A command that is one change of the part completes with that change, while RESET# is high. -/
theorem completes_onPart {i : Instr} {f : Part → Part} {s t : Part} (hexec : ∀ u, exec i u = onPart f u)
    (hreset : s.resetLow = false) (hf : f s = t) : Completes i s t := fun q => by
  rw [hexec]
  exact onPart_completes hreset hf q

/-- An event that is not due changes nothing. -/
theorem completes_notDue {i : Instr} {s : Part} {c : Part → Bool} {f : Part → Part}
    (hexec : ∀ u, exec i u = onPart (fun p => if c p = true then f p else p) u) (hreset : s.resetLow = false)
    (hc : c s = false) : Completes i s s :=
  completes_onPart hexec hreset (by simp [hc])

/-- An event that is due changes the part by its rule. -/
theorem completes_due {i : Instr} {s t : Part} {c : Part → Bool} {f : Part → Part}
    (hexec : ∀ u, exec i u = onPart (fun p => if c p = true then f p else p) u) (hreset : s.resetLow = false)
    (hc : c s = true) (hf : f s = t) : Completes i s t :=
  completes_onPart hexec hreset (by simp [hc, hf])

/-! ### The assembler and the transmitter -/

theorem completes_receive {s t : Part} {b : Byte} {stopLow : Bool} (hreset : s.resetLow = false)
    (h : s.receive b stopLow = t) : Completes (.receiveByte b stopLow) s t := 
  completes_onPart (f := fun p => p.receive b stopLow) (fun _ => rfl) hreset h

/-- Settles O7, by the state of the assembler. -/
theorem assemblerTable : Obligations.AssemblerTable := by
  intro s b stopLow hreset
  dsimp only
  refine ⟨?_, ?_, ?_, ?_, ?_, ?_, ?_, ?_, ?_, ?_⟩
  · intro hstate hsync
    refine completes_receive hreset ?_
    simp [Part.receive, hstate, hsync, Part.modLif, Assembler.hunting]
  · intro hstate hsync
    refine completes_receive hreset ?_
    have hother : ¬((!stopLow && b == 0xA5) = true) := by
      intro h
      refine hsync ?_
      simp only [Bool.and_eq_true, Bool.not_eq_true', beq_iff_eq] at h
      exact h.symm
    simp only [Part.receive, hstate, if_neg hother]
  · intro hstate hstop
    refine completes_receive hreset ?_
    subst hstop
    cases h : s.lif.asm.state
    case hunting => exact absurd h hstate
    all_goals simp [Part.receive, h, Part.modLif, Lif.badFrame, Assembler.hunting]
  · intro hstate hstop hlen
    refine completes_receive hreset ?_
    simp [Part.receive, hstate, hstop, hlen, Part.modLif, Assembler.hunting]
  · intro hstate hstop hlen
    refine completes_receive hreset ?_
    simp only [Part.receive, hstate, hstop, if_neg hlen]
    simp [Part.modLif, Lif.badFrame, Assembler.hunting]
  · intro hstate hstop hlen
    refine completes_receive hreset ?_
    simp [Part.receive, hstate, hstop, hlen, Part.modLif]
  · intro hstate hstop hlen
    refine completes_receive hreset ?_
    simp [Part.receive, hstate, hstop, hlen, Part.modLif]
  · intro hstate hstop hcrc
    refine completes_receive hreset ?_
    simp [Part.receive, hstate, hstop, hcrc, Part.modLif]
  · intro hstate hgap
    refine completes_due (c := fun p => p.lif.gapExpired) (f := fun p => p.modLif Lif.badFrame) (fun _ => rfl) hreset ?_ rfl
    simp [Lif.gapExpired, hstate, hgap]
  · intro hgap
    refine completes_notDue (c := fun p => p.lif.gapExpired) (f := fun p => p.modLif Lif.badFrame) (fun _ => rfl) hreset ?_
    rcases hgap with hstate | hgap
    · simp [Lif.gapExpired, hstate]
    · simp [Lif.gapExpired, hgap]

theorem completes_sendReply {s : Part} {l : Lif} (hreset : s.resetLow = false) (h : s.lif.sendReply = l) :
    Completes .sendReply s { s with lif := l } :=
  completes_onPart (f := fun p => p.modLif Lif.sendReply) (fun _ => rfl) hreset (by rw [Part.modLif, h])

/-- Settles O10, by what waits in the reply slot and on the busy list. -/
theorem repliesGoInTheOrderMade : Obligations.RepliesGoInTheOrderMade := by
  intro s hreset
  dsimp only
  refine ⟨?_, ?_, ?_, ?_, ?_, ?_⟩
  · intro f hf
    refine completes_sendReply (l := s.lif) hreset ?_
    simp [Lif.sendReply, hf]
  · intro hslot hbusy
    cases hf : s.lif.sending with
    | none =>
      refine completes_sendReply (l := s.lif) hreset ?_
      simp [Lif.sendReply, hf, hslot, hbusy]
    | some f =>
      refine completes_sendReply (l := s.lif) hreset ?_
      simp [Lif.sendReply, hf]
  · intro e rest hsending hslot hbusy
    refine completes_sendReply hreset ?_
    simp only [Lif.sendReply, hsending, hslot, hbusy]
    rfl
  · intro r e rest hsending hslot hbusy hahead
    refine completes_sendReply hreset ?_
    simp only [Lif.sendReply, hsending, hslot, hbusy, if_neg hahead]
    rfl
  · intro r hsending hslot hfirst
    refine completes_sendReply hreset ?_
    cases hbusy : s.lif.busyList with
    | nil => simp only [Lif.sendReply, hsending, hslot, hbusy]
    | cons e rest =>
      have hahead : r.busyAhead = 0 := hfirst.resolve_left (by simp [hbusy])
      simp only [Lif.sendReply, hsending, hslot, hbusy, if_pos hahead]
  · exact completes_onPart (f := fun p => p.modLif fun l => { l with sending := none }) (fun _ => rfl) hreset rfl

end Sys2Proof.Machine
end

section
/-! What the end of an event says of its records, its reports and what it leaves alone, for every event; the events that
change the Record Store and the Link Interface alone. -/

namespace Sys2Proof.Machine

/-! ### The end of an event -/

theorem closeEvent_lif (s : Part) (extra : List ReportEntry) (t : Part) : (closeEvent s extra t).lif = t.lif := by
  rw [closeEvent_rest]

/-- Every part of the event but desks and Record Store stands at its end as the rule left it. -/
structure Closed (u t : Part) : Prop where
  rest : t = { u with desks := t.desks, rst := t.rst }
  desk : ∀ d ∈ numbers 6, t.desk d = { u.desk d with horn := (t.desk d).horn, hornPattern := (t.desk d).hornPattern }

theorem closeEvent_closed (s : Part) (extra : List ReportEntry) (u : Part) : Closed u (closeEvent s extra u) := by
  refine ⟨?_, fun d hd => ?_⟩
  · rw [closeEvent_rest]
  · obtain ⟨h1, h2⟩ := (mem_numbers d).1 hd
    rw [closeEvent_desk, u.refreshHorns_desk d h1 h2]

/-- An event that left reports as they were has, at its end, written its records and queued its reports. -/
theorem closeEvent_wroteAnd {s u : Part} {l : List JournalRecord} (extra : List ReportEntry) (hrec : s.Recorded u l)
    (hreports : u.rst.reports = s.rst.reports) (hdropped : u.rst.dropped = s.rst.dropped)
    (hsize : u.journalSize = s.journalSize) : s.WroteAnd (closeEvent s extra u) l extra := by
  obtain ⟨_, _, _, henabled, _⟩ := id hrec
  refine ⟨?_, closeEvent_reported extra hreports hdropped henabled hsize⟩
  have h := hrec.append (closeEvent_recorded s extra u) hsize
  rwa [List.append_nil] at h

/-- An event that changed neither the Record Store nor the desks: only records of the others. -/
theorem Part.recorded_self (s : Part) : s.Recorded s [] := Part.recorded_nothing rfl rfl rfl rfl rfl rfl rfl

/-- Records are compared by the Record Store and the size of the journal alone. -/
theorem Part.Recorded.congr {s t u v : Part} {l : List JournalRecord} (h : s.Recorded t l) (hs : u.rst = s.rst)
    (hsize : u.journalSize = s.journalSize) (ht : v.rst = t.rst) : u.Recorded v l := by
  unfold Part.Recorded at h ⊢
  rw [hs, hsize, ht]
  exact h

/-- An event of the Record Store and the Link Interface alone leaves everything else, but for the horns. -/
theorem closeEvent_recordFrame {s u : Part} (extra : List ReportEntry) (h : u = { s with rst := u.rst, lif := u.lif }) :
    s.RecordFrame (closeEvent s extra u) := by
  have hdesks : u.desks = s.desks := by rw [h]
  rw [h]
  refine ⟨?_, ?_, ?_, ?_, ?_, ?_, fun d hd => closeEvent_deskKept extra hd rfl⟩ <;>
    rw [closeEvent_rest]
  exacts [⟨rfl, rfl, rfl, rfl, rfl⟩, ⟨rfl, rfl⟩]

/-- An event of records and the Link Interface alone, as the statements say it. -/
theorem closeEvent_onlyWrote {s u : Part} {l : List JournalRecord} (h : u = { s with rst := u.rst, lif := u.lif })
    (hrec : s.Recorded u l) (hreports : u.rst.reports = s.rst.reports) (hdropped : u.rst.dropped = s.rst.dropped) :
    s.OnlyWrote (closeEvent s [] u) l := by
  have hsize : u.journalSize = s.journalSize := by rw [h]; rfl
  exact ⟨closeEvent_wroteAnd [] hrec hreports hdropped hsize, closeEvent_recordFrame [] h⟩

/-- One record about no area. -/
theorem Part.write_recorded_plain (s : Part) (f : RecordFields) (h : f.area = 0) :
    s.Recorded (s.write false f) (s.records [(false, 0, f)]) := by
  have hrec := s.write_recorded false f
  rw [h] at hrec
  exact hrec

theorem mem_eventReports_desk {s t : Part} {extra : List ReportEntry} {d : Nat} (hd : d ∈ numbers 6)
    (h : deskReported s t d = true ∨ deskEntry d ∈ extra) : deskEntry d ∈ eventReports s t extra := by
  unfold eventReports
  refine List.mem_append_left _ (List.mem_append_left _ (List.mem_append_left _ (List.mem_append_right _ ?_)))
  refine List.mem_map.2 ⟨d, List.mem_filter.2 ⟨hd, ?_⟩, rfl⟩
  rcases h with h | h
  · rw [h, Bool.true_or]
  · rw [show extra.contains { kind := .desk, subject := d } = true from List.contains_iff_mem.2 h, Bool.or_true]

/-- R114, R131: the DESK report of a desk whose reported fields changed, or that the rule reports in any case. -/
theorem closeEvent_tells_desk {s t : Part} {extra : List ReportEntry} {d : Nat} (hd : d ∈ numbers 6)
    (h : deskReported s t.refreshHorns d = true ∨ deskEntry d ∈ extra) : (closeEvent s extra t).Told (deskEntry d) :=
  closeEvent_told s extra t _ (mem_eventReports_desk hd h)

/-- R131: a lamp source that changes in RUNNING is reported. -/
theorem deskReported_of_lampSource {s t : Part} {d k : Nat} (hrun : t.phase = .running) (hk : k < 16)
    (h : s.lampSource d k ≠ t.lampSource d k) : deskReported s t d = true := by
  have hsources : s.lampSources d ≠ t.lampSources d := fun heq => h (by
    have := congrArg (fun l => l[k]?) heq
    simpa [Part.lampSources, hk] using this)
  simp [deskReported, hrun, hsources]

/-! ### A break and a quiet host -/

theorem Part.linkReset_eq (s : Part) : s.linkReset =
    { s with
      rst := s.rst.afterBreak
      lif := { s.lif.afterBreak with breakCount := s.lif.breakCount } } := rfl

theorem completes_linkReset {s : Part} (hreset : s.resetLow = false) : Completes .linkReset s
    (if s.lif.breaks true = true then s.linkReset.modLif fun l => { l with breakCount := 10, tickTaken := true } else s) :=
  completes_onPart (f := fun p =>
    if p.lif.breaks true then p.linkReset.modLif fun l => { l with breakCount := 10, tickTaken := true } else p)
    (fun _ => rfl) hreset rfl

theorem Lif.breaks_iff (l : Lif) : l.breaks true = true ↔ l.breakCount = 9 ∧ l.tickTaken = false := by
  simp [Lif.breaks]

/-- The link goes QUIET and LINK_QUIET is written, before the end of the event. -/
def Part.quieted (s : Part) : Part :=
  (s.modLif fun l => { l with link := .quiet, quietTimer := Timer.idle, quietSeconds := 0 }).write false
    { kind := .linkQuiet, value := w16 s.live.plant.quietTime }

theorem Part.goQuiet_eq (s : Part) : s.goQuiet = closeEvent s [] s.quieted := rfl

theorem Part.quieted_refreshHorns_phase (s : Part) : s.quieted.refreshHorns.phase = s.phase := by
  rw [Part.refreshHorns_rest]; rfl

theorem Part.quieted_lampSource (s : Part) (d : Nat) : s.quieted.refreshHorns.lampSource d 14 = true := by
  have hlif : s.quieted.refreshHorns.lif.link = .quiet := by rw [Part.refreshHorns_rest]; rfl
  simp [Part.lampSource, hlif]

/-- R175: going QUIET while ACTIVE. -/
theorem goQuiet_onlyWrote (s : Part) :
    s.OnlyWrote s.goQuiet (s.records [(false, 0, { kind := .linkQuiet, value := w16 s.live.plant.quietTime })]) := by
  rw [s.goQuiet_eq]
  exact closeEvent_onlyWrote rfl (Part.write_recorded_plain _ _ rfl) rfl rfl

theorem goQuiet_told {s : Part} (hactive : s.lif.link = .active) {d : Nat} (hd : d ∈ numbers 6)
    (hrun : s.phase = .running) : s.goQuiet.Told (deskEntry d) := by
  rw [s.goQuiet_eq]
  refine closeEvent_tells_desk hd (.inl (deskReported_of_lampSource (k := 14) ?_ (by decide) ?_))
  · rw [s.quieted_refreshHorns_phase, hrun]
  · rw [s.quieted_lampSource]
    simp [Part.lampSource, hactive]

/-- Settles O12: the break count and the quiet timer decide, and each event is one change of the part. -/
theorem linkResetAndHostQuiet : Obligations.LinkResetAndHostQuiet := by
  refine ⟨fun s hreset => ⟨fun hno => ?_, fun hcount htick => ?_⟩, fun s hreset => ⟨fun hno => ?_, fun hdue hactive => ?_⟩⟩
  · have h := completes_linkReset hreset
    rwa [if_neg (fun hb => hno ((Lif.breaks_iff _).1 hb))] at h
  · have h := completes_linkReset hreset
    rwa [if_pos ((Lif.breaks_iff _).2 ⟨hcount, htick⟩)] at h
  · refine completes_notDue (c := fun p => p.lif.quietTimer.due && p.lif.link == .active) (f := Part.goQuiet)
      (fun _ => rfl) hreset ?_
    rw [Bool.eq_false_iff]
    intro h
    rw [Bool.and_eq_true, beq_iff_eq] at h
    exact hno h
  · obtain ⟨hwrote, hframe⟩ := goQuiet_onlyWrote s
    refine ⟨s.goQuiet, ?_, hframe, hwrote, ?_, fun d hd hrun => goQuiet_told hactive hd hrun⟩
    · exact completes_due (c := fun p => p.lif.quietTimer.due && p.lif.link == .active) (f := Part.goQuiet)
        (fun _ => rfl) hreset (by simp [hdue, hactive]) rfl
    · rw [s.goQuiet_eq, closeEvent_lif]
      rfl

/-! ### A whole frame -/

/-- R175, R171: the part after a good frame, before the end of its event. -/
def Part.framed (s : Part) (f : Frame) : Part := s.hostActivity.modLif fun l => l.offer f

theorem Part.goodFrame_eq (s : Part) (f : Frame) : s.goodFrame f = closeEvent s [] (s.framed f) := rfl

theorem Part.framed_rest (s : Part) (f : Frame) :
    s.framed f = { s with rst := (s.framed f).rst, lif := (s.framed f).lif } := by
  unfold Part.framed Part.hostActivity
  dsimp only
  split <;> rfl

theorem Part.framed_reports (s : Part) (f : Frame) :
    (s.framed f).rst.reports = s.rst.reports ∧ (s.framed f).rst.dropped = s.rst.dropped := by
  unfold Part.framed Part.hostActivity
  dsimp only
  split <;> exact ⟨rfl, rfl⟩

theorem Part.framed_recorded (s : Part) (f : Frame) :
    s.Recorded (s.framed f) (s.records
      (if s.lif.link = .quiet then [(false, 0, { kind := .linkActive, value := w16 s.lif.quietSeconds })] else [])) := by
  unfold Part.framed Part.hostActivity
  dsimp only
  split
  · exact Part.write_recorded_plain _ _ rfl
  · exact s.recorded_self

theorem Part.framed_lif (s : Part) (f : Frame) :
    (s.framed f).lif =
      ({ s.lif with link := .active, quietTimer := { remaining := s.live.plant.quietTime, due := false } } : Lif).offer f := by
  unfold Part.framed Part.hostActivity
  dsimp only
  split <;> rfl

/-- R171: the fields of the Link Interface after a good frame. -/
theorem Lif.offer_eq (l : Lif) (f : Frame) : l.offer f =
    { l with
      inputQueue := if l.inputQueue.length < 4 then l.inputQueue ++ [f] else l.inputQueue
      busyList :=
        if 4 ≤ l.inputQueue.length ∧ l.busyList.length < 4 then l.busyList ++ [{ tag := f.tag, kind := f.kind }]
        else l.busyList
      badFrames :=
        if 4 ≤ l.inputQueue.length ∧ 4 ≤ l.busyList.length then min 65535 (l.badFrames + 1) else l.badFrames } := by
  unfold Lif.offer Config.queueFrames
  by_cases hq : l.inputQueue.length < 4
  · simp [hq, Nat.not_le.2 hq]
  · by_cases hb : l.busyList.length < 4
    · simp [hq, hb, Nat.not_lt.1 hq]
    · simp [hq, hb, Nat.not_lt.1 hq, Nat.not_lt.1 hb]

/-- R170: the last CRC byte of a whole frame. -/
theorem receive_lastByte {s : Part} {b c tag kind : Byte} {body : List Byte} (hstate : s.lif.asm.state = .checking)
    (hbuf : s.lif.asm.buf = tag :: kind :: body) (hcrc : s.lif.asm.crc = [c]) :
    s.receive b false =
      if [c, b] = be16 (crc16 (s.lif.asm.len :: tag :: kind :: body)).toNat ∧ tag ≠ 0 then
        (s.modLif fun l => { l with asm := Assembler.hunting }).goodFrame { tag := tag, kind := kind, body := body }
      else s.modLif Lif.badFrame := by
  simp only [Part.receive, hstate, hcrc, hbuf, Part.checkFrame]
  rfl

/-- Reports are compared by the link state alone of the Link Interface before the event. -/
theorem Part.Reported.ofLif {s t : Part} {l : Lif} {extra : List ReportEntry} (hlink : l.link = s.lif.link)
    (h : ({ s with lif := l } : Part).Reported t extra) : s.Reported t extra := by
  have he : eventReports { s with lif := l } t extra = eventReports s t extra :=
    eventReports_lif_before s t extra l hlink
  unfold Part.Reported at h ⊢
  rw [← he]
  exact h

/-- R171, R175: a good frame, found by an assembler that has gone back to HUNTING, writes LINK_ACTIVE in QUIET. -/
theorem goodFrame_onlyWrote (s : Part) (x : Assembler) (f : Frame) :
    s.RecordFrame ((s.modLif fun l => { l with asm := x }).goodFrame f)
    ∧ s.Wrote ((s.modLif fun l => { l with asm := x }).goodFrame f) (s.records
      (if s.lif.link = .quiet then [(false, 0, { kind := .linkActive, value := w16 s.lif.quietSeconds })] else [])) := by
  obtain ⟨hreports, hdropped⟩ := (s.modLif fun l => { l with asm := x }).framed_reports f
  obtain ⟨⟨hrec, hrep⟩, hframe⟩ := closeEvent_onlyWrote (Part.framed_rest _ f)
    ((s.modLif fun l => { l with asm := x }).framed_recorded f) hreports hdropped
  exact ⟨hframe, hrec, hrep.ofLif rfl⟩

/-- Settles O8: the CRC decides, and a good frame is one event of the link and the Record Store. -/
theorem wholeFrameIsChecked : Obligations.WholeFrameIsChecked := by
  refine ⟨by decide +kernel, fun s b c tag kind body hreset hstate hbuf hcrc => ?_⟩
  dsimp only
  refine ⟨fun hbad => ?_, fun hright htag => ?_⟩
  · refine completes_receive hreset ?_
    rw [receive_lastByte hstate hbuf hcrc, if_neg (fun h => hbad.elim (absurd h.1) h.2)]
    rfl
  · obtain ⟨hframe, hwrote⟩ := goodFrame_onlyWrote s Assembler.hunting { tag := tag, kind := kind, body := body }
    refine ⟨_, completes_receive hreset ?_, hframe, hwrote, ?_⟩
    · rw [receive_lastByte hstate hbuf hcrc, if_pos ⟨hright, htag⟩]
    · rw [Part.goodFrame_eq, closeEvent_lif, Part.framed_lif, Lif.offer_eq]
      rfl

end Sys2Proof.Machine
end

section
/-! The catalogue of requests and the checks of the link; the plant clock, the journal and the report settings. -/

namespace Sys2Proof.Machine

/-! ### The catalogue -/

/-- R183: a head and 1 to `most` items. -/
theorem itemsOk_iff {head size most len : Nat} (hsize : 0 < size) :
    itemsOk head size most len = true ↔ ∃ n ∈ numbers most, len = head + size * n := by
  simp only [itemsOk, Bool.and_eq_true, decide_eq_true_eq, beq_iff_eq]
  constructor
  · rintro ⟨⟨hlow, hhigh⟩, hmod⟩
    obtain ⟨n, hn⟩ := Nat.dvd_of_mod_eq_zero hmod
    refine ⟨n, (mem_numbers n).2 ⟨?_, ?_⟩, by omega⟩
    · rcases Nat.eq_zero_or_pos n with rfl | h
      · simp only [Nat.mul_zero] at hn; omega
      · exact h
    · exact Nat.le_of_mul_le_mul_left (show size * n ≤ size * most by omega) hsize
  · rintro ⟨n, hn, rfl⟩
    obtain ⟨h1, h2⟩ := (mem_numbers n).1 hn
    have hlow : size * 1 ≤ size * n := Nat.mul_le_mul_left size h1
    have hhigh : size * n ≤ size * most := Nat.mul_le_mul_left size h2
    refine ⟨⟨by omega, by omega⟩, ?_⟩
    rw [Nat.add_sub_cancel_left, Nat.mul_mod_right]

/-- R183: a body without items. -/
theorem fixedLength_iff {head len : Nat} : (len == head) = true ↔ ∃ n ∈ numbers 1, len = head + 0 * n := by
  constructor
  · intro h
    exact ⟨1, (mem_numbers 1).2 ⟨Nat.le_refl 1, Nat.le_refl 1⟩, by simpa using h⟩
  · rintro ⟨n, _, h⟩
    simpa using h

theorem requestTable_lengths : ∀ r ∈ requestTable, r.1.code = r.2.1
    ∧ ∀ len : Nat, r.1.lengthOk len = true ↔ ∃ n ∈ numbers r.2.2.2.2, len = r.2.2.1 + r.2.2.2.1 * n := by
  simp only [requestTable, List.forall_mem_cons, List.cons_append, List.nil_append, List.not_mem_nil,
    false_imp_iff, implies_true, and_true]
  repeat' apply And.intro
  all_goals first | rfl | exact fun _ => itemsOk_iff (by decide) | exact fun _ => fixedLength_iff

/-- R184: the phases in which each kind is taken. -/
theorem acceptedIn_iff (k : ReqKind) : (k.acceptedIn .blank = true ↔ k ∈ takenAlways)
    ∧ (k.acceptedIn .loading = true ↔ k ∈ takenAlways ++ takenLoading)
    ∧ (k.acceptedIn .running = true ↔ k ∉ refusedRunning) := by
  cases k <;> decide

/-! ### The checks of the link -/

/-- Every request of the catalogue is served by its owning block. -/
theorem exec_command (k : ReqKind) : ∃ f : Handler, ∀ u, exec k.command u = onRequest k f u := by
  cases k <;> exact ⟨_, fun _ => rfl⟩

/-- A request that is offered and not handled is answered, and nothing else changes. -/
theorem completes_turnedAway {k : ReqKind} {s : Part} {tag : Byte} {body reply : List Byte} (h : s.Offered k tag body)
    (hreply : ∀ f, s.taken.handle k f body = (s.taken, reply)) :
    Completes k.command s { s with lif := s.answer k tag reply } := by
  obtain ⟨f, hexec⟩ := exec_command k
  refine completes_onPart (f := fun p => p.serve k f) hexec h.1 ?_
  rw [Part.serve_offered h, hreply f, ← Part.reply_lif (t := s.taken) k tag reply rfl]
  rfl

/-- A request whose owning block leaves the Link Interface alone completes with its answer in the slot. -/
theorem completes_answered {c : Instr} {k : ReqKind} {f : Handler} {s u : Part} {tag : Byte} {body reply : List Byte}
    (hexec : ∀ v, exec c v = onRequest k f v) (h : s.Takes k tag body) (hf : f body s.taken = (u, reply))
    (hlif : u.lif = s.taken.lif) : Completes c s { u with lif := s.answer k tag reply } := by
  have hdone := completes_taken hexec h
  rwa [hf, Part.reply_rest, Part.reply_lif k tag reply hlif] at hdone

theorem inCatalogue_code (b : Byte) (h : inCatalogue b = true) : ∃ k : ReqKind, k.code = b.toNat := by
  unfold inCatalogue at h
  rw [List.any_eq_true] at h
  obtain ⟨k, _, hk⟩ := h
  exact ⟨k, by simpa using hk⟩

theorem completes_unknownKind {s : Part} {f : Frame} {rest : List Frame} (hreset : s.resetLow = false)
    (hslot : s.lif.replySlot = none) (hqueue : s.lif.inputQueue = f :: rest)
    (hkind : ∀ k : ReqKind, k.code ≠ f.kind.toNat) : Completes .unknownKind s
      { s with
        lif :=
          { s.lif with
            inputQueue := rest
            replySlot := some
              { tag := f.tag, kind := if f.kind.toNat < 128 then f.kind + 128 else 255, body := [2]
                busyAhead := s.lif.busyList.length } } } := by
  have hout : ¬inCatalogue f.kind = true := fun h => by
    obtain ⟨k, hk⟩ := inCatalogue_code _ h
    exact hkind k hk
  refine completes_onPart (f := Part.serveUnknown) (fun _ => rfl) hreset ?_
  simp only [Part.serveUnknown, hslot, hqueue, if_neg hout]
  rfl

/-- Settles O9, by the table of the catalogue and the order of the checks. -/
theorem linkChecksOfARequest : Obligations.LinkChecksOfARequest := by
  refine ⟨by decide, fun k => by cases k <;> decide, requestTable_lengths, acceptedIn_iff, ?_, ?_⟩
  · intro s f rest hreset hslot hqueue hkind
    exact completes_unknownKind hreset hslot hqueue hkind
  · intro s k tag body h
    refine ⟨fun hlen => completes_turnedAway h fun f => ?_, fun hlen hphase => completes_turnedAway h fun f => ?_⟩
    · simp only [Part.handle, hlen]
      rfl
    · have htaken : k.acceptedIn s.taken.phase = false := hphase
      simp only [Part.handle, hlen, htaken]
      rfl

/-! ### The plant clock -/

/-- Settles O48: SET_TIME passes the checks of the link in every phase. -/
theorem setTimeSetsTheClockAlone : Obligations.SetTimeSetsTheClockAlone := by
  intro s tag body h hlen
  have htakes : s.Takes .setTime tag body := ⟨h, by rw [hlen]; rfl, by cases s.phase <;> rfl⟩
  exact completes_answered (c := .setTime) (f := setTimeHandler) (fun _ => rfl) htakes rfl rfl

/-! ### The journal -/

/-- R158: a read of a journal, by the age of the number. -/
theorem Rst.readFrom_eq (r : Rst) (q : W32) (count : Nat) :
    (r.age q = 0 ∨ 2147483648 < r.age q → r.readFrom q count = (false, []))
    ∧ (1 ≤ r.age q → r.age q ≤ 2147483648 → r.age q ≤ r.journal.length →
        r.readFrom q count = (false, (r.journal.drop (r.journal.length - r.age q)).take count))
    ∧ (r.journal.length < r.age q → r.age q ≤ 2147483648 → r.readFrom q count = (true, r.journal.take count)) := by
  unfold Rst.readFrom
  refine ⟨fun h => if_pos h, fun h1 h2 h3 => ?_, fun h1 h2 => ?_⟩
  · rw [if_neg (by omega), if_neg (by omega)]
  · rw [if_neg (by omega), if_pos h1]

theorem completes_journalRead {s : Part} {tag : Byte} {body : List Byte} (h : s.Takes .journalRead tag body)
    (hlow : 1 ≤ byteAt body 4) (hhigh : byteAt body 4 ≤ 11) {gap : Bool} {l : List JournalRecord}
    (hread : s.rst.readFrom (word32 body 0) (byteAt body 4) = (gap, l)) :
    Completes .journalRead s
      { s with
        lif :=
          s.answer .journalRead tag
            (0 :: flagByte gap :: byteOf l.length :: be32 s.rst.oldest.toNat ++ be32 s.rst.nextSeq.toNat
              ++ l.flatMap recordBytes) } := by
  refine completes_unchanged (f := journalReadHandler) (fun _ => rfl) h ?_
  have hcount : ¬(byteAt body 4 = 0 ∨ 11 < byteAt body 4) := by omega
  have hread' : s.taken.rst.readFrom (word32 body 0) (byteAt body 4) = (gap, l) := hread
  simp only [journalReadHandler, if_neg hcount, hread']
  rfl

theorem journalMarkHandler_newer {s : Part} {body : List Byte} (h : s.rst.newerThanMark (word32 body 0) = true) :
    journalMarkHandler body s =
      (s.modRst fun r => r.moveMark s.journalSize (word32 body 0), 0 :: be32 (s.rst.clampMark (word32 body 0)).toNat) := by
  simp only [journalMarkHandler, h, if_true]
  rfl

theorem Rst.newerThanMark_iff (r : Rst) (q : W32) : r.newerThanMark q = true ↔
    2147483648 < r.age r.mark ∨ 2147483648 < r.age q ∨ r.age q < r.age r.mark := by
  simp [Rst.newerThanMark, or_assoc]

/-- Settles O46, by the ages of R156. -/
theorem journalReadAndMark : Obligations.JournalReadAndMark := by
  refine ⟨fun s tag body h hlow hhigh => ?_, fun s tag body h => ?_⟩
  · obtain ⟨hnewest, hkept, hgone⟩ := s.rst.readFrom_eq (word32 body 0) (byteAt body 4)
    exact ⟨fun hage => completes_journalRead h hlow hhigh (hnewest hage),
      fun h1 h2 h3 => completes_journalRead h hlow hhigh (hkept h1 h2 h3),
      fun h1 h2 => completes_journalRead h hlow hhigh (hgone h1 h2)⟩
  · refine ⟨fun hold => ?_, fun hnew => ?_⟩
    · refine completes_unchanged (f := journalMarkHandler) (fun _ => rfl) h ?_
      have hno : s.taken.rst.newerThanMark (word32 body 0) = false := by
        rw [Bool.eq_false_iff]
        exact fun hn => hold ((Rst.newerThanMark_iff _ _).1 hn)
      simp only [journalMarkHandler, hno]
      rfl
    · exact completes_answered (c := .journalMark) (f := journalMarkHandler) (fun _ => rfl) h
        (journalMarkHandler_newer ((Rst.newerThanMark_iff s.taken.rst _).2 hnew)) rfl

end Sys2Proof.Machine
end

section
/-! Reset and time: what the part holds when RESET# is released, the 10 ms tick, the 1 s tick; and the notice of a significant
change. -/

namespace Sys2Proof.Machine

/-! ### The notice of a significant change -/

/-- R144: the entries after the notice of a change in area `a`. -/
def Session.unconfirmed (x : Session) (a : Nat) : List ReviewEntry :=
  x.entries.map fun e => if e.area = a ∧ e.sweep = .confirmed then { e with sweep := .swept } else e

theorem Session.unconfirmed_eq {x : Session} {a : Nat} (h : ∀ e ∈ x.entries, e.area = a → e.sweep ≠ .confirmed) :
    x.unconfirmed a = x.entries := by
  refine (List.map_congr_left fun e he => ?_).trans (List.map_id _)
  rw [if_neg fun hc => h e he hc.1 hc.2]
  rfl

/-- R144: the notice, by the state of the session. -/
theorem Session.notice_eq (x : Session) (a : Nat) :
    x.notice a =
      if x.state = .reviewing then { x with entries := x.unconfirmed a }
      else if x.state = .ready ∧ ∃ e ∈ x.entries, e.area = a ∧ e.sweep = .confirmed then
        { x with entries := x.unconfirmed a, state := .reviewing, accepted := false, handedOff := false }
      else x := by
  cases hs : x.state <;> simp [Session.notice, Session.unconfirmed, hs]

/-- Settles O44, by the state of the session. -/
theorem noticeOfASignificantChange : Obligations.NoticeOfASignificantChange := by
  intro x a
  refine ⟨fun h => ?_, fun h => ?_, fun h => ?_, fun h hhit => ?_⟩ <;> rw [Session.notice_eq]
  · rcases h with h | h <;> simp [h]
  · have hnone : ¬∃ e ∈ x.entries, e.area = a ∧ e.sweep = .confirmed := fun ⟨e, he, ha, hc⟩ => h e he ha hc
    rw [Session.unconfirmed_eq h, if_neg (c := x.state = .ready ∧ _) fun hc => hnone hc.2]
    exact ite_self x
  · rw [if_pos h]
    rfl
  · rw [if_neg (by simp [h]), if_pos ⟨h, hhit⟩]
    rfl

/-! ### Reset and power-on -/

/-- While RESET# is low no command but the two of reset changes anything. -/
theorem partAfter_inReset {s : Part} {i : Instr} (hreset : s.resetLow = true) (hfall : i ≠ .resetFalls)
    (hpower : ∀ x y, i ≠ .powerOn x y) : partAfter i s = s := by
  cases i
  case resetFalls => exact absurd rfl hfall
  case powerOn x y => exact absurd rfl (hpower x y)
  all_goals exact if_pos hreset

theorem Part.outputs_inReset {s : Part} (hreset : s.resetLow = true) :
    s.txdIdleHigh = true ∧ ∀ d ∈ numbers 6, s.hornOut d = false ∧ ∀ k ∈ numbers 4, s.lampOut d k = false := by
  simp [Part.txdIdleHigh, Part.hornOut, Part.lampOut, hreset]

section
variable {α : Type} [Inhabited α] {n : Nat}

/-- Every entry of a fresh table. -/
theorem getAt_fresh (x : α) {i : Nat} (hi : i ∈ numbers n) : getAt (Vector.replicate n x) i = x :=
  getAt_replicate x i ((mem_numbers i).1 hi).1 ((mem_numbers i).1 hi).2
end

/-- Settles O3: reset and power-on name every field. -/
theorem resetAndPowerOnValues : Obligations.ResetAndPowerOnValues := by
  refine ⟨fun s => ⟨_, fun _ => rfl, rfl⟩, fun s h => Part.outputs_inReset h,
    fun s i hreset hfall hpower => ?_, fun s b1 b0 => ?_⟩
  · have h := completes_partAfter i s
    rwa [partAfter_inReset hreset hfall hpower] at h
  refine ⟨Part.powerOn b1 b0, fun _ => rfl, rfl, rfl, rfl, rfl, fun a ha => ⟨getAt_fresh _ ha, getAt_fresh _ ha⟩,
    fun p hp => ⟨getAt_fresh _ hp, getAt_fresh _ hp⟩, fun r hr => getAt_fresh _ hr,
    fun c hc => ⟨getAt_fresh _ hc, getAt_fresh _ hc⟩, fun g hg => getAt_fresh _ hg, fun k hk => getAt_fresh _ hk,
    fun d hd => ?_, fun m hm => getAt_fresh _ hm, rfl, ⟨rfl, rfl, rfl, fun a ha => getAt_fresh _ ha⟩, rfl, rfl⟩
  have hdesk : (Part.powerOn b1 b0).desk d = Desk.initial := getAt_fresh _ hd
  have hcfg : getAt (Part.powerOn b1 b0).live.desks d
      = { holdTime := 60, lamps := Vector.replicate 4 LampCfg.initial } := getAt_fresh _ hd
  rw [hcfg, hdesk]
  exact ⟨rfl, fun k hk => getAt_fresh _ hk, rfl, fun k hk => getAt_fresh _ hk, rfl, fun k _ => rfl⟩

/-! ### The 1 s tick -/

theorem Timer.tick_eq_after (x : Timer) : x.tick = x.after := by
  obtain ⟨n, due⟩ := x
  match n with
  | 0 => rfl
  | 1 => rfl
  | n + 2 => simp [Timer.tick, Timer.after]

/-- Settles O5: every timer of the part takes the tick. -/
theorem oneSecondTickCounts : Obligations.OneSecondTickCounts := by
  intro s hreset
  refine ⟨fun h => ?_, fun h => ⟨s.second, ?_, rfl, rfl, fun k hk => ?_, fun d hd => ?_, fun n hn => ?_, ?_⟩⟩
  · exact completes_onPart (f := fun p => if p.tset.secondsDue = 0 then p else p.second) (fun _ => rfl) hreset (if_pos h)
  · exact completes_onPart (f := fun p => if p.tset.secondsDue = 0 then p else p.second) (fun _ => rfl) hreset (if_neg h)
  · obtain ⟨h1, h2⟩ := (mem_numbers k).1 hk
    refine (getAt_map _ s.shelf k h1 h2).trans ?_
    simp only [Timer.tick_eq_after]
  · obtain ⟨h1, h2⟩ := (mem_numbers d).1 hd
    refine (getAt_map Desk.second s.desks d h1 h2).trans ?_
    unfold Desk.second
    rw [Timer.tick_eq_after, Timer.tick_eq_after]
    have hlayer : Layer.tick = fun l : Layer =>
        { l with elev := l.elev.map fun e => { e with timer := e.timer.after } } := by
      funext l
      unfold Layer.tick
      simp only [Timer.tick_eq_after]
    rw [hlayer]
    rfl
  · obtain ⟨h1, h2⟩ := (mem_numbers n).1 hn
    refine (getAt_map _ s.sessions n h1 h2).trans ?_
    simp only [Timer.tick_eq_after]
    rfl
  · show ({ s.lif with quietTimer := s.lif.quietTimer.tick, quietSeconds := _ } : Lif) = _
    rw [Timer.tick_eq_after]

/-! ### The 10 ms tick -/

/-- R117, R118: one sample, with the presses it delivers. -/
theorem Debouncer.sample_sampled (b : Debouncer) (running low : Bool) (before : Nat) :
    b.Sampled (b.sample low).1 running low before (countUp before (running && (b.sample low).2)) := by
  obtain ⟨pressed, run, candidate⟩ := b
  refine ⟨?_, ?_, ?_, ?_⟩
  · rintro rfl
    simp [Debouncer.sample, countUp]
  · rintro hlow (rfl | hcand)
    · simp_all [Debouncer.sample, countUp]
    · have : ¬low = candidate := fun h => hcand h.symm
      simp_all [Debouncer.sample, countUp]
  · rintro hlow rfl rfl
    simp_all [Debouncer.sample, countUp]
  · rintro hlow rfl rfl
    simp_all [Debouncer.sample, countUp]

/-- R64, R117, R124: the part after a tick that resets no link. -/
def Part.ticked (s : Part) (pins : TickPins) : Part :=
  { s with
    tset := s.tset.tick
    desks := s.desks.mapIdx fun i x => x.tick (s.phase == .running) (pins.ackLow.getLsbD i) (pins.silLow.getLsbD i)
    lif := s.lif.tick pins.rxdLow }

theorem Part.tick_eq (s : Part) (pins : TickPins) :
    s.tick pins = if s.lif.breaks pins.rxdLow = true then (s.ticked pins).linkReset else s.ticked pins := rfl

theorem Part.ticked_desk_eq (s : Part) (pins : TickPins) {d : Nat} (hd : d ∈ numbers 6) :
    (s.ticked pins).desk d =
      (s.desk d).tick (s.phase == .running) (pins.ackLow.getLsbD (d - 1)) (pins.silLow.getLsbD (d - 1)) :=
  getAt_mapIdx _ s.desks d ((mem_numbers d).1 hd).1 ((mem_numbers d).1 hd).2

/-- The link reset that a tick takes leaves the other blocks as the tick left them. -/
theorem Part.tick_blocks (s : Part) (pins : TickPins) :
    s.tick pins = { s with
      tset := s.tset.tick, desks := (s.ticked pins).desks, rst := (s.tick pins).rst, lif := (s.tick pins).lif } := by
  rw [s.tick_eq]
  split <;> rfl

theorem Tset.tick_count (x : Tset) : (x.tickCount < 99 → x.tick = { x with tickCount := x.tickCount + 1 })
    ∧ (99 ≤ x.tickCount → x.tick = { x with
        tickCount := 0, secondsDue := x.secondsDue + 1, loadDue := x.loadDue.map (· + 1) }) := by
  unfold Tset.tick
  exact ⟨fun h => if_pos (by omega), fun h => if_neg (by omega)⟩

/-- R124: a desk after a tick, apart from its buttons. -/
theorem Desk.tick_phase (x : Desk) (running ackLow silLow : Bool) :
    x.tick running ackLow silLow =
      { x with
        phase := if 199 ≤ x.phase then 0 else x.phase + 1
        boundaryDue := x.boundaryDue || decide (199 ≤ x.phase)
        ackButton := (x.ackButton.sample ackLow).1
        silButton := (x.silButton.sample silLow).1
        ackPresses := countUp x.ackPresses (running && (x.ackButton.sample ackLow).2)
        silPresses := countUp x.silPresses (running && (x.silButton.sample silLow).2) } := by
  by_cases h : 199 ≤ x.phase
  · have h' : ¬x.phase + 1 < Config.framePhases := by unfold Config.framePhases; omega
    simp [Desk.tick, h, h']
  · have h' : x.phase + 1 < Config.framePhases := by unfold Config.framePhases; omega
    simp [Desk.tick, h, h']

/-- R170, R174, R176: the Link Interface and the Record Store after a tick. -/
theorem Part.tick_link (s : Part) (pins : TickPins) :
    (s.lif.tickTaken = true → (s.tick pins).rst = s.rst ∧ (s.tick pins).lif = { s.lif with tickTaken := false })
    ∧ (s.lif.tickTaken = false → pins.rxdLow = true → s.lif.breakCount = 9 →
        (s.tick pins).rst = s.rst.afterBreak ∧ (s.tick pins).lif = s.lif.afterBreak)
    ∧ (s.lif.tickTaken = false → ¬(pins.rxdLow = true ∧ s.lif.breakCount = 9) →
        (s.tick pins).rst = s.rst ∧ (s.tick pins).lif =
          { s.lif with
            asm :=
              { s.lif.asm with
                gap := if s.lif.asm.state = .hunting then s.lif.asm.gap else min 3 (s.lif.asm.gap + 1) }
            pacer := s.lif.pacer - 1
            breakCount := if pins.rxdLow then min 10 (s.lif.breakCount + 1) else 0 }) := by
  rw [s.tick_eq]
  refine ⟨fun htaken => ?_, fun htaken hlow hcount => ?_, fun htaken hno => ?_⟩
  · simp [Lif.breaks, htaken, Part.ticked, Lif.tick]
  · simp [Lif.breaks, htaken, hlow, hcount, Part.ticked, Lif.tick, Part.linkReset_eq, Lif.afterBreak]
  · have hbreaks : ¬s.lif.breaks pins.rxdLow = true := fun h => hno (by simpa [Lif.breaks, htaken] using h)
    rw [if_neg hbreaks]
    refine ⟨rfl, ?_⟩
    have hasm : s.lif.asm.tick = { s.lif.asm with
        gap := if s.lif.asm.state = .hunting then s.lif.asm.gap else min 3 (s.lif.asm.gap + 1) } := by
      unfold Assembler.tick
      split <;> rfl
    simp [Part.ticked, Lif.tick, htaken, hasm]

/-- Settles O4: the time base, the desks and the link each take the tick. -/
theorem tickCountsAndSamplesTheButtons : Obligations.TickCountsAndSamplesTheButtons := by
  intro s pins hreset
  have hblocks := s.tick_blocks pins
  have htset : (s.tick pins).tset = s.tset.tick := by rw [hblocks]
  have hdesk : ∀ d ∈ numbers 6, (s.tick pins).desk d =
      (s.desk d).tick (s.phase == .running) (pins.ackLow.getLsbD (d - 1)) (pins.silLow.getLsbD (d - 1)) := fun d hd => by
    rw [hblocks]
    exact s.ticked_desk_eq pins hd
  obtain ⟨hcount, hsecond⟩ := s.tset.tick_count
  obtain ⟨htaken, hbreak, hno⟩ := s.tick_link pins
  refine ⟨s.tick pins, completes_onPart (f := fun p => p.tick pins) (fun _ => rfl) hreset rfl, ?_, ?_, fun h => ?_,
    fun h => ?_, fun d hd => ?_, htaken, hbreak, hno, fun d hd => ?_⟩
  · rw [htset]
    conv_lhs => rw [hblocks]
    rw [show (s.tick pins).desks = (s.ticked pins).desks by rw [hblocks]]
  · rw [htset]
    unfold Tset.tick
    split <;> rfl
  · rw [htset, hcount h]
  · rw [htset, hsecond h]
    refine ⟨rfl, rfl, fun a ha => ?_⟩
    exact getAt_map _ s.tset.loadDue a ((mem_numbers a).1 ha).1 ((mem_numbers a).1 ha).2
  · rw [hdesk d hd, Desk.tick_phase]
  · rw [hdesk d hd, Desk.tick_phase]
    exact ⟨Debouncer.sample_sampled .., Debouncer.sample_sampled ..⟩

end Sys2Proof.Machine
end

section
/-! The reports of an event: which entries it calls for and in what order; the report queue and its settings. -/

namespace Sys2Proof.Machine

/-! ### The order of an event's reports -/

/-- R162: entries stand by kind code and then by subject. -/
def ReportEntry.Before (x y : ReportEntry) : Prop :=
  x.kind.code < y.kind.code ∨ x.kind.code = y.kind.code ∧ x.subject < y.subject

/-- Entries in order whose kind codes lie between two bounds. -/
structure ReportsOrdered (low high : Nat) (l : List ReportEntry) : Prop where
  ordered : l.Pairwise ReportEntry.Before
  bounds : ∀ e ∈ l, low ≤ e.kind.code ∧ e.kind.code ≤ high

theorem ReportsOrdered.append {a b c d : Nat} {l m : List ReportEntry} (h : ReportsOrdered a b l)
    (k : ReportsOrdered c d m) (hbc : b < c) (hac : a ≤ c) (hbd : b ≤ d) : ReportsOrdered a d (l ++ m) where
  ordered := by
    refine List.pairwise_append.2 ⟨h.ordered, k.ordered, fun x hx y hy => .inl ?_⟩
    have hxb := (h.bounds x hx).2
    have hyc := (k.bounds y hy).1
    omega
  bounds e he := by
    rcases List.mem_append.1 he with he | he
    · have := h.bounds e he
      omega
    · have := k.bounds e he
      omega

/-- Entries of one kind whose subjects rise. -/
theorem ReportsOrdered.ofKind (k : ReportKind) {l : List Nat} (h : l.Pairwise (· < ·)) :
    ReportsOrdered k.code k.code (l.map fun n => { kind := k, subject := n }) where
  ordered := List.pairwise_map.2 (h.imp fun hlt => .inr ⟨rfl, hlt⟩)
  bounds e he := by
    obtain ⟨n, _, rfl⟩ := List.mem_map.1 he
    exact ⟨Nat.le_refl _, Nat.le_refl _⟩

theorem pairwise_zipIdx {α : Type} (l : List α) (i : Nat) : (l.zipIdx i).Pairwise fun x y => x.2 < y.2 := by
  induction l generalizing i with
  | nil => exact List.Pairwise.nil
  | cons x l ih =>
    rw [List.zipIdx_cons]
    refine List.pairwise_cons.2 ⟨fun y hy => ?_, ih (i + 1)⟩
    have := List.le_snd_of_mem_zipIdx hy
    dsimp only
    omega

theorem changedEntries_ordered {α : Type} (k : ReportKind) (extra : List ReportEntry) (f : α → α → Bool)
    (u v : List α) : ReportsOrdered k.code k.code (changedEntries k extra f u v) := by
  unfold changedEntries
  have h := ReportsOrdered.ofKind k (l := (((u.zip v).zipIdx 1).filter fun x =>
    f x.1.1 x.1.2 || extra.contains { kind := k, subject := x.2 }).map (·.2))
    (List.pairwise_map.2 ((pairwise_zipIdx _ 1).filter _))
  rwa [List.map_map] at h

theorem eventReports_ordered (s t : Part) (extra : List ReportEntry) : ReportsOrdered 1 6 (eventReports s t extra) := by
  have hdesks : ReportsOrdered 3 3 (((numbers Config.nDesks).filter fun d =>
      deskReported s t d || extra.contains { kind := .desk, subject := d }).map
        fun d => ({ kind := .desk, subject := d } : ReportEntry)) :=
    .ofKind .desk (List.Pairwise.filter _ List.pairwise_lt_range')
  have hjournal : ReportsOrdered 6 6 (if s.rst.nearFull = .armed ∧ t.rst.nearFull = .fired then
      [({ kind := .journalNearFull, subject := 0 } : ReportEntry)] else []) := by
    split
    · exact ReportsOrdered.ofKind .journalNearFull (l := [0]) (List.pairwise_singleton _ _)
    · exact ⟨List.Pairwise.nil, fun _ h => absurd h List.not_mem_nil⟩
  unfold eventReports
  have hpoints : ReportsOrdered 1 1 (changedEntries .point extra pointReported s.points.toList t.points.toList) :=
    changedEntries_ordered .point ..
  have hareas : ReportsOrdered 2 2 (changedEntries .area extra areaReported s.areas.toList t.areas.toList) :=
    changedEntries_ordered .area ..
  have hsessions : ReportsOrdered 4 4
      (changedEntries .session extra sessionReported s.sessions.toList t.sessions.toList) :=
    changedEntries_ordered .session ..
  have hauthority : ReportsOrdered 5 5
      (changedEntries .authority extra authorityReported s.desks.toList t.desks.toList) :=
    changedEntries_ordered .authority ..
  have h12 := hpoints.append hareas (by decide) (by decide) (by decide)
  have h13 := h12.append hdesks (by decide) (by decide) (by decide)
  have h14 := h13.append hsessions (by decide) (by decide) (by decide)
  have h15 := h14.append hauthority (by decide) (by decide) (by decide)
  exact h15.append hjournal (by decide) (by decide) (by decide)

/-! ### Which entries an event calls for -/

/-- The entries of one kind, for the records of a table. -/
theorem mem_changedEntries_iff {α : Type} [Inhabited α] {n : Nat} (k : ReportKind) (extra : List ReportEntry)
    (f : α → α → Bool) (u v : Vector α n) (e : ReportEntry) :
    e ∈ changedEntries k extra f u.toList v.toList ↔
      e.kind = k ∧ e.subject ∈ numbers n ∧ (f (getAt u e.subject) (getAt v e.subject) = true ∨ e ∈ extra) := by
  unfold changedEntries
  rw [List.mem_map]
  constructor
  · rintro ⟨⟨⟨x, y⟩, i⟩, hmem, rfl⟩
    obtain ⟨hmem, hf⟩ := List.mem_filter.1 hmem
    obtain ⟨hlow, hget⟩ := List.mem_zipIdx_iff_le_and_getElem?_sub.1 hmem
    obtain ⟨hx, hy⟩ := List.getElem?_zip_eq_some.1 hget
    dsimp only at hlow hx hy
    obtain ⟨hlt, hx⟩ := List.getElem?_eq_some_iff.1 hx
    obtain ⟨hlt', hy⟩ := List.getElem?_eq_some_iff.1 hy
    have hn : i - 1 < n := by simpa using hlt
    have hi : i ∈ numbers n := (mem_numbers i).2 (by omega)
    refine ⟨rfl, hi, ?_⟩
    have hu : getAt u i = x := by rw [getAt_eq u i ((mem_numbers i).1 hi), ← hx]; simp
    have hv : getAt v i = y := by rw [getAt_eq v i ((mem_numbers i).1 hi), ← hy]; simp
    rw [hu, hv]
    simpa [List.contains_iff_mem] using hf
  · rintro ⟨rfl, hi, hf⟩
    refine ⟨((getAt u e.subject, getAt v e.subject), e.subject), List.mem_filter.2 ⟨?_, ?_⟩, rfl⟩
    · rw [List.mem_zipIdx_iff_le_and_getElem?_sub]
      refine ⟨((mem_numbers _).1 hi).1, ?_⟩
      rw [List.getElem?_zip_eq_some]
      exact ⟨toList_getElem?_pred u hi, toList_getElem?_pred v hi⟩
    · simpa [List.contains_iff_mem] using hf

/-- The entries of an event, kind by kind. -/
theorem mem_eventReports_iff (s t : Part) (extra : List ReportEntry) (e : ReportEntry) :
    e ∈ eventReports s t extra ↔
      (e.kind = .point ∧ e.subject ∈ numbers 1024
          ∧ (pointReported (s.point e.subject) (t.point e.subject) = true ∨ e ∈ extra))
      ∨ (e.kind = .area ∧ e.subject ∈ numbers 16
          ∧ (areaReported (s.area e.subject) (t.area e.subject) = true ∨ e ∈ extra))
      ∨ (e.kind = .desk ∧ e.subject ∈ numbers 6 ∧ (deskReported s t e.subject = true ∨ e ∈ extra))
      ∨ (e.kind = .session ∧ e.subject ∈ numbers 4
          ∧ (sessionReported (s.session e.subject) (t.session e.subject) = true ∨ e ∈ extra))
      ∨ (e.kind = .authority ∧ e.subject ∈ numbers 6
          ∧ (authorityReported (s.desk e.subject) (t.desk e.subject) = true ∨ e ∈ extra))
      ∨ (e.kind = .journalNearFull ∧ e.subject = 0 ∧ s.rst.nearFull = .armed ∧ t.rst.nearFull = .fired) := by
  have hdesks : e ∈ ((numbers Config.nDesks).filter fun d =>
      deskReported s t d || extra.contains { kind := .desk, subject := d }).map
        (fun d => ({ kind := .desk, subject := d } : ReportEntry)) ↔
      e.kind = .desk ∧ e.subject ∈ numbers 6 ∧ (deskReported s t e.subject = true ∨ e ∈ extra) := by
    obtain ⟨k, n⟩ := e
    simp only [List.mem_map, List.mem_filter, Bool.or_eq_true, List.contains_iff_mem, ReportEntry.mk.injEq]
    constructor
    · rintro ⟨d, ⟨hd, h⟩, rfl, rfl⟩
      exact ⟨rfl, hd, h⟩
    · rintro ⟨rfl, hd, h⟩
      exact ⟨n, ⟨hd, h⟩, rfl, rfl⟩
  have hjournal : e ∈ (if s.rst.nearFull = .armed ∧ t.rst.nearFull = .fired then
      [({ kind := .journalNearFull, subject := 0 } : ReportEntry)] else []) ↔
      e.kind = .journalNearFull ∧ e.subject = 0 ∧ s.rst.nearFull = .armed ∧ t.rst.nearFull = .fired := by
    obtain ⟨k, n⟩ := e
    split
    · next h => simp [h]
    · next h => simp only [List.not_mem_nil, false_iff]; exact fun hn => h hn.2.2
  unfold eventReports
  simp only [List.mem_append, mem_changedEntries_iff, hdesks, hjournal, or_assoc]
  rfl

theorem pointReported_iff (x y : Point) : pointReported x y = true ↔
    ¬(x.state = y.state ∧ x.shadow = y.shadow ∧ x.view = y.view ∧ x.occurrences = y.occurrences
      ∧ x.placement = y.placement) := by
  simp only [pointReported, Bool.or_eq_true, bne_iff_ne, ne_eq]
  tauto

theorem areaReported_iff (x y : Area) : areaReported x y = true ↔
    ¬(x.counts = y.counts ∧ x.generation = y.generation ∧ x.pdesk = y.pdesk ∧ x.mode = y.mode ∧ x.flood = y.flood
      ∧ x.responsible = y.responsible ∧ x.session = y.session) := by
  simp only [areaReported, Bool.or_eq_true, bne_iff_ne, ne_eq]
  tauto

theorem sessionReported_iff (x y : Session) : sessionReported x y = true ↔
    ¬(x.state = y.state ∧ x.accepted = y.accepted ∧ x.handedOff = y.handedOff
      ∧ x.entries.map (fun x => (x.area, x.sweep, x.snapGen, x.snapSeq))
        = y.entries.map fun x => (x.area, x.sweep, x.snapGen, x.snapSeq)) := by
  simp only [sessionReported, Bool.or_eq_true, bne_iff_ne, ne_eq]
  tauto

theorem authorityReported_iff (x y : Desk) : authorityReported x y = true ↔
    ¬(x.signedOn = y.signedOn ∧ x.stack.map Layer.contents = y.stack.map Layer.contents) := by
  simp only [authorityReported, Bool.or_eq_true, bne_iff_ne, ne_eq]
  tauto

/-- Two tests select the same entries of a list exactly when they agree on it. -/
theorem filter_eq_filter_iff {α : Type} {p q : α → Bool} {l : List α} :
    l.filter p = l.filter q ↔ ∀ a ∈ l, p a = q a := by
  refine ⟨fun h a ha => ?_, fun h => List.filter_congr h⟩
  have hiff : a ∈ l.filter p ↔ a ∈ l.filter q := by rw [h]
  simp only [List.mem_filter, ha, true_and] at hiff
  exact Bool.eq_iff_iff.2 hiff

/-- The areas presented at a desk before and after an event. -/
theorem deskAreas_eq_iff {s t : Part} {d : Nat} (hd : d ∈ numbers 6) :
    s.deskAreas d = t.deskAreas d ↔ ∀ a ∈ numbers 16, (s.area a).pdesk = d ↔ (t.area a).pdesk = d := by
  have hd0 : d ≠ 0 := by have := (mem_numbers d).1 hd; omega
  unfold Part.deskAreas
  rw [if_neg hd0, if_neg hd0, filter_eq_filter_iff]
  refine forall₂_congr fun a _ => ?_
  rw [Bool.eq_iff_iff, beq_iff_eq, beq_iff_eq]

theorem lampSources_ne_iff (s t : Part) (d : Nat) :
    s.lampSources d ≠ t.lampSources d ↔ ∃ k ∈ List.range 16, s.lampSource d k ≠ t.lampSource d k := by
  unfold Part.lampSources
  rw [Ne, List.map_inj_left]
  push Not
  rfl

theorem deskReported_iff {s t : Part} {d : Nat} (hd : d ∈ numbers 6) : deskReported s t d = true ↔
    (¬((s.desk d).slots = (t.desk d).slots ∧ (s.desk d).horn = (t.desk d).horn
          ∧ (s.desk d).hornPattern = (t.desk d).hornPattern
          ∧ ∀ a ∈ numbers 16, (s.area a).pdesk = d ↔ (t.area a).pdesk = d)
        ∨ t.phase = .running ∧ ∃ k ∈ List.range 16, s.lampSource d k ≠ t.lampSource d k) := by
  rw [← deskAreas_eq_iff hd, ← lampSources_ne_iff]
  simp only [deskReported, Bool.or_eq_true, Bool.and_eq_true, bne_iff_ne, beq_iff_eq, ne_eq]
  tauto

/-- R3, R6, R40, R114, R131, R152, R160: an event reports what has changed and what its rule reports in any case. -/
theorem mem_eventReports_callsFor {s t : Part} {always : List ReportEntry}
    (halways : ∀ e ∈ always,
      e.kind = .point ∧ e.subject ∈ numbers 1024 ∨ (e.kind = .desk ∨ e.kind = .authority) ∧ e.subject ∈ numbers 6)
    (e : ReportEntry) : e ∈ eventReports s t always ↔ s.CallsFor t e ∨ e ∈ always := by
  have hrange := halways e
  rw [mem_eventReports_iff]
  obtain ⟨k, n⟩ := e
  cases k <;>
    simp only [reduceCtorEq, false_and, or_false, false_or, true_and, or_self, Part.CallsFor] at hrange ⊢
  case point => rw [pointReported_iff]; tauto
  case area => rw [areaReported_iff]; tauto
  case desk =>
    constructor
    · rintro ⟨hn, h | h⟩
      · exact .inl ⟨hn, (deskReported_iff hn).1 h⟩
      · exact .inr h
    · rintro (⟨hn, h⟩ | h)
      · exact ⟨hn, .inl ((deskReported_iff hn).2 h)⟩
      · exact ⟨hrange h, .inr h⟩
  case session => rw [sessionReported_iff]; tauto
  case authority => rw [authorityReported_iff]; unfold Layer.contents; tauto
  all_goals tauto

/-! ### The report queue -/

/-- R162, R163: what queueing one report does. -/
theorem Rst.queue_cases (size : Nat) (r : Rst) (e : ReportEntry) :
    let room := (r.reports.filter fun x => x.kind != .overflow).length < 4096 - size - 1
    (r.kindEnabled e.kind = false ∨ e ∈ r.reports → r.queue size e = r)
    ∧ (r.kindEnabled e.kind = true → e ∉ r.reports → room →
        r.queue size e = { r with reports := r.reports ++ [e] })
    ∧ (r.kindEnabled e.kind = true → e ∉ r.reports → ¬room → r.queue size e =
        { r with
          dropped := min 65535 (r.dropped + 1)
          reports := if overflowEntry ∈ r.reports then r.reports else r.reports ++ [overflowEntry] }) := by
  unfold Rst.queue ordinaryCount Config.storeSlots
  dsimp only
  refine ⟨?_, fun hon hmem hroom => ?_, fun hon hmem hroom => ?_⟩
  · rintro (hoff | hmem)
    · simp [hoff]
    · simp [hmem]
  · simp [hon, hmem, Nat.not_le.2 hroom]
  · by_cases ho : overflowEntry ∈ r.reports <;> unfold overflowEntry at ho ⊢ <;>
      simp [hon, hmem, Nat.not_lt.1 hroom, ho]

/-! ### The report settings -/

theorem Rst.allHold_iff (r : Rst) (l : List Nat) (v : Bool) :
    r.allHold l v = true ↔ ∀ k ∈ l, if k ≤ 6 then getAt r.enabled k = v else v = true := by
  unfold Rst.allHold
  rw [List.all_eq_true]
  refine forall₂_congr fun k _ => ?_
  split <;> simp

theorem reportEnableHandler_ok {s : Part} {body : List Byte} (h : ∀ k ∈ byteList body 0, 1 ≤ k ∧ k ≤ 8) :
    reportEnableHandler body s =
      if s.rst.allHold (byteList body 0) true = true then (s, result .repeated)
      else (s.modRst fun r => r.setEnabled (byteList body 0) true, result .ok) := by
  have hkinds : ¬((byteList body 0).any fun k => !isReportKind k) = true := by
    simp only [List.any_eq_true, not_exists, not_and, isReportKind]
    intro k hk
    simp [h k hk]
  simp only [reportEnableHandler, if_neg hkinds]

/-- Enabling kinds that are enabled already changes no setting. -/
theorem Rst.setEnabled_allHold {r : Rst} {l : List Nat} (h : r.allHold l true = true) {k : Nat} (hk : k ∈ numbers 6) :
    (getAt r.enabled k || decide (k ∈ l)) = getAt r.enabled k := by
  by_cases hmem : k ∈ l
  · have := (r.allHold_iff l true).1 h k hmem
    rw [if_pos ((mem_numbers k).1 hk).2] at this
    rw [this, Bool.true_or]
  · simp [hmem]

/-- R165: REPORT_ENABLE. -/
theorem reportEnable_settings {s : Part} {tag : Byte} {body : List Byte} (h : s.Takes .reportEnable tag body) :
    ((∃ k ∈ byteList body 0, k = 0 ∨ 8 < k) →
      Completes .reportEnable s { s with lif := s.answer .reportEnable tag [ResultCode.badField.byte] })
    ∧ ((∀ k ∈ byteList body 0, 1 ≤ k ∧ k ≤ 8) →
      ∃ t : Part, Completes .reportEnable s t
        ∧ t.lif = s.answer .reportEnable tag
            [if ∀ k ∈ byteList body 0, k ≤ 6 → getAt s.rst.enabled k = true then ResultCode.repeated.byte else 0]
        ∧ t = { s with rst := { s.rst with enabled := t.rst.enabled }, lif := t.lif }
        ∧ ∀ k ∈ numbers 6, getAt t.rst.enabled k = (getAt s.rst.enabled k || decide (k ∈ byteList body 0))) := by
  refine ⟨?_, fun hl => ?_⟩
  · rintro ⟨k, hk, hbad⟩
    refine completes_unchanged (f := reportEnableHandler) (fun _ => rfl) h ?_
    have hany : ((byteList body 0).any fun k => !isReportKind k) = true :=
      List.any_eq_true.2 ⟨k, hk, by simp only [isReportKind, Bool.not_eq_true']; rw [Bool.eq_false_iff]; simp; omega⟩
    simp only [reportEnableHandler, if_pos hany]
    rfl
  · have hiff : s.rst.allHold (byteList body 0) true = true ↔
        ∀ k ∈ byteList body 0, k ≤ 6 → getAt s.rst.enabled k = true := by
      rw [Rst.allHold_iff]
      refine forall₂_congr fun k _ => ?_
      split <;> simp_all
    have hhandler := reportEnableHandler_ok (s := s.taken) hl
    by_cases hall : s.rst.allHold (byteList body 0) true = true
    · rw [if_pos (show s.taken.rst.allHold _ true = true from hall)] at hhandler
      refine ⟨_, completes_answered (c := .reportEnable) (fun _ => rfl) h hhandler rfl, ?_, rfl,
        fun k hk => (Rst.setEnabled_allHold hall hk).symm⟩
      rw [if_pos (hiff.1 hall)]
      rfl
    · rw [if_neg (show ¬s.taken.rst.allHold _ true = true from hall)] at hhandler
      refine ⟨_, completes_answered (c := .reportEnable) (fun _ => rfl) h hhandler rfl, ?_, rfl, fun k hk => ?_⟩
      · rw [if_neg fun hn => hall (hiff.2 hn)]
        rfl
      · refine (Rst.setEnabled_enabled s.rst (byteList body 0) true k hk).trans ?_
        split <;> simp_all

/-- R165, R174: the Link Interface after REPORT_DISABLE. -/
theorem Part.disableReports_eq (s : Part) (l : List Nat) :
    s.disableReports l = { s with
      rst := { s.rst.setEnabled l false with reports := s.rst.reports.filter fun e => !l.contains e.kind.code }
      lif := { s.lif with continuation := if 4 ∈ l then none else s.lif.continuation } } := by
  unfold Part.disableReports
  dsimp only
  by_cases h : 4 ∈ l
  · have hc : l.contains ReportKind.session.code = true := List.contains_iff_mem.2 h
    rw [if_pos hc, if_pos h]
    rfl
  · have hc : ¬l.contains ReportKind.session.code = true := fun hc => h (List.contains_iff_mem.1 hc)
    rw [if_neg hc, if_neg h]
    rfl

theorem reportDisableHandler_ok {s : Part} {body : List Byte} (h : ∀ k ∈ byteList body 0, 1 ≤ k ∧ k ≤ 6) :
    reportDisableHandler body s =
      (s.disableReports (byteList body 0),
        result (if s.rst.allHold (byteList body 0) false = true then .repeated else .ok)) := by
  have hkinds : ¬((byteList body 0).any fun k => !isReportKind k || decide (6 < k)) = true := by
    simp only [List.any_eq_true, not_exists, not_and, isReportKind]
    intro k hk
    have := h k hk
    simp only [Bool.or_eq_true, Bool.not_eq_true', Bool.and_eq_false_iff, decide_eq_false_iff_not, decide_eq_true_eq]
    omega
  simp only [reportDisableHandler, if_neg hkinds]

/-- R165: REPORT_DISABLE. -/
theorem reportDisable_settings {s : Part} {tag : Byte} {body : List Byte} (h : s.Takes .reportDisable tag body) :
    ((∃ k ∈ byteList body 0, k = 0 ∨ 6 < k) →
      Completes .reportDisable s { s with lif := s.answer .reportDisable tag [ResultCode.badField.byte] })
    ∧ ((∀ k ∈ byteList body 0, 1 ≤ k ∧ k ≤ 6) →
      ∃ t : Part, Completes .reportDisable s t
        ∧ t.lif =
            { s.answer .reportDisable tag
                [if ∀ k ∈ byteList body 0, getAt s.rst.enabled k = false then ResultCode.repeated.byte else 0] with
              continuation := if 4 ∈ byteList body 0 then none else s.lif.continuation }
        ∧ t = { s with rst := { s.rst with enabled := t.rst.enabled, reports := t.rst.reports }, lif := t.lif }
        ∧ t.rst.reports = (s.rst.reports.filter fun e => decide (e.kind.code ∉ byteList body 0))
        ∧ ∀ k ∈ numbers 6, getAt t.rst.enabled k = (getAt s.rst.enabled k && decide (k ∉ byteList body 0))) := by
  refine ⟨?_, fun hl => ?_⟩
  · rintro ⟨k, hk, hbad⟩
    refine completes_unchanged (f := reportDisableHandler) (fun _ => rfl) h ?_
    have hany : ((byteList body 0).any fun k => !isReportKind k || decide (6 < k)) = true := by
      refine List.any_eq_true.2 ⟨k, hk, ?_⟩
      simp only [isReportKind, Bool.or_eq_true, Bool.not_eq_true', Bool.and_eq_false_iff, decide_eq_false_iff_not,
        decide_eq_true_eq]
      omega
    simp only [reportDisableHandler, if_pos hany]
    rfl
  · have hdone := completes_taken (c := .reportDisable) (f := reportDisableHandler) (fun _ => rfl) h
    rw [reportDisableHandler_ok hl, Part.disableReports_eq] at hdone
    have hiff : s.taken.rst.allHold (byteList body 0) false = true ↔
        ∀ k ∈ byteList body 0, getAt s.rst.enabled k = false := by
      rw [Rst.allHold_iff]
      refine forall₂_congr fun k hk => ?_
      rw [if_pos (hl k hk).2]
      rfl
    refine ⟨_, hdone, ?_, rfl, ?_, fun k hk => ?_⟩
    · by_cases hall : ∀ k ∈ byteList body 0, getAt s.rst.enabled k = false
      · rw [if_pos (hiff.2 hall), if_pos hall]
        simp [Part.reply, Part.modLif, Part.answer, Part.taken, replyKind_code]
        rfl
      · rw [if_neg fun hn => hall (hiff.1 hn), if_neg hall]
        simp [Part.reply, Part.modLif, Part.answer, Part.taken, replyKind_code]
        rfl
    · show (s.rst.reports.filter fun e => !(byteList body 0).contains e.kind.code) = _
      refine List.filter_congr fun e _ => ?_
      simp
    · refine (Rst.setEnabled_enabled s.rst (byteList body 0) false k hk).trans ?_
      split <;> simp_all

/-- Settles O47, by the blocks of an event's report list and the branches of `Rst.queue`. -/
theorem reportSettings : Obligations.ReportSettings := by
  refine ⟨fun s t always halways => ⟨mem_eventReports_callsFor halways, (eventReports_ordered s t always).ordered⟩,
    fun size r e => Rst.queue_cases size r e, fun s tag body h => reportEnable_settings h,
    fun s tag body h => reportDisable_settings h⟩

end Sys2Proof.Machine
end

section
/-! Tables as lists, and fields at offsets of a string of bytes; the report frame. -/

namespace Sys2Proof.Machine

/-! ### A table read in one pass -/

/-- A table is the list of its entries, in ascending number. -/
theorem toList_eq_map {α : Type} [Inhabited α] {n : Nat} (v : Vector α n) : v.toList = (numbers n).map (getAt v) := by
  refine List.ext_getElem (by simp [numbers]) fun i h1 h2 => ?_
  have hi : i < n := by simpa using h1
  rw [List.getElem_map, show (numbers n)[i]'(by simpa using h2) = i + 1 by simp [numbers, Nat.add_comm],
    getAt_eq v (i + 1) (by omega)]
  simp

/-! ### Fields at offsets -/

/-- The bytes `b` stand at offset `o` of `l`. -/
def StandsAt (l : List Byte) (o : Nat) (b : List Byte) : Prop := (l.drop o).take b.length = b

theorem laidOut_iff {l : List Byte} {fields : List (Nat × List Byte)} :
    LaidOut l fields ↔ ∀ x ∈ fields, StandsAt l x.1 x.2 := Iff.rfl

theorem laidOut_one {l b : List Byte} {o : Nat} : LaidOut l [(o, b)] ↔ StandsAt l o b := by
  simp [laidOut_iff]

theorem StandsAt.whole (l : List Byte) : StandsAt l 0 l := by simp [StandsAt]

theorem StandsAt.left {l b : List Byte} {o : Nat} (h : StandsAt l o b) (m : List Byte) : StandsAt (l ++ m) o b := by
  unfold StandsAt at h ⊢
  have hlen : b.length ≤ l.length - o := by
    have := congrArg List.length h
    rw [List.length_take, List.length_drop] at this
    omega
  rw [List.drop_append, List.take_append_of_le_length (by rw [List.length_drop]; exact hlen), h]

theorem StandsAt.right {m b : List Byte} {o n : Nat} (h : StandsAt m o b) {l : List Byte} (hn : n = l.length + o) :
    StandsAt (l ++ m) n b := by
  subst hn
  unfold StandsAt at h ⊢
  rw [List.drop_append, List.drop_eq_nil_of_le (by omega), List.nil_append,
    show l.length + o - l.length = o by omega, h]

/-- The first field after a prefix. -/
theorem StandsAt.next {l b : List Byte} {n : Nat} (hn : n = l.length) : StandsAt (l ++ b) n b :=
  (StandsAt.whole b).right (by omega)

/-- A field of a field. -/
theorem StandsAt.trans {l b c : List Byte} {o n k : Nat} (h : StandsAt l o b) (h' : StandsAt b n c) (hk : k = o + n) :
    StandsAt l k c := by
  subst hk
  unfold StandsAt at h h' ⊢
  have hlen : c.length ≤ b.length - n := by
    have := congrArg List.length h'
    rw [List.length_take, List.length_drop] at this
    omega
  rw [← h, List.drop_take, List.take_take, List.drop_drop, Nat.min_eq_left hlen] at h'
  exact h'

/-- Pieces of one length, laid end to end. -/
theorem StandsAt.piece {α : Type} {f : α → List Byte} {c : Nat} (hf : ∀ x, (f x).length = c) {l : List α} {i : Nat}
    {x : α} (hx : l[i]? = some x) : StandsAt (l.flatMap f) (c * i) (f x) := by
  induction l generalizing i with
  | nil => simp at hx
  | cons y l ih =>
    rw [List.flatMap_cons]
    cases i with
    | zero =>
      obtain rfl : y = x := by simpa using hx
      exact (StandsAt.whole _).left _
    | succ i => exact (ih (by simpa using hx)).right (by rw [hf y]; ring)

theorem length_flatMap_const {α : Type} {f : α → List Byte} {c : Nat} (hf : ∀ x, (f x).length = c) (l : List α) :
    (l.flatMap f).length = c * l.length := by
  induction l with
  | nil => rfl
  | cons x l ih => rw [List.flatMap_cons, List.length_append, ih, hf x, List.length_cons]; ring

/-- R168: a 16-bit field read back. -/
theorem StandsAt.field16 {l : List Byte} {o n : Nat} (h : StandsAt l o (be16 n)) : field16 l o = n % 65536 := by
  have hbyte : ∀ (i : Nat) (b : Byte), (be16 n)[i]? = some b → byteAt l (o + i) = b.toNat := fun i b hi => by
    have hlt := (List.getElem?_eq_some_iff.1 hi).1
    unfold StandsAt at h
    rw [← h, List.getElem?_take_of_lt hlt, List.getElem?_drop] at hi
    unfold byteAt
    rw [List.getD_eq_getElem?_getD, hi]
    rfl
  unfold Machine.field16
  have h0 := hbyte 0 _ rfl
  have h1 := hbyte 1 _ rfl
  rw [Nat.add_zero] at h0
  rw [h0, h1, byteOf_toNat, byteOf_toNat]
  omega

/-- A byte read back. -/
theorem StandsAt.byteAt {l : List Byte} {o n : Nat} (h : StandsAt l o [byteOf n]) : byteAt l o = n % 256 := by
  have h0 : l[o]? = some (byteOf n) := by
    have := congrArg (fun m => m[0]?) (show (l.drop o).take 1 = [byteOf n] from h)
    simpa using this
  unfold Machine.byteAt
  rw [List.getD_eq_getElem?_getD, h0, Option.getD_some, byteOf_toNat]

/-! ### The lengths of items -/

theorem entryBytes_length (e : ReviewEntry) : (entryBytes e).length = 15 := rfl

theorem Session.header_length {x : Session} (h : x.state ≠ .idle) : x.header.length = 11 := by
  unfold Session.header
  rw [if_neg h]
  rfl

/-! ### The report frame -/

/-- The item of an entry of the report queue. -/
def Part.itemOf (s : Part) (e : ReportEntry) : List Byte := itemBytes e.kind e.subject (s.entryBody e)

/-- R174: what a report frame takes when no SESSION item needs a second one. -/
theorem takeItems_whole {s : Part} {l : List ReportEntry} {body : List Byte} (hbody : body.length ≤ 240)
    (hone : ∀ e ∈ l, s.secondItem e = none) :
    ∃ took, l = took ++ (s.takeItems l body).left ∧ (s.takeItems l body).body = body ++ took.flatMap s.itemOf
      ∧ (s.takeItems l body).continuation = none ∧ (body ++ took.flatMap s.itemOf).length ≤ 240
      ∧ ∀ e ∈ (s.takeItems l body).left.head?, 240 < (body ++ took.flatMap s.itemOf ++ s.itemOf e).length := by
  induction l generalizing body with
  | nil => exact ⟨[], rfl, (List.append_nil _).symm, rfl, by simpa using hbody, by simp [Part.takeItems]⟩
  | cons e rest ih =>
    unfold Part.takeItems
    dsimp only
    by_cases hfits : Config.maxBody < (body ++ itemBytes e.kind e.subject (s.entryBody e)).length
    · rw [if_pos hfits]
      refine ⟨[], rfl, (List.append_nil _).symm, rfl, by simpa using hbody, fun x hx => ?_⟩
      obtain rfl : e = x := by simpa using hx
      rw [List.flatMap_nil, List.append_nil]
      exact hfits
    · rw [if_neg hfits, hone e List.mem_cons_self]
      obtain ⟨took, hl, hb, hc, hlen, hnext⟩ :=
        ih (body := body ++ s.itemOf e) (Nat.not_lt.1 hfits) fun x hx => hone x (List.mem_cons_of_mem _ hx)
      rw [List.append_assoc] at hb hlen
      refine ⟨e :: took, ?_, hb, hc, hlen, fun x hx => ?_⟩
      · exact congrArg (e :: ·) hl
      · have := hnext x hx
        rw [List.append_assoc body] at this
        exact this

theorem secondItem_none {s : Part} {e : ReportEntry}
    (h : e.kind = .session → (s.session e.subject).entries.length ≤ 14) : s.secondItem e = none := by
  unfold Part.secondItem
  refine if_neg fun hc => ?_
  have := h hc.1
  have hlong : 14 < _ := hc.2
  omega

theorem completes_reportNotReady {s : Part} (hreset : s.resetLow = false) (h : s.reportReady = false) :
    Completes .sendReportFrame s s :=
  completes_notDue (c := Part.reportReady) (f := Part.sendReport) (fun _ => rfl) hreset h

theorem completes_sendReport {s : Part} (hreset : s.resetLow = false) (h : s.reportReady = true) :
    Completes .sendReportFrame s s.sendReport :=
  completes_due (c := Part.reportReady) (f := Part.sendReport) (fun _ => rfl) hreset h rfl

/-- R174, R182: the first item of a session of more than 14 areas. -/
theorem longSession_items {s : Part} {n : Nat} {rest : List ReportEntry} (hstate : (s.session n).state ≠ .idle)
    (hlong : 14 < (s.session n).entries.length) :
    s.takeItems ({ kind := .session, subject := n } :: rest) [] =
      { body := 4 :: be16 n ++ [221] ++ (s.session n).header ++ ((s.session n).entries.take 14).flatMap entryBytes
        left := rest
        continuation :=
          some (itemBytes .session (128 + n) (((s.session n).entries.drop 14).flatMap entryBytes)) } := by
  let first := (s.session n).header ++ ((s.session n).entries.take 14).flatMap entryBytes
  let second := ((s.session n).entries.drop 14).flatMap entryBytes
  have hfirst : first.length = 221 := by
    simp only [first, List.length_append, Session.header_length hstate, length_flatMap_const entryBytes_length,
      List.length_take]
    omega
  have hsecond : 15 ≤ second.length := by
    simp only [second, length_flatMap_const entryBytes_length, List.length_drop]
    omega
  have hitem : (s.secondItem { kind := .session, subject := n }) = some (itemBytes .session (128 + n) second) :=
    if_pos ⟨rfl, hlong⟩
  have hbody : itemBytes .session n first = 4 :: be16 n ++ [221] ++ first := by
    unfold itemBytes
    rw [hfirst]
    rfl
  have hlen : ∀ k b, (itemBytes .session k b).length = 4 + b.length := fun k b => by simp [itemBytes, be16]; omega
  have hentry : s.entryBody { kind := .session, subject := n } = first := rfl
  unfold Part.takeItems
  dsimp only
  rw [hentry, List.nil_append, if_neg (by rw [hlen, hfirst]; decide), hitem]
  dsimp only
  rw [if_pos (by rw [List.length_append, hlen, hlen, hfirst]; unfold Config.maxBody; omega), hbody]
  simp [first, second]

/-- Settles O11, by induction on the report queue for what a frame takes. -/
theorem reportFrameCarriesTheOldest : Obligations.ReportFrameCarriesTheOldest := by
  refine ⟨fun s n => ⟨rfl, rfl, rfl, rfl, rfl, rfl, rfl, rfl⟩, fun s hreset => ?_, ?_⟩
  · dsimp only
    refine ⟨completes_reportNotReady hreset, fun hready hheld hshort => ?_⟩
    obtain ⟨took, hl, hb, hc, hlen, hnext⟩ := takeItems_whole (s := s) (l := s.rst.reports) hheld
      fun e he => secondItem_none (hshort e he)
    have htook : s.rst.reports.take (s.rst.reports.length - s.buildReport.left.length) = took := by
      have hcount : s.rst.reports.length = took.length + s.buildReport.left.length := by
        rw [← List.length_append]
        exact congrArg List.length hl
      rw [hcount, Nat.add_sub_cancel]
      conv_lhs => rw [hl]
      exact List.take_left' rfl
    refine ⟨s.sendReport, took, completes_sendReport hreset hready, hl, hlen, hnext, rfl, ?_, ?_⟩
    · unfold Part.sendReport
      dsimp only
      rw [htook]
    · unfold Part.sendReport Part.buildReport
      dsimp only
      rw [hb, hc]
      rfl
  · intro s n rest hreset hready hcont hreports hstate hlong hmost
    have hbuilt : s.buildReport = s.takeItems ({ kind := .session, subject := n } :: rest) [] := by
      unfold Part.buildReport
      rw [hreports, hcont]
      rfl
    rw [longSession_items hstate hlong] at hbuilt
    refine ⟨s.sendReport, completes_sendReport hreset hready, ?_, rfl, ?_, ?_⟩ <;>
      (unfold Part.sendReport; dsimp only; rw [hbuilt])

end Sys2Proof.Machine
end

section
/-! The layouts of replies, items and records, and the status requests. -/

namespace Sys2Proof.Machine

theorem laidOut_nil (l : List Byte) : LaidOut l [] := fun _ h => absurd h List.not_mem_nil

theorem laidOut_cons {l b : List Byte} {o : Nat} {fields : List (Nat × List Byte)} :
    LaidOut l ((o, b) :: fields) ↔ StandsAt l o b ∧ LaidOut l fields := by
  simp only [laidOut_iff, List.forall_mem_cons]

/-! ### Area sets -/

theorem areaSet_fold_getLsbD (l : List Nat) (x : AreaSet) {i : Nat} (hi : i < 16) :
    (l.foldl (fun s a => s ||| BitVec.ofNat 16 (2 ^ (a - 1))) x).getLsbD i =
      (x.getLsbD i || decide (∃ a ∈ l, a - 1 = i)) := by
  induction l generalizing x with
  | nil => simp
  | cons a l ih =>
    rw [List.foldl_cons, ih, BitVec.getLsbD_or, BitVec.getLsbD_ofNat, Nat.testBit_two_pow]
    simp [hi, Bool.or_assoc]

/-- R178: the bits of an area set are its areas. -/
theorem areaSetOf_testBit {l : List Nat} (h : ∀ b ∈ l, isArea b = true) {a : Nat} (ha : a ∈ numbers 16) :
    (areaSetOf l).toNat.testBit (a - 1) = decide (a ∈ l) := by
  obtain ⟨h1, h2⟩ := (mem_numbers a).1 ha
  have hbit := areaSet_fold_getLsbD l 0 (i := a - 1) (by omega)
  rw [← BitVec.getLsbD, areaSetOf, hbit]
  have hiff : (∃ b ∈ l, b - 1 = a - 1) ↔ a ∈ l := by
    constructor
    · rintro ⟨b, hb, hba⟩
      have hb1 : 1 ≤ b := ((mem_numbers b).1 ((isArea_iff b).1 (h b hb))).1
      obtain rfl : b = a := by omega
      exact hb
    · exact fun hmem => ⟨a, hmem, rfl⟩
  simp [hiff]

/-- A 16-bit area set in a string of bytes. -/
theorem StandsAt.areaSet {bytes : List Byte} {o : Nat} {l : List Nat} (h : StandsAt bytes o (be16 (areaSetOf l).toNat))
    (hl : ∀ b ∈ l, isArea b = true) {a : Nat} (ha : a ∈ numbers 16) :
    (Machine.field16 bytes o).testBit (a - 1) = decide (a ∈ l) := by
  rw [h.field16, Nat.mod_eq_of_lt (areaSetOf l).isLt, areaSetOf_testBit hl ha]

/-! ### Codes and records -/

theorem codesFollow : CodesFollow := by
  unfold CodesFollow
  decide

theorem JournalRecord.laidOut (x : JournalRecord) : x.LaidOut := by
  refine ⟨rfl, ?_⟩
  simp only [laidOut_cons]
  exact ⟨rfl, rfl, rfl, rfl, rfl, rfl, rfl, rfl, rfl, rfl, rfl, laidOut_nil _⟩

theorem entryBytes_laidOut (e : ReviewEntry) : (entryBytes e).length = 15
    ∧ LaidOut (entryBytes e)
      [(0, [byteOf (16 * (e.area - 1) + e.sweep.code)]), (1, be16 e.cursor), (3, be16 e.snapGen.toNat),
        (5, be32 e.snapSeq.toNat), (9, be32 e.deltaCursor.toNat), (13, be16 e.confGen.toNat)] := by
  refine ⟨rfl, ?_⟩
  simp only [laidOut_cons]
  exact ⟨rfl, rfl, rfl, rfl, rfl, rfl, laidOut_nil _⟩

theorem Session.header_running {x : Session} (h : x.state ≠ .idle) : x.header =
    byteOf (x.state.code + (if x.accepted then 4 else 0) + (if x.handedOff then 8 else 0))
      :: byteOf x.outgoing :: byteOf x.incoming :: be16 (areaSetOf x.areas).toNat ++ be32 x.started.toNat
      ++ be16 x.timer.remaining := if_neg h

theorem Session.laidOut (x : Session) : x.LaidOut := by
  refine ⟨fun h => if_pos h, fun h => ⟨Session.header_length h, ?_, fun hareas a ha => ?_⟩,
    fun e _ => entryBytes_laidOut e⟩
  · rw [Session.header_running h]
    simp only [laidOut_cons]
    exact ⟨rfl, rfl, rfl, rfl, rfl, laidOut_nil _⟩
  · have hset : StandsAt x.header 3 (be16 (areaSetOf x.areas).toNat) := by
      rw [Session.header_running h]
      rfl
    refine hset.areaSet (fun b hb => ?_) ha
    obtain ⟨e, he, rfl⟩ := List.mem_map.1 hb
    exact hareas e he

/-! ### The part -/

/-- R182: the byte of the report settings; OVERFLOW and RESYNC are always enabled. -/
def enabledByte (v : Vector Bool 6) : Nat :=
  (numbers 8).foldl (fun n k => n + (if k ≤ 6 && !getAt v k then 0 else 2 ^ (k - 1))) 0

/-- Six settings and two bits that are always set, as a number. -/
def settingsSum (b1 b2 b3 b4 b5 b6 : Bool) : Nat :=
  b1.toNat + 2 * b2.toNat + 4 * b3.toNat + 8 * b4.toNat + 16 * b5.toNat + 32 * b6.toNat + 192

theorem enabledByte_eq (v : Vector Bool 6) :
    enabledByte v = settingsSum (getAt v 1) (getAt v 2) (getAt v 3) (getAt v 4) (getAt v 5) (getAt v 6) := by
  unfold enabledByte
  show List.foldl _ 0 [1, 2, 3, 4, 5, 6, 7, 8] = _
  simp only [List.foldl_cons, List.foldl_nil]
  generalize getAt v 1 = b1
  generalize getAt v 2 = b2
  generalize getAt v 3 = b3
  generalize getAt v 4 = b4
  generalize getAt v 5 = b5
  generalize getAt v 6 = b6
  generalize getAt v 7 = b7
  generalize getAt v 8 = b8
  revert b1 b2 b3 b4 b5 b6 b7 b8
  decide

theorem settingsSum_bits : ∀ b1 b2 b3 b4 b5 b6 : Bool, settingsSum b1 b2 b3 b4 b5 b6 < 256
    ∧ (settingsSum b1 b2 b3 b4 b5 b6).testBit 0 = b1 ∧ (settingsSum b1 b2 b3 b4 b5 b6).testBit 1 = b2
    ∧ (settingsSum b1 b2 b3 b4 b5 b6).testBit 2 = b3 ∧ (settingsSum b1 b2 b3 b4 b5 b6).testBit 3 = b4
    ∧ (settingsSum b1 b2 b3 b4 b5 b6).testBit 4 = b5 ∧ (settingsSum b1 b2 b3 b4 b5 b6).testBit 5 = b6
    ∧ (settingsSum b1 b2 b3 b4 b5 b6).testBit 6 = true ∧ (settingsSum b1 b2 b3 b4 b5 b6).testBit 7 = true := by
  decide

theorem Part.shelfInUse_eq (s : Part) :
    s.shelfInUse = ((numbers 96).filter fun k => (getAt s.shelf k).isSome).length := by
  unfold Part.shelfInUse
  rw [toList_eq_map, List.filter_map, List.length_map]
  rfl

theorem Part.statusBytes_length (s : Part) : s.statusBytes.length = 34 := by
  simp only [Part.statusBytes, be16, be32, List.length_append, List.length_cons, List.length_nil]

theorem Part.statusBytes_enabled (s : Part) : StandsAt s.statusBytes 27 [byteOf (enabledByte s.rst.enabled)] := by
  simp only [StandsAt, Part.statusBytes, enabledByte, be16, be32, List.cons_append, List.nil_append,
    List.drop_succ_cons, List.drop_zero, List.take_succ_cons, List.take_zero, List.length_cons, List.length_nil]

theorem Part.statusLaidOut (s : Part) : s.StatusLaidOut := by
  have hbyte : byteAt s.statusBytes 27 = settingsSum (getAt s.rst.enabled 1) (getAt s.rst.enabled 2)
      (getAt s.rst.enabled 3) (getAt s.rst.enabled 4) (getAt s.rst.enabled 5) (getAt s.rst.enabled 6) := by
    rw [s.statusBytes_enabled.byteAt, enabledByte_eq, Nat.mod_eq_of_lt (settingsSum_bits ..).1]
  obtain ⟨_, h1, h2, h3, h4, h5, h6, h7, h8⟩ := settingsSum_bits (getAt s.rst.enabled 1) (getAt s.rst.enabled 2)
    (getAt s.rst.enabled 3) (getAt s.rst.enabled 4) (getAt s.rst.enabled 5) (getAt s.rst.enabled 6)
  refine ⟨s.statusBytes_length, ?_, ?_, ?_, ?_⟩
  · rw [← s.shelfInUse_eq]
    simp only [laidOut_cons, StandsAt, Part.statusBytes, Part.now, Rst.oldest, be16, be32, List.cons_append,
      List.nil_append, List.drop_succ_cons, List.drop_zero, List.take_succ_cons, List.take_zero,
      List.length_cons, List.length_nil, laidOut_nil, and_self, Config.storeSlots]
  · rw [hbyte]
    intro k hk
    obtain ⟨hlow, hhigh⟩ := (mem_numbers k).1 hk
    interval_cases k <;> assumption
  · rw [hbyte, h7]
  · rw [hbyte, h8]

/-! ### Points and areas -/

/-- The last five bytes of a point item (R183). -/
theorem Part.pointItem_shelf (s : Part) (p : Nat) :
    ((s.point p).shelfSlot = none → StandsAt (s.pointItem p) 15 [0, 0, 0, 0, 0])
    ∧ ∀ k ∈ (s.point p).shelfSlot, ∀ u ∈ getAt s.shelf k,
        StandsAt (s.pointItem p) 15 (byteOf k :: byteOf u.desk :: be24 u.timer.remaining) := by
  refine ⟨fun h => ?_, fun k hk u hu => ?_⟩
  · unfold StandsAt Part.pointItem
    dsimp only
    rw [h]
    rfl
  · unfold StandsAt Part.pointItem
    dsimp only
    rw [hk]
    dsimp only
    rw [hu]
    rfl

theorem Part.pointItem_length (s : Part) (p : Nat) : (s.pointItem p).length = 20 := by
  unfold Part.pointItem
  dsimp only
  generalize (s.point p).shelfSlot = slot
  cases slot with
  | none => rfl
  | some k =>
    dsimp only
    generalize getAt s.shelf k = used
    cases used <;> rfl

theorem Part.pointLaidOut (s : Part) (p : Nat) : s.PointLaidOut p := by
  obtain ⟨hnone, hsome⟩ := s.pointItem_shelf p
  refine ⟨⟨rfl, ?_⟩, s.pointItem_length p, ?_, fun h => laidOut_one.2 (hnone h), fun k hk u hu => ?_⟩
  · simp only [laidOut_cons]
    exact ⟨rfl, rfl, rfl, rfl, rfl, rfl, laidOut_nil _⟩
  · simp only [laidOut_cons]
    exact ⟨rfl, rfl, rfl, rfl, rfl, rfl, rfl, rfl, laidOut_nil _⟩
  · have h := hsome k hk u hu
    simp only [laidOut_cons]
    exact ⟨h.trans (n := 0) (c := [byteOf k]) rfl rfl, h.trans (n := 1) (c := [byteOf u.desk]) rfl rfl,
      h.trans (n := 2) (c := be24 u.timer.remaining) rfl rfl, laidOut_nil _⟩

theorem Part.areaItem_length (s : Part) (a : Nat) : (s.areaItem a).length = 45 := by
  simp only [Part.areaItem, be16, List.flatMap_cons, List.flatMap_nil, List.length_append, List.length_cons,
    List.length_nil]

theorem Part.areaLaidOut (s : Part) (a : Nat) : s.AreaLaidOut a := by
  refine ⟨s.areaItem_length a, ?_, fun i hi => ?_⟩
  · simp only [laidOut_cons, StandsAt, Part.areaItem, be16, List.cons_append, List.nil_append,
      List.drop_succ_cons, List.drop_zero, List.take_succ_cons, List.take_zero, List.length_cons, List.length_nil,
      laidOut_nil, and_self]
  · have hi4 := List.mem_range.1 hi
    simp only [laidOut_cons]
    refine ⟨?_, ?_, laidOut_nil _⟩ <;> interval_cases i <;>
      simp only [StandsAt, Part.areaItem, be16, List.flatMap_cons, List.flatMap_nil, List.cons_append, List.nil_append,
        Nat.reduceMul, Nat.reduceAdd, List.drop_succ_cons, List.drop_zero, List.take_succ_cons,
        List.take_zero, List.length_cons, List.length_nil]

theorem Part.areaItem_load (s : Part) (a : Nat) : (s.areaItem a).extract 11 13 = be16 (s.area a).load := by
  have h := (s.areaLaidOut a).2.1
  simp only [laidOut_cons] at h
  obtain ⟨-, -, -, -, -, -, -, -, -, hload, -⟩ := h
  rw [List.extract_eq_take_drop]
  exact hload

/-! ### Desks -/

theorem layerBytes_length (l : Option Layer) : (layerBytes l).length = 9 := by
  cases l with
  | none => rfl
  | some x =>
    obtain ⟨perms, scope, elev⟩ := x
    cases elev <;> rfl

theorem slotBytes_length (x : Option Slot) : (slotBytes x).length = 9 := by cases x <;> rfl

theorem Part.lampBytes_length (s : Part) (d k : Nat) : (s.lampBytes d k).length = 2 := rfl

theorem Part.authorityItem_length (s : Part) (d : Nat) : (s.authorityItem d).length = 38 := by
  have h := length_flatMap_const (f := fun i => layerBytes (s.desk d).stack[i]?) (fun i => layerBytes_length _)
    (List.range Config.stackDepth)
  show ((List.range Config.stackDepth).flatMap fun i => layerBytes (s.desk d).stack[i]?).length + 1 + 1 = 38
  rw [h]
  rfl

theorem Part.authorityItem_layer (s : Part) (d : Nat) {i : Nat} (hi : i < 4) :
    StandsAt (s.authorityItem d) (2 + 9 * i) (layerBytes (s.desk d).stack[i]?) := by
  have h := StandsAt.piece (f := fun i => layerBytes (s.desk d).stack[i]?) (fun i => layerBytes_length _)
    (List.getElem?_range (n := Config.stackDepth) (i := i) hi)
  exact h.right (l := [byteOf (s.desk d).signedOn, byteOf (s.desk d).stack.length]) rfl

/-- The fields of a DESK item that do not depend on which slots are occupied (R182). -/
theorem Part.deskItem_fields (s : Part) (d : Nat) : (s.deskItem d).length = 93
    ∧ StandsAt (s.deskItem d) 0 (s.authorityItem d)
    ∧ StandsAt (s.deskItem d) 38 ([1, 2, 3, 4].flatMap fun k => slotBytes (getAt (s.desk d).slots k))
    ∧ StandsAt (s.deskItem d) 74 ((List.range 4).map fun i => byteOf ((s.desk d).order.getD i 0))
    ∧ StandsAt (s.deskItem d) 78 (be16 (areaSetOf (s.deskAreas d)).toNat)
    ∧ StandsAt (s.deskItem d) 80 [byteOf (s.desk d).horn.code, byteOf (s.desk d).hornPattern]
    ∧ StandsAt (s.deskItem d) 82 ([1, 2, 3, 4].flatMap (s.lampBytes d))
    ∧ StandsAt (s.deskItem d) 90 (be16 (s.desk d).hold.remaining)
    ∧ StandsAt (s.deskItem d) 92 [byteOf (s.desk d).lampTest.remaining] := by
  have hauth := s.authorityItem_length d
  have hslots := length_flatMap_const (f := fun k => slotBytes (getAt (s.desk d).slots k))
    (fun k => slotBytes_length _) [1, 2, 3, 4]
  have hlamps := length_flatMap_const (s.lampBytes_length d) [1, 2, 3, 4]
  have horder : ((List.range 4).map fun i => byteOf ((s.desk d).order.getD i 0)).length = 4 := rfl
  have hbe : ∀ n, (be16 n).length = 2 := fun _ => rfl
  have h12 : 9 * [1, 2, 3, 4].length = 36 := rfl
  have h8 : 2 * [1, 2, 3, 4].length = 8 := rfl
  rw [h12] at hslots
  rw [h8] at hlamps
  unfold Part.deskItem
  refine ⟨?_, ?_, ?_, ?_, ?_, ?_, ?_, ?_, ?_⟩
  · simp only [List.length_append, hauth, hslots, hlamps, horder, hbe, List.length_cons, List.length_nil]
  · exact (((((((StandsAt.whole _).left _).left _).left _).left _).left _).left _).left _
  · exact ((((((StandsAt.next hauth.symm).left _).left _).left _).left _).left _).left _
  · exact (((((StandsAt.next (by rw [List.length_append, hauth, hslots])).left _).left _).left _).left _).left _
  · exact ((((StandsAt.next (by simp only [List.length_append, hauth, hslots, horder])).left _).left _).left _).left _
  · exact (((StandsAt.next (by simp only [List.length_append, hauth, hslots, horder, hbe])).left _).left _).left _
  · exact ((StandsAt.next (by simp only [List.length_append, hauth, hslots, horder, hbe, List.length_cons,
      List.length_nil])).left _).left _
  · exact (StandsAt.next (by simp only [List.length_append, hauth, hslots, horder, hbe, hlamps, List.length_cons,
      List.length_nil])).left _
  · exact StandsAt.next (by simp only [List.length_append, hauth, hslots, horder, hbe, hlamps, List.length_cons,
      List.length_nil])

theorem deskAreas_areas (s : Part) (d : Nat) : ∀ a ∈ s.deskAreas d, isArea a = true := by
  intro a ha
  unfold Part.deskAreas at ha
  split at ha
  · exact absurd ha List.not_mem_nil
  · exact (isArea_iff a).2 (List.mem_filter.1 ha).1

theorem mem_deskAreas {s : Part} {d a : Nat} (hd : d ∈ numbers 6) :
    a ∈ s.deskAreas d ↔ a ∈ numbers 16 ∧ (s.area a).pdesk = d := by
  have hd0 : d ≠ 0 := by have := (mem_numbers d).1 hd; omega
  unfold Part.deskAreas
  rw [if_neg hd0, List.mem_filter, beq_iff_eq]

theorem slotBytes_occupied (y : Slot) : StandsAt (slotBytes (some y)) 0 (be16 y.point)
    ∧ StandsAt (slotBytes (some y)) 2 (be16 y.view.toNat) ∧ StandsAt (slotBytes (some y)) 4 (be32 y.presentedAt.toNat)
    ∧ StandsAt (slotBytes (some y)) 8 [if y.silenced then 1 else 0] := ⟨rfl, rfl, rfl, rfl⟩

theorem layerBytes_elevation (y : Layer) : (y.elev = none → StandsAt (layerBytes (some y)) 4 (List.replicate 5 0))
    ∧ ∀ e ∈ y.elev, StandsAt (layerBytes (some y)) 4 [byteOf e.grantor]
        ∧ StandsAt (layerBytes (some y)) 5 (be16 e.minutes) ∧ StandsAt (layerBytes (some y)) 7 (be16 e.timer.remaining) := by
  unfold layerBytes
  dsimp only
  refine ⟨fun h => ?_, fun e he => ?_⟩
  · rw [h]
    rfl
  · rw [he]
    exact ⟨rfl, rfl, rfl⟩

theorem Part.authorityItem_laidOut (s : Part) (d : Nat) {i : Nat} (hi : i < 4) :
    ((s.desk d).stack[i]? = none → LaidOut (s.authorityItem d) [(2 + 9 * i, List.replicate 9 0)])
    ∧ ∀ y ∈ (s.desk d).stack[i]?,
        LaidOut (s.authorityItem d) [(2 + 9 * i, be16 y.perms.toNat), (4 + 9 * i, be16 y.scope.toNat)]
        ∧ (y.elev = none → LaidOut (s.authorityItem d) [(6 + 9 * i, List.replicate 5 0)])
        ∧ ∀ e ∈ y.elev, LaidOut (s.authorityItem d)
            [(6 + 9 * i, [byteOf e.grantor]), (7 + 9 * i, be16 e.minutes), (9 + 9 * i, be16 e.timer.remaining)] := by
  have hlayer := s.authorityItem_layer d hi
  refine ⟨fun h => ?_, fun y hy => ?_⟩
  · rw [h] at hlayer
    exact laidOut_one.2 hlayer
  · rw [show (s.desk d).stack[i]? = some y from hy] at hlayer
    obtain ⟨hbase, helev⟩ := layerBytes_elevation y
    simp only [laidOut_cons]
    refine ⟨⟨hlayer.trans (n := 0) rfl rfl, hlayer.trans (n := 2) rfl (by omega), laidOut_nil _⟩,
      fun h => ⟨hlayer.trans (hbase h) (by omega), laidOut_nil _⟩, fun e he => ?_⟩
    obtain ⟨h1, h2, h3⟩ := helev e he
    exact ⟨hlayer.trans h1 (by omega), hlayer.trans h2 (by omega), hlayer.trans h3 (by omega), laidOut_nil _⟩

theorem Part.deskLaidOut (s : Part) {d : Nat} (hd : isDesk d = true) : s.DeskLaidOut d := by
  obtain ⟨hlen, hauth, hslots, horder, hareas, hhorn, hlamps, hhold, htest⟩ := s.deskItem_fields d
  refine ⟨hlen, s.authorityItem_length d, ?_, fun i hi => s.authorityItem_laidOut d (List.mem_range.1 hi), ?_,
    fun a ha => ?_, fun i hi => ?_⟩
  · simp only [laidOut_cons]
    exact ⟨rfl, rfl, laidOut_nil _⟩
  · simp only [laidOut_cons]
    exact ⟨hauth, hhorn.trans (n := 0) rfl rfl, hhorn.trans (n := 1) rfl rfl, hhold, htest, laidOut_nil _⟩
  · rw [hareas.areaSet (deskAreas_areas s d) ha]
    simp [mem_deskAreas ((isDesk_iff d).1 hd), (mem_numbers a).1 ha]
  · have hi4 := List.mem_range.1 hi
    have hk : [1, 2, 3, 4][i]? = some (i + 1) := by interval_cases i <;> rfl
    have hslot := hslots.trans (StandsAt.piece (fun k => slotBytes_length (getAt (s.desk d).slots k)) hk) rfl
    have hlamp := hlamps.trans (StandsAt.piece (s.lampBytes_length d) hk) rfl
    refine ⟨fun h => ?_, fun y hy => ?_, ?_⟩
    · rw [h] at hslot
      exact laidOut_one.2 hslot
    · rw [show getAt (s.desk d).slots (i + 1) = some y from hy] at hslot
      obtain ⟨h1, h2, h3, h4⟩ := slotBytes_occupied y
      simp only [laidOut_cons]
      exact ⟨hslot.trans h1 rfl, hslot.trans h2 (by omega), hslot.trans h3 (by omega), hslot.trans h4 (by omega),
        laidOut_nil _⟩
    · simp only [laidOut_cons]
      refine ⟨horder.trans (n := i) ?_ rfl, hlamp.trans (n := 0) rfl rfl, hlamp.trans (n := 1) rfl (by omega),
        laidOut_nil _⟩
      interval_cases i <;> rfl

/-! ### The status requests -/

/-- R183: the items that join a reply are the first ones, as many as fit. -/
theorem fitItems_spec (l : List (List Byte)) {used : Nat} (h : used ≤ 240) :
    (fitItems used l).1 ≤ l.length ∧ (fitItems used l).2 = (l.take (fitItems used l).1).flatten
      ∧ used + (l.take (fitItems used l).1).flatten.length ≤ 240
      ∧ ((fitItems used l).1 < l.length → 240 < used + (l.take ((fitItems used l).1 + 1)).flatten.length) := by
  induction l generalizing used with
  | nil => exact ⟨Nat.le_refl _, rfl, h, fun hlt => absurd hlt (Nat.lt_irrefl _)⟩
  | cons x rest ih =>
    unfold fitItems
    by_cases hfits : Config.maxBody < used + x.length
    · rw [if_pos hfits]
      refine ⟨Nat.zero_le _, rfl, h, fun _ => ?_⟩
      simpa using hfits
    · rw [if_neg hfits]
      dsimp only
      obtain ⟨h1, h2, h3, h4⟩ := ih (used := used + x.length) (Nat.not_lt.1 hfits)
      simp only [List.length_cons, List.take_succ_cons, List.flatten_cons, List.length_append]
      exact ⟨Nat.succ_le_succ h1, by rw [h2], by omega, fun hlt => by have := h4 (by omega); omega⟩

theorem Part.statusItem_eq (s : Part) (p : Nat) : s.statusItem p = s.pointAnswer p := by
  unfold Part.statusItem Part.pointAnswer
  cases isPoint p <;> cases (s.pointS p).configured <;> rfl

theorem pointStatusHandler_eq (s : Part) (body : List Byte) :
    pointStatusHandler body s =
      (s, 0 :: byteOf (fitItems 2 ((List.range (body.length / 2)).map fun i => s.pointAnswer (field16 body (2 * i)))).1
        :: (fitItems 2 ((List.range (body.length / 2)).map fun i => s.pointAnswer (field16 body (2 * i)))).2) := by
  have hitems : ((itemOffsets 0 2 body.length).map fun i => s.statusItem (field16 body i)) =
      (List.range (body.length / 2)).map fun i => s.pointAnswer (field16 body (2 * i)) := by
    unfold itemOffsets
    rw [List.map_map]
    refine List.map_congr_left fun i _ => ?_
    rw [Function.comp_apply, s.statusItem_eq, Nat.zero_add]
  unfold pointStatusHandler
  rw [hitems]
  rfl

/-- R63: POINT_STATUS. -/
theorem completes_pointStatus {s : Part} {tag : Byte} {body : List Byte} (h : s.Takes .pointStatus tag body) :
    let l := (List.range (body.length / 2)).map fun i => s.pointAnswer (field16 body (2 * i))
    Completes .pointStatus s
      { s with lif := s.answer .pointStatus tag (0 :: byteOf (fitItems 2 l).1 :: (l.take (fitItems 2 l).1).flatten) } := by
  intro l
  have hf := pointStatusHandler_eq s.taken body
  rw [(fitItems_spec _ (used := 2) (by decide)).2.1] at hf
  exact completes_unchanged (f := pointStatusHandler) (fun _ => rfl) h hf

theorem pointAnswer_length (s : Part) (p : Nat) : (s.pointAnswer p).length ≤ 21 := by
  unfold Part.pointAnswer
  split_ifs
  · exact Nat.le_of_ble_eq_true rfl
  · exact Nat.le_of_ble_eq_true rfl
  · rw [List.length_cons, s.pointItem_length]

theorem completes_pointStatus_one {s : Part} {tag : Byte} {body : List Byte} (h : s.Takes .pointStatus tag body)
    (hlen : body.length = 2) : Completes .pointStatus s
      { s with lif := s.answer .pointStatus tag (0 :: 1 :: s.pointAnswer (field16 body 0)) } := by
  have hdone := completes_pointStatus h
  have hitems : (List.range (body.length / 2)).map (fun i => s.pointAnswer (field16 body (2 * i))) =
      [s.pointAnswer (field16 body 0)] := by rw [hlen]; rfl
  have hlength := pointAnswer_length s (field16 body 0)
  have hfit : fitItems 2 [s.pointAnswer (field16 body 0)] = (1, s.pointAnswer (field16 body 0)) := by
    unfold fitItems
    rw [if_neg (by unfold Config.maxBody; omega)]
    simp [fitItems]
  dsimp only at hdone
  rw [hitems, hfit, List.take_succ_cons, List.take_zero, List.flatten_singleton] at hdone
  exact hdone

theorem Session.statusBytes_eq {x : Session} (h : x.state ≠ .idle) (n : Nat) :
    x.statusBytes (max 1 n) =
      x.header ++ (if 14 < (x.entries.drop ((if n = 0 then 1 else n) - 1)).length then 1 else 0)
        :: ((x.entries.drop ((if n = 0 then 1 else n) - 1)).take 14).flatMap entryBytes := by
  have hfirst : max 1 n = if n = 0 then 1 else n := by split <;> omega
  unfold Session.statusBytes
  rw [if_neg h, hfirst]
  unfold flagByte
  simp only [decide_eq_true_eq]

theorem completes_sessionStatus {s : Part} {tag : Byte} {body : List Byte} (h : s.Takes .sessionStatus tag body)
    (hn : byteAt body 0 ∈ numbers 4) : Completes .sessionStatus s
      { s with
        lif := s.answer .sessionStatus tag (0 :: (s.session (byteAt body 0)).statusBytes (max 1 (byteAt body 1))) } := by
  refine completes_unchanged (f := sessionStatusHandler) (fun _ => rfl) h ?_
  have hnum : ¬(!(decide (1 ≤ byteAt body 0) && decide (byteAt body 0 ≤ Config.nSessions))) = true := by
    obtain ⟨h1, h2⟩ := (mem_numbers _).1 hn
    simp only [Config.nSessions, h1, h2, decide_true, Bool.and_self, Bool.not_true, Bool.false_eq_true, not_false_eq_true]
  simp only [sessionStatusHandler, if_neg hnum]
  rfl

/-- Settles O45, layout by layout and request by request. -/
theorem statusRequestsChangeNothing : Obligations.StatusRequestsChangeNothing := by
  refine ⟨codesFollow, JournalRecord.laidOut, Session.laidOut,
    fun s => ⟨s.statusLaidOut, fun n => ⟨s.pointLaidOut n, s.areaLaidOut n, fun hd => s.deskLaidOut hd⟩⟩,
    fun s tag body => ⟨fun h => ?_, fun h ha => ?_, fun h hd => ?_, fun h hn => ?_, fun h hlen => ?_, fun h => ?_⟩⟩
  · exact ⟨completes_unchanged (f := partStatusHandler) (fun _ => rfl) h rfl, s.statusBytes_length⟩
  · refine ⟨completes_unchanged (f := areaStatusHandler) (fun _ => rfl) h ?_, s.areaItem_length _,
      s.areaItem_load _⟩
    simp only [areaStatusHandler, ha]
    rfl
  · refine ⟨completes_unchanged (f := deskStatusHandler) (fun _ => rfl) h ?_, (s.deskItem_fields _).1⟩
    simp only [deskStatusHandler, hd]
    rfl
  · have hdone := completes_sessionStatus h hn
    refine ⟨fun hidle => ?_, fun hrunning => ⟨?_, Session.header_length hrunning⟩⟩
    · have hbytes : (s.session (byteAt body 0)).statusBytes (max 1 (byteAt body 1)) = [0] := by
        unfold Session.statusBytes Session.header
        rw [if_pos hidle, if_pos hidle]
      rwa [hbytes] at hdone
    · rwa [Session.statusBytes_eq hrunning] at hdone
  · have hdone := completes_pointStatus_one h hlen
    refine ⟨?_, s.pointItem_length _⟩
    unfold Part.pointAnswer at hdone
    split_ifs at hdone ⊢ <;> exact hdone
  · obtain ⟨h1, _, h3, h4⟩ := fitItems_spec
      ((List.range (body.length / 2)).map fun i => s.pointAnswer (field16 body (2 * i))) (used := 2) (by decide)
    exact ⟨_, h1, completes_pointStatus h, h3, h4⟩

end Sys2Proof.Machine
end

section
/-! What every event leaves alone at its end; the outputs of the desks and the events of the Desk Interface. -/

namespace Sys2Proof.Machine

/-! ### The fields of a part at the end of an event -/

section
variable (s t : Part) (extra : List ReportEntry)

@[simp] theorem closeEvent_resetLow : (closeEvent s extra t).resetLow = t.resetLow := by rw [closeEvent_rest]
@[simp] theorem closeEvent_phase : (closeEvent s extra t).phase = t.phase := by rw [closeEvent_rest]
@[simp] theorem closeEvent_staged : (closeEvent s extra t).staged = t.staged := by rw [closeEvent_rest]
@[simp] theorem closeEvent_live : (closeEvent s extra t).live = t.live := by rw [closeEvent_rest]
@[simp] theorem closeEvent_tset : (closeEvent s extra t).tset = t.tset := by rw [closeEvent_rest]
@[simp] theorem closeEvent_shelf : (closeEvent s extra t).shelf = t.shelf := by rw [closeEvent_rest]
@[simp] theorem closeEvent_points : (closeEvent s extra t).points = t.points := by rw [closeEvent_rest]
@[simp] theorem closeEvent_groups : (closeEvent s extra t).groups = t.groups := by rw [closeEvent_rest]
@[simp] theorem closeEvent_areas : (closeEvent s extra t).areas = t.areas := by rw [closeEvent_rest]
@[simp] theorem closeEvent_credDesk : (closeEvent s extra t).credDesk = t.credDesk := by rw [closeEvent_rest]
@[simp] theorem closeEvent_sessions : (closeEvent s extra t).sessions = t.sessions := by rw [closeEvent_rest]

theorem closeEvent_point (p : Nat) : (closeEvent s extra t).point p = t.point p :=
  congrArg (getAt · p) (closeEvent_points s t extra)

theorem closeEvent_area (a : Nat) : (closeEvent s extra t).area a = t.area a :=
  congrArg (getAt · a) (closeEvent_areas s t extra)

theorem closeEvent_session (n : Nat) : (closeEvent s extra t).session n = t.session n :=
  congrArg (getAt · n) (closeEvent_sessions s t extra)

end

/-- R125: a desk at the end of an event, but for its horn. -/
theorem closeEvent_desk_rest (s t : Part) (extra : List ReportEntry) {d : Nat} (hd : d ∈ numbers 6) :
    (closeEvent s extra t).desk d =
      { t.desk d with
        horn := ((closeEvent s extra t).desk d).horn, hornPattern := ((closeEvent s extra t).desk d).hornPattern } :=
  (closeEvent_closed s extra t).desk d hd

/-- R125: a desk whose horn follows its slots is, at the end of the event, as the rule left it. -/
theorem closeEvent_desk_ok {t : Part} (s : Part) (extra : List ReportEntry) {d : Nat} (hd : d ∈ numbers 6)
    (ok : (t.desk d).HornOk) : (closeEvent s extra t).desk d = t.desk d := by
  obtain ⟨h1, h2⟩ := (mem_numbers d).1 hd
  rw [closeEvent_desk, Part.refreshHorns_kept t d h1 h2 ok]

/-- A desk that an event did not touch is kept, however the part before it is given. -/
theorem Part.DeskKept.congr {s u t : Part} {d : Nat} (h : u.DeskKept t d) (hdesk : u.desk d = s.desk d) :
    s.DeskKept t d := by
  unfold Part.DeskKept Part.HornMoved at h ⊢
  rwa [hdesk] at h

theorem Part.HornMoved.congr {s u t : Part} {d : Nat} (h : u.HornMoved t d) (hhorn : (u.desk d).horn = (s.desk d).horn)
    (hpattern : (u.desk d).hornPattern = (s.desk d).hornPattern) : s.HornMoved t d := by
  unfold Part.HornMoved at h ⊢
  rwa [hhorn, hpattern] at h

/-! ### Events of one desk -/

/-- The event from `s` to `t` touched desk `d` alone; it wrote `l` and reported `extra` whatever changed. -/
structure DeskEvent (s t : Part) (d : Nat) (l : List JournalRecord) (extra : List ReportEntry) : Prop where
  wrote : s.WroteAnd t l extra
  fixed : s.Fixed t
  people : s.PeopleKept t
  points : t.points = s.points
  areas : t.areas = s.areas
  shelf : t.shelf = s.shelf
  sessions : t.sessions = s.sessions
  others : ∀ e ∈ numbers 6, e ≠ d → s.DeskKept t e

theorem closeEvent_deskEvent {s u : Part} {d : Nat} {l : List JournalRecord} (extra : List ReportEntry)
    (rest : u = { s with desks := u.desks, rst := u.rst }) (others : ∀ e, e ≠ d → u.desk e = s.desk e)
    (hrec : s.Recorded u l) (hreports : u.rst.reports = s.rst.reports) (hdropped : u.rst.dropped = s.rst.dropped) :
    DeskEvent s (closeEvent s extra u) d l extra where
  wrote := closeEvent_wroteAnd extra hrec hreports hdropped (by rw [rest]; rfl)
  fixed := by
    refine ⟨?_, ?_, ?_, ?_, ?_⟩ <;> simp only [closeEvent_resetLow, closeEvent_phase, closeEvent_staged,
      closeEvent_live, closeEvent_tset] <;> rw [rest]
  people := by
    refine ⟨?_, ?_⟩ <;> simp only [closeEvent_credDesk, closeEvent_groups] <;> rw [rest]
  points := by rw [closeEvent_points, rest]
  areas := by rw [closeEvent_areas, rest]
  shelf := by rw [closeEvent_shelf, rest]
  sessions := by rw [closeEvent_sessions, rest]
  others e he hne := closeEvent_deskKept extra he (others e hne)

theorem Part.modDesk_desk_ne (s : Part) {d e : Nat} (f : Desk → Desk) (h : e ≠ d) : (s.modDesk d f).desk e = s.desk e :=
  getAt_modAt_ne _ _ _ _ (Ne.symm h)

theorem Part.modDesk_desk_same (s : Part) {d : Nat} (f : Desk → Desk) (hd : d ∈ numbers 6) :
    (s.modDesk d f).desk d = f (s.desk d) :=
  getAt_modAt_same _ _ _ ((mem_numbers d).1 hd).1 ((mem_numbers d).1 hd).2

theorem Part.modDesk_modDesk (s : Part) (d : Nat) (f g : Desk → Desk) :
    (s.modDesk d f).modDesk d g = s.modDesk d fun x => g (f x) := by
  unfold Part.modDesk
  rw [modAt_modAt]

/-- A change of one desk without a record. -/
theorem modDesk_deskEvent (s : Part) (d : Nat) (f : Desk → Desk) (extra : List ReportEntry) :
    DeskEvent s (closeEvent s extra (s.modDesk d f)) d [] extra :=
  closeEvent_deskEvent extra rfl (fun _ he => s.modDesk_desk_ne f he) s.recorded_self rfl rfl

/-- The horn of a desk whose rule does not touch it. -/
theorem modDesk_hornMoved (s : Part) {d : Nat} (f : Desk → Desk) (extra : List ReportEntry) (hd : d ∈ numbers 6)
    (hhorn : (f (s.desk d)).horn = (s.desk d).horn) (hpattern : (f (s.desk d)).hornPattern = (s.desk d).hornPattern) :
    s.HornMoved (closeEvent s extra (s.modDesk d f)) d := by
  have h := s.modDesk_desk_same f hd
  exact closeEvent_hornMoved extra d hd (by rw [h, hhorn]) (by rw [h, hpattern])

/-! ### The horn and the patterns -/

theorem Desk.hornFromSlots_off (x : Desk) : x.hornFromSlots = .off ↔ x.occupants = [] := by
  unfold Desk.hornFromSlots
  rw [← List.isEmpty_iff]
  split_ifs with h1 h2
  · simp [h1]
  · simp only [false_iff]
    exact h1
  · simp only [false_iff]
    exact h1

theorem Desk.hornFromSlots_sounding (x : Desk) :
    x.hornFromSlots = .sounding ↔ ∃ y ∈ x.occupants, y.silenced = false := by
  have hany : x.occupants.any (!·.silenced) = true ↔ ∃ y ∈ x.occupants, y.silenced = false := by
    simp [List.any_eq_true]
  rw [← hany]
  unfold Desk.hornFromSlots
  cases hempty : x.occupants with
  | nil => simp
  | cons y l => cases (y :: l).any (!·.silenced) <;> simp

theorem hornPatternOn_iff (n phase : Nat) : hornPatternOn n phase = true ↔ HornPatternOn n phase := by
  unfold hornPatternOn HornPatternOn
  split_ifs with h1 h2 h3
  · simp [h1]
  · simp [h2, onHalf]
  · simp [h3, onEighth]
  · simp [h1, h2, h3]

theorem lampPatternOn_iff (x : LampPattern) (phase : Nat) : x.on phase = true ↔ LampPatternOn x phase := by
  cases x <;> simp [LampPattern.on, LampPatternOn, onHalf, onFast, onWink]

/-! ### The lamp sources -/

theorem any_deskAreas {s : Part} {d : Nat} (hd : d ∈ numbers 6) (f : Nat → Bool) :
    (s.deskAreas d).any f = true ↔ ∃ a ∈ numbers 16, (s.area a).pdesk = d ∧ f a = true := by
  simp only [List.any_eq_true, mem_deskAreas hd, and_assoc]

/-- The areas of the configured points that satisfy a test. -/
theorem mem_areasHolding {s : Part} {f : PointStatic → Point → Bool} {a : Nat} :
    a ∈ s.areasHolding f ↔
      ∃ p ∈ numbers 1024, (s.pointS p).configured = true ∧ f (s.pointS p) (s.point p) = true ∧ (s.pointS p).area = a := by
  unfold Part.areasHolding
  rw [toList_eq_map, toList_eq_map, List.zip_map']
  simp only [List.mem_map, List.mem_filter, Bool.and_eq_true, Prod.exists, Prod.mk.injEq]
  constructor
  · rintro ⟨x, y, ⟨⟨p, hp, rfl, rfl⟩, hc, hf⟩, rfl⟩
    exact ⟨p, hp, hc, hf, rfl⟩
  · rintro ⟨p, hp, hc, hf, rfl⟩
    exact ⟨_, _, ⟨⟨p, hp, rfl, rfl⟩, hc, hf⟩, rfl⟩

/-- R128: a source that looks for a point of an area presented at the desk. -/
theorem hasPoint_iff {s : Part} {d : Nat} (hd : d ∈ numbers 6) (f : PointStatic → Point → Bool) :
    (!(s.deskAreas d).isEmpty && (s.areasHolding f).any (s.deskAreas d).contains) = true ↔ s.HasPoint d f := by
  simp only [Bool.and_eq_true, Bool.not_eq_true', List.any_eq_true, List.contains_iff_mem, mem_areasHolding,
    mem_deskAreas hd, Part.HasPoint, isArea_iff]
  constructor
  · rintro ⟨-, a, ⟨p, hp, hc, hf, rfl⟩, ha, hdesk⟩
    exact ⟨p, hp, hc, hf, ha, hdesk⟩
  · rintro ⟨p, hp, hc, hf, ha, hdesk⟩
    refine ⟨?_, _, ⟨p, hp, hc, hf, rfl⟩, ha, hdesk⟩
    have hmem : (s.pointS p).area ∈ s.deskAreas d := (mem_deskAreas hd).2 ⟨ha, hdesk⟩
    cases h : s.deskAreas d with
    | nil => rw [h] at hmem; exact absurd hmem List.not_mem_nil
    | cons x l => rfl

theorem PointState.unacked_eq (st : PointState) : st.unacked = (decide (st = .unack) || decide (st = .rtnUnack)) := by
  cases st <;> rfl

/-- R128: the sixteen sources. -/
theorem Part.sourcesFollow (s : Part) {d : Nat} (hdesk : isDesk d = true) : s.SourcesFollow d := by
  have hd := (isDesk_iff d).1 hdesk
  have harea : ∀ (f : Area → Bool), (s.deskAreas d).any (fun a => f (s.area a)) = true ↔ s.HasArea d f :=
    fun f => any_deskAreas hd _
  refine ⟨⟨rfl, rfl⟩, ?_, harea fun x => decide (0 < x.counts.unack), ?_, beq_iff_eq, ?_, ?_,
    harea fun x => decide (0 < x.counts.deferred),
    harea fun x => decide (0 < x.counts.shelved) || decide (0 < x.counts.removed),
    harea fun x => decide (0 < x.counts.suppressed), ?_, ?_, ?_, beq_iff_eq, ?_⟩
  · rw [← hasPoint_iff hd]
    simp only [Part.lampSource, PointState.unacked_eq, beq_eq_decide]
  · rw [← hasPoint_iff hd]
    simp only [Part.lampSource, beq_eq_decide]
  · rw [← harea]
    simp only [Part.lampSource, beq_eq_decide]
  · simp [Part.lampSource, List.any_eq_true, Config.nAreas]
  · simp [Part.lampSource, List.any_eq_true, Config.nSessions]
  · simp [Part.lampSource]
  · simp [Part.lampSource, List.any_eq_true, Config.nAreas]
  · simp [Part.lampSource]

/-! ### The outputs -/

theorem Part.outputs_off {s : Part} (h : s.phase ≠ .running) (d : Nat) :
    s.hornOut d = false ∧ ∀ k ∈ numbers 4, s.lampOut d k = false := by
  simp [Part.hornOut, Part.lampOut, h]

theorem Part.outputs_testing {s : Part} {d : Nat} (hreset : s.resetLow = false) (hrun : s.phase = .running)
    (htest : (s.desk d).lampTest.remaining ≠ 0) :
    s.hornOut d = decide ((s.desk d).phase < 25) ∧ ∀ k, s.lampOut d k = true := by
  simp [Part.hornOut, Part.lampOut, hreset, hrun, Desk.testing, htest, onEighth]

theorem Part.outputs_running {s : Part} {d : Nat} (hreset : s.resetLow = false) (hrun : s.phase = .running)
    (htest : (s.desk d).lampTest.remaining = 0) :
    (s.hornOut d = true ↔ (s.desk d).horn = .sounding ∧ HornPatternOn (s.desk d).hornPattern (s.desk d).phase)
    ∧ ((s.desk d).lampsFollow = false → ∀ k ∈ numbers 4, s.lampOut d k = false)
    ∧ ((s.desk d).lampsFollow = true → ∀ k ∈ numbers 4, (s.lampOut d k = true ↔
        s.lampSource d (getAt (s.desk d).lamps k).source ≠ (getAt (s.desk d).lamps k).invert
          ∧ LampPatternOn (getAt (s.desk d).lamps k).pattern (s.desk d).phase)) := by
  refine ⟨?_, fun hfollow k _ => ?_, fun hfollow k _ => ?_⟩
  · rw [← hornPatternOn_iff]
    simp [Part.hornOut, hreset, hrun, Desk.testing, htest]
  · simp [Part.lampOut, hreset, hrun, Desk.testing, htest, hfollow]
  · rw [← lampPatternOn_iff]
    simp [Part.lampOut, hreset, hrun, Desk.testing, htest, hfollow]

/-! ### The frame boundary -/

/-- R126, R127, R130: what a desk takes at its frame boundary. -/
def Part.adopted (s : Part) (d : Nat) (x : Desk) : Desk :=
  { x with
    boundaryDue := false
    lamps := (getAt s.live.desks d).lamps
    lampsFollow := s.phase == .running
    hornPattern := if x.horn = .sounding then s.wantedPattern d else x.hornPattern }

theorem Part.frameBoundary_eq (s : Part) (d : Nat) :
    s.frameBoundary d = closeEvent s [] (s.modDesk d (s.adopted d)) := rfl

theorem Part.adopted_hornOk {s : Part} {d : Nat} {x : Desk} (ok : x.HornOk) : (s.adopted d x).HornOk := by
  obtain ⟨hhorn, hpattern⟩ := ok
  refine ⟨hhorn, fun h => ?_⟩
  have hx : x.horn ≠ .sounding := h
  unfold Part.adopted
  dsimp only
  rw [if_neg hx]
  exact hpattern hx

theorem Part.frameBoundary_desk {s : Part} {d : Nat} (hd : d ∈ numbers 6) (ok : (s.desk d).HornOk) :
    (s.frameBoundary d).desk d = s.adopted d (s.desk d) := by
  have hdesk := s.modDesk_desk_same (s.adopted d) hd
  rw [s.frameBoundary_eq, closeEvent_desk_ok s [] hd (by rw [hdesk]; exact s.adopted_hornOk ok), hdesk]

/-- Settles O6: the outputs by their definitions, the boundary as an event of one desk. -/
theorem frameBoundaryAdopts : Obligations.FrameBoundaryAdopts := by
  refine ⟨fun x => ⟨x.hornFromSlots_off, x.hornFromSlots_sounding⟩, fun s d hd => s.sourcesFollow hd,
    fun s d h => Part.outputs_off h d, fun s d hreset hrun htest => Part.outputs_running hreset hrun htest,
    fun s d hreset hdesk => ⟨fun hdue => ?_, fun hdue ok => ?_⟩⟩
  · exact completes_notDue (c := fun p => isDesk d && (p.desk d).boundaryDue) (f := fun p => p.frameBoundary d)
      (fun _ => rfl) hreset (by simp [hdue])
  · have hd := (isDesk_iff d).1 hdesk
    have hadopted := Part.frameBoundary_desk hd ok
    have hevent := modDesk_deskEvent s d (s.adopted d) []
    rw [← s.frameBoundary_eq] at hevent
    refine ⟨s.frameBoundary d, ?_, ?_, fun h => ?_, fun h => ?_, hevent.fixed, hevent.people, hevent.points,
      hevent.areas, hevent.shelf, hevent.sessions, ?_, hevent.wrote, hevent.others⟩
    · exact completes_due (c := fun p => isDesk d && (p.desk d).boundaryDue) (f := fun p => p.frameBoundary d)
        (fun _ => rfl) hreset (by simp [hdue, hdesk]) rfl
    · rw [hadopted]
      rfl
    · rw [hadopted]
      unfold Part.adopted
      dsimp only
      rw [if_neg h]
      exact ok.2 h
    · rw [hadopted]
      unfold Part.adopted
      dsimp only
      rw [if_pos h]
      exact s.wantedPattern_wants d (ok.1 ▸ h)
    · rw [s.frameBoundary_eq, closeEvent_lif]
      rfl

end Sys2Proof.Machine
end

section
/-! Silencing, the silence hold and the lamp test. -/

namespace Sys2Proof.Machine

/-! ### Refusals -/

/-- R39, R59, R79, R91, R151: a refusal that is journaled writes its one record. -/
theorem Part.refuse_onlyWrote {r : ResultCode} (hr : r.journaled = true) (s : Part) (d a p pr : Nat) :
    s.OnlyWrote (s.refuse d a p pr r) (s.records [(false, s.generationOf a,
      { kind := .refusal, area := a, desk := d, credential := (s.desk d).signedOn, point := p, priority := pr
        value := w16 r.code })]) := by
  unfold Part.refuse
  rw [if_pos hr]
  exact closeEvent_onlyWrote rfl (s.write_recorded false _) rfl rfl

theorem Part.refuse_lif (s : Part) (d a p pr : Nat) (r : ResultCode) : (s.refuse d a p pr r).lif = s.lif := by
  unfold Part.refuse
  split
  · rw [closeEvent_lif]
    rfl
  · rfl

theorem Part.buttonIdle_onlyWrote (s : Part) (d value : Nat) :
    s.OnlyWrote (s.buttonIdle d value) (s.records [(false, 0,
      { kind := .buttonIdle, desk := d, credential := (s.desk d).signedOn, value := w16 value })]) :=
  closeEvent_onlyWrote rfl (s.write_recorded_plain _ rfl) rfl rfl

theorem Part.buttonIdle_lif (s : Part) (d value : Nat) : (s.buttonIdle d value).lif = s.lif := by
  unfold Part.buttonIdle
  rw [closeEvent_lif]
  rfl

/-! ### The flags of a desk's slots -/

/-- The slots of a desk with every silenced flag set to `v`. -/
def Desk.flagged (x : Desk) (v : Bool) : Vector (Option Slot) 4 :=
  x.slots.map fun o => o.map fun y => { y with silenced := v }

theorem Part.setSilenced_eq (s : Part) (d : Nat) (v : Bool) :
    s.setSilenced d v = s.modDesk d fun x => { x with slots := x.flagged v } := rfl

theorem filterMap_flagged (l : List (Option Slot)) (v : Bool) :
    (l.map fun o => o.map fun y => { y with silenced := v }).filterMap id =
      (l.filterMap id).map fun y => ({ y with silenced := v } : Slot) := by
  induction l with
  | nil => rfl
  | cons o l ih =>
    cases o with
    | none => simpa using ih
    | some y => simpa using ih

/-- R125: the occupants of a desk after its flags were set. -/
theorem Desk.flagged_occupants (x z : Desk) (v : Bool) (h : z.slots = x.flagged v) :
    z.occupants = x.occupants.map fun y => ({ y with silenced := v } : Slot) := by
  unfold Desk.occupants
  rw [h, Desk.flagged, Vector.toList_map, filterMap_flagged]

theorem Desk.flagged_silenced {x z : Desk} (hocc : x.occupants ≠ []) (h : z.slots = x.flagged true) :
    z.hornFromSlots = .silenced := by
  have hz := x.flagged_occupants z true h
  cases hhorn : z.hornFromSlots with
  | silenced => rfl
  | off => exact absurd ((Desk.hornFromSlots_off z).1 hhorn) (by rw [hz]; simpa using hocc)
  | sounding =>
    obtain ⟨y, hy, hflag⟩ := (Desk.hornFromSlots_sounding z).1 hhorn
    rw [hz] at hy
    obtain ⟨_, _, rfl⟩ := List.mem_map.1 hy
    simp at hflag

theorem Desk.flagged_sounding {x z : Desk} {y : Slot} (hy : y ∈ x.occupants) (h : z.slots = x.flagged false) :
    z.hornFromSlots = .sounding := by
  refine (Desk.hornFromSlots_sounding z).2 ⟨{ y with silenced := false }, ?_, rfl⟩
  rw [x.flagged_occupants z false h]
  exact List.mem_map.2 ⟨y, hy, rfl⟩

theorem closeEvent_desk_horn (s t : Part) (extra : List ReportEntry) {d : Nat} (hd : d ∈ numbers 6) :
    (closeEvent s extra t).desk d = { t.desk d with horn := (t.hornAfter d).1, hornPattern := (t.hornAfter d).2 } := by
  obtain ⟨h1, h2⟩ := (mem_numbers d).1 hd
  rw [closeEvent_desk, t.refreshHorns_desk d h1 h2]

theorem Part.hornAfter_silenced {s : Part} {d : Nat} (h : (s.desk d).hornFromSlots = .silenced) :
    s.hornAfter d = (.silenced, 0) := by
  unfold Part.hornAfter
  rw [h]

theorem Part.hornAfter_sounding {s : Part} {d : Nat} (h : (s.desk d).hornFromSlots = .sounding) :
    (s.hornAfter d).1 = .sounding := by
  unfold Part.hornAfter
  rw [h]

/-! ### Silencing -/

/-- R122: desk `x` after a silence that passes, but for its horn. -/
def Desk.hushed (x : Desk) (hold : Nat) : Desk := { x with slots := x.flagged true, hold := Timer.load hold }

theorem Part.silenceDesk_eq (s : Part) (d : Nat) :
    s.silenceDesk d = closeEvent s [deskEntry d] (s.modDesk d fun x => x.hushed (s.holdTime d)) := by
  unfold Part.silenceDesk
  rw [s.setSilenced_eq, Part.modDesk_modDesk]
  rfl

theorem Part.silenceDesk_lif (s : Part) (d : Nat) : (s.silenceDesk d).lif = s.lif := by
  rw [s.silenceDesk_eq, closeEvent_lif]
  rfl

theorem Part.silenceDesk_silenced {s : Part} {d : Nat} (hd : d ∈ numbers 6) (hocc : (s.desk d).occupants ≠ []) :
    s.Silenced (s.silenceDesk d) d := by
  have hevent := modDesk_deskEvent s d (fun x => x.hushed (s.holdTime d)) [deskEntry d]
  have hdesk := s.modDesk_desk_same (fun x => x.hushed (s.holdTime d)) hd
  rw [s.silenceDesk_eq]
  refine ⟨?_, hevent.wrote, hevent.fixed, hevent.people, hevent.points, hevent.areas, hevent.shelf, hevent.sessions,
    hevent.others, closeEvent_tells_desk hd (.inr List.mem_cons_self)⟩
  rw [closeEvent_desk_horn s _ _ hd, Part.hornAfter_silenced (Desk.flagged_silenced hocc (by rw [hdesk]; rfl)), hdesk]
  rfl

theorem Part.maySilence_iff {s : Part} {d : Nat} (hd : d ∈ numbers 6) : s.maySilence d = true ↔
    ∃ a ∈ numbers 16, (s.area a).pdesk = d ∧ allows (s.topLayer d) Perm.silence.set a = true := any_deskAreas hd _

/-- R122: the checks of a silence, in order. -/
theorem Part.silenceCheck_eq (s : Part) {d : Nat} (hd : d ∈ numbers 6) :
    ((s.desk d).signedOn = 0 → s.silenceCheck d = some .notSignedOn)
    ∧ ((s.desk d).signedOn ≠ 0 → (s.desk d).occupants = [] → s.silenceCheck d = some .repeated)
    ∧ ((s.desk d).signedOn ≠ 0 → (s.desk d).occupants ≠ [] →
        (¬∃ a ∈ numbers 16, (s.area a).pdesk = d ∧ allows (s.topLayer d) Perm.silence.set a = true) →
        s.silenceCheck d = some .denied)
    ∧ ((s.desk d).signedOn ≠ 0 → (s.desk d).occupants ≠ [] →
        (∃ a ∈ numbers 16, (s.area a).pdesk = d ∧ allows (s.topLayer d) Perm.silence.set a = true) →
        s.silenceCheck d = none) := by
  rw [← s.maySilence_iff hd]
  unfold Part.silenceCheck
  refine ⟨fun h => if_pos h, fun hon hocc => ?_, fun hon hocc hmay => ?_, fun hon hocc hmay => ?_⟩
  · simp [hon, hocc]
  · simp [hon, hocc, hmay]
  · simp [hon, hocc, hmay]

/-- What a request changes outside the Link Interface, it changes with its answer in the slot. -/
theorem Part.WroteAnd.answered {s t : Part} {l : List JournalRecord} {extra : List ReportEntry}
    (h : s.taken.WroteAnd t l extra) {x : Lif} (hlink : x.link = t.lif.link) :
    s.WroteAnd { t with lif := x } l extra := by
  obtain ⟨hrec, hrep⟩ := h
  refine ⟨hrec, ?_⟩
  have hs := Part.Reported.ofTaken hrep
  have he : eventReports s { t with lif := x } extra = eventReports s t extra := eventReports_lif s t extra x hlink
  unfold Part.Reported at hs ⊢
  rw [he]
  exact hs

theorem Part.answer_link (s : Part) (k : ReqKind) (tag : Byte) (reply : List Byte) :
    (s.answer k tag reply).link = s.lif.link := rfl

theorem Part.OnlyWrote.answered {s t : Part} {l : List JournalRecord} (h : s.taken.OnlyWrote t l) {x : Lif}
    (hlink : x.link = t.lif.link) : s.OnlyWrote { t with lif := x } l := by
  obtain ⟨hwrote, hframe⟩ := h
  exact ⟨Part.WroteAnd.answered hwrote hlink, hframe⟩

theorem DeskEvent.answered {s t : Part} {d : Nat} {l : List JournalRecord} {extra : List ReportEntry}
    (h : DeskEvent s.taken t d l extra) {x : Lif} (hlink : x.link = t.lif.link) :
    DeskEvent s { t with lif := x } d l extra :=
  ⟨h.wrote.answered hlink, h.fixed, h.people, h.points, h.areas, h.shelf, h.sessions, h.others⟩

theorem Part.Silenced.answered {s t : Part} {d : Nat} (h : s.taken.Silenced t d) {x : Lif} (hlink : x.link = t.lif.link) :
    s.Silenced { t with lif := x } d := by
  obtain ⟨hdesk, hwrote, hrest⟩ := h
  exact ⟨hdesk, hwrote.answered hlink, hrest⟩

theorem silenceHandler_passes {s : Part} {body : List Byte} (hd : isDesk (byteAt body 0) = true)
    (h : s.silenceCheck (byteAt body 0) = none) :
    silenceHandler body s = (s.silenceDesk (byteAt body 0), 0 :: be16 (s.holdTime (byteAt body 0))) := by
  simp only [silenceHandler, hd, h]
  rfl

/-- R118: a press that is due, in RUNNING or discarded. -/
theorem Part.inRunning_eq (s : Part) (f : Part → Part) :
    s.inRunning f = if s.phase = .running then f s else s := rfl

/-- The part with one SILENCE press of desk `d` taken. -/
def Part.silTaken (s : Part) (d : Nat) : Part := s.modDesk d fun x => { x with silPresses := x.silPresses - 1 }

theorem completes_silencePress {s t : Part} {d : Nat} (hreset : s.resetLow = false) (hdesk : isDesk d = true)
    (hdue : (s.desk d).silPresses ≠ 0) (h : (s.silTaken d).inRunning (fun q => q.silencePress d) = t) :
    Completes (.silencePress d) s t :=
  completes_due (c := fun p => isDesk d && decide (0 < (p.desk d).silPresses))
    (f := fun p => (p.silTaken d).inRunning fun q => q.silencePress d) (fun _ => rfl) hreset
    (by simp [hdesk, Nat.pos_of_ne_zero hdue]) h

/-- Settles O23: the checks of R122 in order, for the request and for the press. -/
theorem silenceRequestAndPress : Obligations.SilenceRequestAndPress := by
  refine ⟨fun s tag body h => ?_, fun s d hreset hdesk hdue => ?_⟩
  · intro d hdesk hon hocc hmay
    have hd := (isDesk_iff _).1 hdesk
    have hcheck := (s.taken.silenceCheck_eq hd).2.2.2 hon hocc hmay
    have hlif := s.taken.silenceDesk_lif d
    refine ⟨_, completes_answered (c := .silence) (fun _ => rfl) h (silenceHandler_passes hdesk hcheck) hlif, rfl, ?_⟩
    exact (Part.silenceDesk_silenced (s := s.taken) hd hocc).answered (by rw [Part.answer_link, hlif]; rfl)
  · intro u c may
    have hd := (isDesk_iff _).1 hdesk
    have hdeskU : u.desk d = { s.desk d with silPresses := (s.desk d).silPresses - 1 } := s.modDesk_desk_same _ hd
    have htop : u.topLayer d = s.topLayer d := by
      unfold Part.topLayer
      rw [hdeskU]
    obtain ⟨hoff, hempty, hdenied, hpass⟩ := u.silenceCheck_eq hd
    have hrunning : s.phase = .running → u.inRunning (fun q => q.silencePress d) = u.silencePress d := fun hrun =>
      (u.inRunning_eq _).trans (if_pos hrun)
    have hsignedOn : (u.desk d).signedOn = c := by rw [hdeskU]
    have hocc : (u.desk d).occupants = (s.desk d).occupants := by rw [hdeskU]; rfl
    rw [hsignedOn, hocc, htop] at hdenied hpass
    rw [hsignedOn] at hoff hempty
    rw [hocc] at hempty
    refine ⟨fun hrun => ?_, fun hrun hon hslots hmay => ?_, fun hrun hon hslots => ?_, fun hrun hno => ?_⟩
    · exact completes_silencePress hreset hdesk hdue ((u.inRunning_eq _).trans (if_neg hrun))
    · have hpress : u.silencePress d = u.silenceDesk d := by
        unfold Part.silencePress
        rw [hpass hon hslots hmay]
      refine ⟨u.silenceDesk d, completes_silencePress hreset hdesk hdue ((hrunning hrun).trans hpress), u.silenceDesk_lif d, ?_⟩
      exact Part.silenceDesk_silenced hd (by rw [hocc]; exact hslots)
    · have hpress : u.silencePress d = u.buttonIdle d 2 := by
        unfold Part.silencePress
        rw [hempty hon hslots]
      refine ⟨u.buttonIdle d 2, completes_silencePress hreset hdesk hdue ((hrunning hrun).trans hpress), u.buttonIdle_lif d 2, ?_⟩
      have hwrote := u.buttonIdle_onlyWrote d 2
      rw [hsignedOn] at hwrote
      exact hwrote
    · have hpress : u.silencePress d = u.refuse d 0 0 0 .denied := by
        unfold Part.silencePress
        by_cases hc : c = 0
        · rw [hoff hc]
        · obtain ⟨hslots, hmay⟩ := hno.resolve_left hc
          rw [hdenied hc hslots hmay]
      refine ⟨u.refuse d 0 0 0 .denied, completes_silencePress hreset hdesk hdue ((hrunning hrun).trans hpress),
        u.refuse_lif d 0 0 0 .denied, ?_⟩
      have hwrote := Part.refuse_onlyWrote (r := .denied) rfl u d 0 0 0
      rw [hsignedOn] at hwrote
      exact hwrote

/-! ### The silence hold -/

theorem Part.holdExpires_quiet {s : Part} {d : Nat} (h : ∀ x ∈ (s.desk d).occupants, (s.point x.point).state ≠ .unack) :
    s.holdExpires d = s.modDesk d fun x => { x with hold := Timer.idle } := by
  refine if_neg ?_
  simpa [List.any_eq_true] using h

theorem Part.holdExpires_unack {s : Part} {d : Nat} (h : ∃ x ∈ (s.desk d).occupants, (s.point x.point).state = .unack) :
    s.holdExpires d = closeEvent s [deskEntry d]
      (s.modDesk d fun x => { x with hold := Timer.idle, slots := x.flagged false }) := by
  have hany : ((s.desk d).occupants.any fun y => (s.point y.point).state == .unack) = true := by
    simpa [List.any_eq_true] using h
  unfold Part.holdExpires
  dsimp only
  rw [if_pos hany, Part.setSilenced_eq, Part.modDesk_modDesk]
  rfl

/-- R123, R129: an expiry of desk `d` that is due. -/
theorem completes_holdExpires {s t : Part} {d : Nat} (hreset : s.resetLow = false) (hdesk : isDesk d = true)
    (hdue : (s.desk d).hold.due = true) (h : s.holdExpires d = t) : Completes (.silenceHoldExpiry d) s t :=
  completes_due (c := fun p => isDesk d && (p.desk d).hold.due) (f := fun p => p.holdExpires d) (fun _ => rfl) hreset
    (by simp [hdesk, hdue]) h

/-! ### The lamp test -/

theorem lampTestSeconds_eq (n : Nat) : lampTestSeconds n = if n = 0 then 1 else if 60 < n then 60 else n := by
  unfold lampTestSeconds
  split_ifs <;> omega

/-- R129: the lamp-test timer of desk `d` took the value `x`, and its DESK report was queued. -/
structure LampTested (s t : Part) (d : Nat) (x : Timer) : Prop where
  desk : t.desk d =
    { s.desk d with lampTest := x, horn := (t.desk d).horn, hornPattern := (t.desk d).hornPattern }
  moved : s.HornMoved t d
  event : DeskEvent s t d [] [deskEntry d]
  told : t.Told (deskEntry d)

theorem setLampTest_tested (s : Part) {d : Nat} (hd : d ∈ numbers 6) (x : Timer) :
    LampTested s (closeEvent s [deskEntry d] (s.modDesk d fun y => { y with lampTest := x })) d x where
  desk := by
    have h := closeEvent_desk_rest s (s.modDesk d fun y => { y with lampTest := x }) [deskEntry d] hd
    rwa [s.modDesk_desk_same _ hd] at h
  moved := modDesk_hornMoved s _ _ hd rfl rfl
  event := modDesk_deskEvent s d _ _
  told := closeEvent_tells_desk hd (.inr List.mem_cons_self)

theorem LampTested.answered {s t : Part} {d : Nat} {x : Timer} (h : LampTested s.taken t d x) {l : Lif}
    (hlink : l.link = t.lif.link) : LampTested s { t with lif := l } d x :=
  ⟨h.desk, h.moved, h.event.answered hlink, h.told⟩

/-- Settles O24: each expiry and each start is an event of one desk. -/
theorem silenceHoldsAndLampTestsRunOut : Obligations.SilenceHoldsAndLampTestsRunOut := by
  refine ⟨fun s d hreset hdesk => ?_, fun s tag body h hdesk => ?_,
    fun s d hreset hrun htest => Part.outputs_testing hreset hrun htest, fun s d hreset hdesk => ?_⟩
  · intro idle
    have hd := (isDesk_iff d).1 hdesk
    refine ⟨fun hdue => ?_, fun hdue hnone => ?_, fun hdue hsome => ?_⟩
    · exact completes_notDue (c := fun p => isDesk d && (p.desk d).hold.due) (f := fun p => p.holdExpires d)
        (fun _ => rfl) hreset (by simp [hdue])
    · exact completes_holdExpires hreset hdesk hdue (Part.holdExpires_quiet hnone)
    · let f : Desk → Desk := fun x => { x with hold := Timer.idle, slots := x.flagged false }
      have hevent := modDesk_deskEvent s d f [deskEntry d]
      have hdeskU := s.modDesk_desk_same f hd
      obtain ⟨x, hx, _⟩ := id hsome
      have hsounding : ((s.modDesk d f).hornAfter d).1 = .sounding :=
        Part.hornAfter_sounding (Desk.flagged_sounding hx (by rw [hdeskU]))
      refine ⟨_, completes_holdExpires hreset hdesk hdue (Part.holdExpires_unack hsome), ?_,
        modDesk_hornMoved s f _ hd rfl rfl, hevent.wrote, hevent.fixed, hevent.people, hevent.points, hevent.areas,
        hevent.shelf, hevent.sessions, closeEvent_lif .., hevent.others,
        closeEvent_tells_desk hd (.inr List.mem_cons_self)⟩
      show (closeEvent s [deskEntry d] (s.modDesk d f)).desk d =
        { s.desk d with
          hold := idle, horn := .sounding
          hornPattern := ((closeEvent s [deskEntry d] (s.modDesk d f)).desk d).hornPattern
          slots := (s.desk d).flagged false }
      rw [closeEvent_desk_horn s _ _ hd, hsounding, hdeskU]
      rfl
  · have hd := (isDesk_iff _).1 hdesk
    intro d n
    have hhandler : lampTestHandler body s.taken =
        (closeEvent s.taken [deskEntry d] (s.taken.modDesk d fun y => { y with lampTest := Timer.load n }),
          [0, byteOf n]) := by
      simp only [lampTestHandler, lampTestSeconds_eq, hdesk]
      rfl
    have hlif := closeEvent_lif s.taken [deskEntry d] (s.taken.modDesk d fun y => { y with lampTest := Timer.load n })
    obtain ⟨hdeskT, hmoved, hevent, htold⟩ := (setLampTest_tested s.taken hd (Timer.load n)).answered
      (l := s.answer .lampTest tag [0, byteOf n]) (by rw [Part.answer_link, hlif]; rfl)
    exact ⟨_, completes_answered (c := .lampTest) (fun _ => rfl) h hhandler hlif, rfl, hdeskT, hmoved, hevent.wrote,
      hevent.fixed, hevent.people, hevent.points, hevent.areas, hevent.shelf, hevent.sessions, hevent.others, htold⟩
  · have hd := (isDesk_iff d).1 hdesk
    refine ⟨fun hdue => ?_, fun hdue => ?_⟩
    · exact completes_notDue (c := fun p => isDesk d && (p.desk d).lampTest.due) (f := fun p => p.lampTestExpires d)
        (fun _ => rfl) hreset (by simp [hdue])
    · obtain ⟨hdeskT, hmoved, hevent, htold⟩ := setLampTest_tested s hd Timer.idle
      refine ⟨s.lampTestExpires d, ?_, hdeskT, hmoved, hevent.wrote, hevent.fixed, hevent.people, hevent.points,
        hevent.areas, hevent.shelf, hevent.sessions, ?_, hevent.others, htold⟩
      · exact completes_due (c := fun p => isDesk d && (p.desk d).lampTest.due) (f := fun p => p.lampTestExpires d)
          (fun _ => rfl) hreset (by simp [hdesk, hdue]) rfl
      · exact closeEvent_lif ..

end Sys2Proof.Machine
end

section
/-! A condition for a point out of annunciation, and the staged writes of LOADING. -/

namespace Sys2Proof.Machine

/-! ### R47: the shadow of a point out of annunciation -/

/-- R47: the point is SHELVED, REMOVED or SUPPRESSED. -/
abbrev PointState.out (st : PointState) : Prop := st = .shelved ∨ st = .removed ∨ st = .suppressed

theorem conditionChange_out {s : Part} {p : Nat} (h : (s.point p).state.out) :
    s.conditionChange p = s.modPoint p fun x => { x with shadow := !x.shadow, lastChange := s.now } := by
  rw [Part.conditionChange]
  rcases h with h | h | h <;> rw [h]

theorem conditionHeld_out {s : Part} {p : Nat} (h : (s.point p).state.out) (active : Bool) :
    s.conditionHeld p active = ((s.point p).shadow == active) := by
  rw [Part.conditionHeld]
  rcases h with h | h | h <;> rw [h]

theorem shadowChange {s : Part} {p : Nat} (hp : s.InPlant p) (h : (s.point p).state.out) {active : Bool}
    (hshadow : (s.point p).shadow ≠ active) :
    StillChange s (s.conditionChange p) p { s.point p with shadow := active, lastChange := s.now }
      (s.area (s.pointS p).area).counts := by
  rw [conditionChange_out h]
  have hin := (mem_numbers p).1 hp.point_mem
  refine ⟨?_, fun q hq => ?_, rfl, fun _ _ => rfl⟩
  · rw [Part.modPoint_point, if_pos ⟨rfl, hin⟩, Bool.not_eq.2 hshadow]
  · rw [Part.modPoint_point, if_neg fun hc => hq hc.1.symm]

theorem StillChange.insignificant {s u : Part} {p : Nat} {x : Point} {c : Counts} (h : StillChange s u p x c)
    (hst : x.state = (s.point p).state) : s.significantBy u p = false := by
  rw [Part.significantBy, h.entered, h.point, hst]
  simp

/-- R47: the event of a condition that changes the shadow alone. -/
theorem ConditionDone.shadowed {s u t : Part} {p : Nat} {active : Bool}
    (hu : StillChange s u p { s.point p with shadow := active, lastChange := s.now } (s.area (s.pointS p).area).counts)
    (h : ConditionDone s u t p ((if active then 256 else 0) + (s.point p).state.code))
    (hshadow : (s.point p).shadow ≠ active) : s.Shadowed t p active := by
  have hsig : s.significantBy u p = false := hu.insignificant rfl
  have hpoint : ∀ q, t.point q = u.point q := fun q => congrArg (getAt · q) h.points
  have harea : ∀ b, t.area b = s.area b := by
    intro b
    by_cases hb : b = (s.pointS p).area
    · rw [hb, h.area, hsig, hu.area]
      rfl
    · rw [h.others b hb, hu.otherAreas b hb]
  have hwrote := h.wrote
  have hnoticed := h.sessions
  rw [hsig] at hwrote hnoticed
  rw [hu.entered] at hwrote
  refine ⟨(hpoint p).trans hu.point, hwrote, table_ext _ _ fun b _ _ => harea b, h.shelf, ?_,
    ⟨h.fixed, h.people, ⟨fun q _ hq => (hpoint q).trans (hu.otherPoints q hq), fun b _ _ => harea b⟩, h.desks⟩, h.told ?_⟩
  · refine table_ext _ _ fun n hlow hhigh => ?_
    have hn := hnoticed n ((mem_numbers n).2 ⟨hlow, hhigh⟩)
    exact (by simpa using hn : t.session n = s.session n)
  · rw [hu.point, pointReported_iff]
    exact fun hsame => hshadow hsame.2.1

/-- Settles O17: out of annunciation the change of a condition is that of the shadow (`shadowChange`), which is not
significant. -/
theorem conditionOutOfAnnunciationChangesTheShadow : Obligations.ConditionOutOfAnnunciationChangesTheShadow := by
  intro s tag body h hlen hcode hp hst
  have hc : byteAt body 2 = (byteAt body 2 == 1).toNat := by
    rcases Nat.le_one_iff_eq_zero_or_eq_one.1 hcode with h0 | h1
    · rw [h0]; rfl
    · rw [h1]; rfl
  generalize (byteAt body 2 == 1) = active at hc ⊢
  have hinForce : (s.point (field16 body 0)).state ≠ .normal := by
    rcases hst with h' | h' | h' <;> rw [h'] <;> decide
  refine ⟨fun hshadow => ?_, fun hshadow => ?_⟩
  · have hu := shadowChange (s := s.taken) hp hst hshadow
    obtain ⟨t, hcomp, hlif, hdone⟩ := completes_conditions_event h hlen hp hc hinForce
      (by rw [conditionHeld_out hst]; exact beq_eq_false_iff_ne.2 hshadow)
      (hu.conditionChange (by rw [conditionChange_out (s := s.taken) hst]; rfl))
    refine ⟨t, hcomp, hlif, ConditionDone.shadowed hu.ofTaken ?_ hshadow⟩
    have hvalue : 256 * (if active = true then 1 else 0)
        + ((s.taken.conditionChange (field16 body 0)).point (field16 body 0)).state.code
        = (if active = true then 256 else 0) + (s.point (field16 body 0)).state.code := by
      rw [hu.point]
      cases active <;> rfl
    rwa [hvalue] at hdone
  · refine completes_conditions_repeated h hlen hp hc ?_
    rw [conditionHeld_out hst]
    exact beq_iff_eq.2 hshadow

/-! ### R19, R185, R186: the staged copy in LOADING -/

theorem field16_lt (body : List Byte) (i : Nat) : field16 body i < 65536 := by
  have h := byteAt_lt body i
  have h1 := byteAt_lt body (i + 1)
  rw [field16]
  omega

theorem permBitsOk_word16 (body : List Byte) (i : Nat) : permBitsOk (word16 body i) = true ↔ field16 body i < 4096 := by
  rw [permBitsOk, word16, w16, BitVec.toNat_ofNat, Nat.mod_eq_of_lt (field16_lt body i), decide_eq_true_iff]

theorem within_iff (lo hi n : Nat) : within lo hi n = true ↔ lo ≤ n ∧ n ≤ hi := by
  rw [within, Bool.and_eq_true, decide_eq_true_iff, decide_eq_true_iff]

/-- R186: a request whose block stages `f` when its check `ok` passes. -/
theorem completes_stage {k : ReqKind} {c : Instr} {f : Handler} {s : Part} {tag : Byte} {body : List Byte} {ok : Bool}
    {g : Cfg → Cfg} (hexec : ∀ u, exec c u = onRequest k f u) (h : s.Takes k tag body)
    (hf : f body s.taken = s.taken.stage ok g) :
    (ok = false → Completes c s { s with lif := s.answer k tag [ResultCode.badField.byte] })
    ∧ (ok = true → Completes c s { s with staged := g s.staged, lif := s.answer k tag [0] }) := by
  refine ⟨fun hok => ?_, fun hok => ?_⟩
  · exact completes_unchanged hexec h (by rw [hf, hok]; rfl)
  · exact completes_answered hexec h (u := s.taken.modStaged g) (by rw [hf, hok]; rfl) rfl

/-- R186: the same, with the check stated as a proposition and the new staged copy given. -/
theorem completes_stage_iff {k : ReqKind} {c : Instr} {f : Handler} {s : Part} {tag : Byte} {body : List Byte} {ok : Bool}
    {g : Cfg → Cfg} {P : Prop} {x : Cfg} (hexec : ∀ u, exec c u = onRequest k f u) (h : s.Takes k tag body)
    (hf : f body s.taken = s.taken.stage ok g) (hok : ok = true ↔ P) (hx : P → g s.staged = x) :
    (¬P → Completes c s { s with lif := s.answer k tag [ResultCode.badField.byte] })
    ∧ (P → Completes c s { s with staged := x, lif := s.answer k tag [0] }) := by
  obtain ⟨hbad, hgood⟩ := completes_stage hexec h hf
  refine ⟨fun hp => hbad (Bool.eq_false_iff.2 fun hc => hp (hok.1 hc)), fun hp => ?_⟩
  rw [← hx hp]
  exact hgood (hok.2 hp)

theorem plantOk_iff (body : List Byte) : plantOk (plantOf body) = true ↔
    (byteAt body 0 ≤ 15 ∧ byteAt body 1 ≤ 15 ∧ byteAt body 2 ≤ 15 ∧ byteAt body 3 ≤ 15)
      ∧ (30 ≤ field16 body 5 ∧ field16 body 5 ≤ 3600) ∧ (60 ≤ field16 body 7 ∧ field16 body 7 ≤ 7200)
      ∧ 1 ≤ byteAt body 10 ∧ byteAt body 10 ≤ 60 := by
  have hweights : (plantOf body).weights.all (· ≤ 15) = true ↔
      byteAt body 0 ≤ 15 ∧ byteAt body 1 ≤ 15 ∧ byteAt body 2 ≤ 15 ∧ byteAt body 3 ≤ 15 := by
    simp [plantOf, Vector.all]
  rw [plantOk, Bool.and_eq_true, Bool.and_eq_true, Bool.and_eq_true, within_iff, within_iff, within_iff, hweights, and_assoc,
    and_assoc]
  rfl

theorem pointOk_iff (body : List Byte) : pointOk body 0 = true ↔
    isPoint (field16 body 0) = true
      ∧ (byteAt body 2 = 0 ∨ byteAt body 2 = 1 ∧ byteAt body 5 ≤ 64 ∧ field16 body 6 ≤ 1440) := by
  rw [pointOk]
  simp only [Bool.and_eq_true, Bool.or_eq_true, beq_iff_eq, decide_eq_true_iff, Nat.zero_add, and_assoc]

theorem stagedCredentialOk_iff (body : List Byte) : stagedCredentialOk body = true ↔
    byteAt body 0 = 0 ∧ (1 ≤ byteAt body 1 ∧ byteAt body 1 ≤ 64) ∧ byteAt body 2 ≤ 1 ∧ field16 body 8 < 4096
      ∧ field16 body 10 < 4096 := by
  rw [stagedCredentialOk]
  simp only [Bool.and_eq_true, beq_iff_eq, decide_eq_true_iff, permBitsOk_word16, within_iff, and_assoc]

theorem lampOk_iff (body : List Byte) (i : Nat) : lampOk body i = true ↔
    byteAt body i ≤ 15 ∧ (byteAt body (i + 1) < 4 ∨ 128 ≤ byteAt body (i + 1) ∧ byteAt body (i + 1) < 132) := by
  have h := byteAt_lt body (i + 1)
  rw [lampOk, Bool.and_eq_true, decide_eq_true_iff, decide_eq_true_iff]
  omega

theorem configDeskOk_iff (body : List Byte) :
    (isDesk (byteAt body 0) && within 10 600 (field16 body 1) && [3, 5, 7, 9].all (lampOk body)) = true ↔
    isDesk (byteAt body 0) = true ∧ (10 ≤ field16 body 1 ∧ field16 body 1 ≤ 600)
      ∧ ∀ i ∈ [3, 5, 7, 9], byteAt body i ≤ 15
        ∧ (byteAt body (i + 1) < 4 ∨ 128 ≤ byteAt body (i + 1) ∧ byteAt body (i + 1) < 132) := by
  rw [Bool.and_eq_true, Bool.and_eq_true, within_iff, List.all_eq_true, and_assoc]
  simp only [lampOk_iff]

theorem LampPattern.ofCode_code {n : Nat} (h : n < 4) : (LampPattern.ofCode n).code = n := by
  have hn : n = 0 ∨ n = 1 ∨ n = 2 ∨ n = 3 := by omega
  rcases hn with rfl | rfl | rfl | rfl <;> rfl

/-- R186: the lamp that a CONFIG_DESK body stages. -/
theorem lampOf_fields {body : List Byte} {i : Nat} (h : lampOk body i = true) :
    (lampOf body i).source = byteAt body i ∧ (lampOf body i).invert = decide (128 ≤ byteAt body (i + 1))
      ∧ (lampOf body i).pattern.code = byteAt body (i + 1) % 128 := by
  rw [lampOk, Bool.and_eq_true, decide_eq_true_iff, decide_eq_true_iff] at h
  refine ⟨rfl, rfl, ?_⟩
  show (LampPattern.ofCode (byteAt body (i + 1) % 4)).code = _
  rw [LampPattern.ofCode_code (Nat.mod_lt _ (by omega))]
  omega

theorem deskOf_lamps {body : List Byte} (h : [3, 5, 7, 9].all (lampOk body) = true) {j : Nat} (hj : j ∈ numbers 4) :
    (getAt (deskOf body).lamps j).source = byteAt body (2 * j + 1)
      ∧ (getAt (deskOf body).lamps j).invert = decide (128 ≤ byteAt body (2 * j + 2))
      ∧ (getAt (deskOf body).lamps j).pattern.code = byteAt body (2 * j + 2) % 128 := by
  rw [List.all_eq_true] at h
  have hnum : j = 1 ∨ j = 2 ∨ j = 3 ∨ j = 4 := by
    have := (mem_numbers j).1 hj
    omega
  rcases hnum with rfl | rfl | rfl | rfl
  · exact lampOf_fields (h 3 (by decide))
  · exact lampOf_fields (h 5 (by decide))
  · exact lampOf_fields (h 7 (by decide))
  · exact lampOf_fields (h 9 (by decide))

theorem configPointsHandler_one {body : List Byte} (h : body.length = 8) (s : Part) :
    configPointsHandler body s = ((s.configPoint body 0).1, 0 :: (s.configPoint body 0).2) := by
  rw [configPointsHandler, h]
  rfl

theorem configPoints_loading {s : Part} {tag : Byte} {body : List Byte} (h : s.Takes .configPoints tag body)
    (hlen : body.length = 8) :
    (pointOk body 0 = false →
      Completes .configPoints s { s with lif := s.answer .configPoints tag [0, ResultCode.badField.byte] })
    ∧ (pointOk body 0 = true → Completes .configPoints s
        { s with
          lif := s.answer .configPoints tag [0, 0]
          staged := { s.staged with points := setAt s.staged.points (field16 body 0) (pointOf body 0) } }) := by
  have hexec : ∀ u, exec .configPoints u = onRequest .configPoints configPointsHandler u := fun _ => rfl
  refine ⟨fun hok => ?_, fun hok => ?_⟩
  · refine completes_unchanged hexec h ?_
    rw [configPointsHandler_one hlen, Part.configPoint, hok]
    rfl
  · refine completes_answered hexec h (u := s.taken.modStaged fun c =>
      { c with points := setAt c.points (field16 body 0) (pointOf body 0) }) ?_ rfl
    rw [configPointsHandler_one hlen, Part.configPoint, hok]
    rfl

/-- Settles O49: each block stages by `Part.stage`, and its check is the one stated. -/
theorem loadingWritesTheStagedCopy : Obligations.LoadingWritesTheStagedCopy := by
  intro s k tag body h hphase wrote refused b w
  refine ⟨?_, ?_, ?_, ?_, ?_, ?_⟩
  · rintro rfl
    exact completes_stage_iff (c := .configPlant) (f := configPlantHandler) (fun _ => rfl) h rfl (plantOk_iff body)
      fun _ => rfl
  · rintro rfl
    exact completes_stage (c := .configArea) (f := configAreaHandler) (fun _ => rfl) h rfl
  · rintro rfl hlen ok
    obtain ⟨hbad, hgood⟩ := configPoints_loading h hlen
    refine ⟨fun hno => hbad (Bool.eq_false_iff.2 fun hc => hno ((pointOk_iff body).1 hc)), fun hok => ?_⟩
    exact hgood ((pointOk_iff body).2 hok)
  · rintro rfl
    refine completes_stage_iff (c := .configRole) (f := configRoleHandler) (fun _ => rfl) h rfl ?_ fun _ => rfl
    rw [Bool.and_eq_true, within_iff, permBitsOk_word16]
  · rintro rfl
    refine completes_stage_iff (c := .configCredential) (f := configCredentialHandler) (g := fun c =>
        { c with
          creds := setAt c.creds (byteAt body 1) (if byteAt body 2 = 0 then Credential.vacant else credentialOf body) })
      (fun _ => rfl) h ?_ (stagedCredentialOk_iff body) fun hok => ?_
    · rw [configCredentialHandler, if_neg (by rw [show s.taken.phase = s.phase from rfl, hphase]; decide)]
      rfl
    · obtain ⟨_, _, hlow, _⟩ := hok
      have hstatus : byteAt body 2 ≠ 0 → byteAt body 2 = 1 := fun hne =>
        Nat.le_antisymm hlow (Nat.pos_of_ne_zero hne)
      refine congrArg (fun x => ({ s.staged with creds := setAt s.staged.creds (byteAt body 1) x } : Cfg)) ?_
      by_cases hvacant : byteAt body 2 = 0
      · rw [if_pos hvacant, if_pos hvacant]
        rfl
      · rw [if_neg hvacant, if_neg hvacant, credentialOf, hstatus hvacant]
        rfl
  · rintro rfl lamps ok
    obtain ⟨hbad, hgood⟩ := completes_stage (c := .configDesk) (f := configDeskHandler) (fun _ => rfl) h rfl
    refine ⟨fun hno => hbad (Bool.eq_false_iff.2 fun hc => hno ((configDeskOk_iff body).1 hc)), fun hok => ?_⟩
    have hcheck := (configDeskOk_iff body).2 hok
    refine ⟨deskOf body, hgood hcheck, rfl, fun j hj => deskOf_lamps ?_ hj⟩
    rw [Bool.and_eq_true] at hcheck
    exact hcheck.2

end Sys2Proof.Machine
end

section
/-! REVIEW_NEXT and REVIEW_DELTA (R139, R140, R142, R143). -/

namespace Sys2Proof.Machine

/-! ### The configured points of a plant -/

theorem zipIdx_map_range' {α : Type} (g : Nat → α) (n i : Nat) :
    ((List.range' i n).map g).zipIdx i = (List.range' i n).map fun p => (g p, p) := by
  induction n generalizing i with
  | zero => rfl
  | succ n ih => rw [List.range'_succ, List.map_cons, List.zipIdx_cons, ih, List.map_cons]

/-- R1: the configured points of a test, as the statements list them. -/
theorem configuredPoints_eq (s : Part) (f : PointStatic → Bool) :
    s.configuredPoints f = (numbers 1024).filter fun p => (s.pointS p).configured && f (s.pointS p) := by
  have hzip : s.live.points.toList.zipIdx 1 = (numbers 1024).map fun p => (s.pointS p, p) := by
    rw [toList_eq_map s.live.points]
    exact zipIdx_map_range' s.pointS 1024 1
  rw [Part.configuredPoints, hzip, List.filter_map, List.map_map]
  exact List.map_id _

theorem pointsFrom_eq (s : Part) (a cursor : Nat) :
    s.pointsFrom a cursor =
      (numbers 1024).filter fun p => (s.pointS p).configured && (s.pointS p).area == a && decide (cursor ≤ p) := by
  rw [Part.pointsFrom, Part.areaPoints, configuredPoints_eq, List.filter_filter]
  exact List.filter_congr fun p _ => Bool.and_comm _ _

/-! ### Reading a list up to a number of hits -/

/-- What a read of a list `l` that ends at its `n`-th hit does: the part read, the part left, and the hits taken. -/
structure ReadUpTo {α : Type} (hit : α → Bool) (n : Nat) (l read unread taken : List α) : Prop where
  split : l = read ++ unread
  hits : taken = read.filter hit
  most : taken.length ≤ n
  ended : unread ≠ [] → taken.length = n ∧ (read ≠ [] → ∃ last, read.getLast? = some last ∧ hit last = true)

namespace ReadUpTo

variable {α : Type} {hit : α → Bool} {n : Nat} {l read unread taken : List α}

theorem nothing (hit : α → Bool) (l : List α) : ReadUpTo hit 0 l [] l [] where
  split := rfl
  hits := rfl
  most := Nat.le_refl 0
  ended _ := ⟨rfl, fun h => absurd rfl h⟩

theorem all (hit : α → Bool) (n : Nat) : ReadUpTo hit n [] [] [] [] where
  split := rfl
  hits := rfl
  most := Nat.zero_le n
  ended h := absurd rfl h

theorem read_ne_nil (h : ReadUpTo hit (n + 1) l read unread taken) (hleft : unread ≠ []) : read ≠ [] := by
  rintro rfl
  obtain ⟨hlen, _⟩ := h.ended hleft
  rw [h.hits] at hlen
  exact absurd hlen (by simp)

theorem miss (h : ReadUpTo hit (n + 1) l read unread taken) {x : α} (hx : hit x = false) :
    ReadUpTo hit (n + 1) (x :: l) (x :: read) unread taken where
  split := congrArg (x :: ·) h.split
  hits := by rw [List.filter_cons_of_neg (by rw [hx]; decide)]; exact h.hits
  most := h.most
  ended hleft := by
    obtain ⟨hlen, hend⟩ := h.ended hleft
    obtain ⟨last, hlast, hhit⟩ := hend (h.read_ne_nil hleft)
    exact ⟨hlen, fun _ => ⟨last, by rw [List.getLast?_cons, hlast]; rfl, hhit⟩⟩

theorem take (h : ReadUpTo hit n l read unread taken) {x : α} (hx : hit x = true) :
    ReadUpTo hit (n + 1) (x :: l) (x :: read) unread (x :: taken) where
  split := congrArg (x :: ·) h.split
  hits := by rw [List.filter_cons_of_pos hx, ← h.hits]
  most := Nat.succ_le_succ h.most
  ended hleft := by
    obtain ⟨hlen, hend⟩ := h.ended hleft
    refine ⟨congrArg (· + 1) hlen, fun _ => ?_⟩
    by_cases hread : read = []
    · exact ⟨x, by rw [hread]; rfl, hx⟩
    · obtain ⟨last, hlast, hhit⟩ := hend hread
      exact ⟨last, by rw [List.getLast?_cons, hlast]; rfl, hhit⟩

/-- With something left, the last element read is a hit, and so is the last hit. -/
theorem last (h : ReadUpTo hit (n + 1) l read unread taken) (hleft : unread ≠ []) :
    ∃ x, read.getLast? = some x ∧ hit x = true ∧ taken.getLast? = some x := by
  obtain ⟨_, hend⟩ := h.ended hleft
  obtain ⟨x, hlast, hhit⟩ := hend (h.read_ne_nil hleft)
  obtain ⟨init, hinit⟩ := List.getLast?_eq_some_iff.1 hlast
  refine ⟨x, hlast, hhit, ?_⟩
  rw [h.hits, hinit, List.filter_append, List.filter_cons_of_pos hhit]
  exact List.getLast?_concat

end ReadUpTo

/-- R139: the points of a sweep. -/
theorem sweepPoints_reads (s : Part) (n : Nat) (l : List Nat) : ∃ seen,
    ReadUpTo (fun p => (s.point p).state != .normal) n l seen (s.sweepPoints n l).2 (s.sweepPoints n l).1 := by
  induction l generalizing n with
  | nil =>
    cases n with
    | zero => exact ⟨[], .nothing _ _⟩
    | succ n => exact ⟨[], .all _ _⟩
  | cons p l ih =>
    cases n with
    | zero => exact ⟨[], .nothing _ _⟩
    | succ n =>
      rw [Part.sweepPoints]
      split
      · next hnormal =>
        obtain ⟨seen, h⟩ := ih (n + 1)
        exact ⟨p :: seen, h.miss (by rw [hnormal]; rfl)⟩
      · next hstanding =>
        obtain ⟨seen, h⟩ := ih n
        exact ⟨p :: seen, h.take (bne_iff_ne.2 hstanding)⟩

/-- R142: the records of a delta read. -/
theorem deltaRead_reads (a n : Nat) (l : List JournalRecord) : ∃ read,
    ReadUpTo (fun x => x.significantIn a) n l read (deltaRead a n l).2 (deltaRead a n l).1 := by
  induction l generalizing n with
  | nil =>
    cases n with
    | zero => exact ⟨[], .nothing _ _⟩
    | succ n => exact ⟨[], .all _ _⟩
  | cons x l ih =>
    cases n with
    | zero => exact ⟨[], .nothing _ _⟩
    | succ n =>
      rw [deltaRead]
      split
      · next hsig =>
        obtain ⟨read, h⟩ := ih n
        exact ⟨x :: read, h.take hsig⟩
      · next hnot =>
        obtain ⟨read, h⟩ := ih (n + 1)
        exact ⟨x :: read, h.miss (Bool.eq_false_iff.2 hnot)⟩

/-! ### Events that change one review entry -/

theorem Part.EntryIs.sweep_reported {s : Part} {n a : Nat} {e : ReviewEntry} (he : s.EntryIs n a e)
    {g : ReviewEntry → ReviewEntry} (h : (g e).sweep ≠ e.sweep) :
    sessionReported (s.session n) ((s.session n).modEntry a g) = true := by
  obtain ⟨hmem, harea⟩ := he.mem
  rw [sessionReported_iff]
  rintro ⟨_, _, _, hentries⟩
  rw [Session.modEntry, List.map_map] at hentries
  have hentry := List.map_inj_left.1 hentries e hmem
  simp only [Function.comp_apply, if_pos harea, Prod.mk.injEq] at hentry
  exact h hentry.2.1.symm

/-- R139, R142: a request whose event changes the review entry of an area and writes nothing. -/
theorem completes_entryEvent {c : Instr} {k : ReqKind} {f : Handler} {s : Part} {tag : Byte} {body reply : List Byte}
    {n a : Nat} {e : ReviewEntry} {g : ReviewEntry → ReviewEntry} (hexec : ∀ v, exec c v = onRequest k f v)
    (h : s.Takes k tag body) (hn : n ∈ numbers 4) (he : s.EntryIs n a e)
    (hf : f body s.taken = (closeEvent s.taken [] (s.taken.modSession n fun x => x.modEntry a g), reply)) :
    ∃ t : Part, Completes c s t ∧ t.lif = s.answer k tag reply
      ∧ s.SessionBecame t n
          { s.session n with entries := (s.session n).entries.map fun x => if x.area = a then g e else x } []
      ∧ ((g e).sweep ≠ e.sweep → t.Told (sessionEntry n)) := by
  have hchange : HandoverChange s.taken (s.taken.modSession n fun x => x.modEntry a g) [] :=
    ⟨rfl, Part.recorded_nothing rfl rfl rfl rfl rfl rfl rfl, rfl, rfl⟩
  obtain ⟨t, hcomp, hlif, hdone⟩ := completes_handover hexec h hf hchange
  have hsessions : ∀ m ∈ numbers 4, t.session m = if m = n then (s.session n).modEntry a g else s.session m :=
    fun m hm => (congrArg (getAt · m) hdone.sessions).trans (s.modSession_becomes n _ hm)
  refine ⟨t, hcomp, hlif, ⟨fun m hm => ?_, hdone.wrote, hdone.fixed, hdone.people, hdone.points, hdone.areas, hdone.shelf,
    hdone.desks⟩, fun hsweep => hdone.told n hn ?_⟩
  · rw [hsessions m hm, he.modEntry]
  · have hset : (s.taken.modSession n fun x => x.modEntry a g).session n = (s.session n).modEntry a g :=
      (s.taken.modSession_becomes n _ hn).trans (if_pos rfl)
    rw [hset]
    exact he.sweep_reported hsweep

/-! ### REVIEW_NEXT (R139, R140) -/

theorem exec_reviewNext (u : State) : exec .reviewNext u = onRequest .reviewNext reviewNextHandler u := rfl

theorem reviewNextHandler_incoming {s : Part} {body : List Byte} {e : ReviewEntry}
    (h : s.PartyAt (byteAt body 0) (byteAt body 1) .incoming) (he : s.EntryIs (byteAt body 1) (byteAt body 2) e)
    (hrev : (s.session (byteAt body 1)).state = .reviewing) (hsweep : e.sweep = .notStarted ∨ e.sweep = .sweeping) :
    reviewNextHandler body s =
      (s.reviewNext (byteAt body 1) (byteAt body 2),
        ResultCode.ok.byte :: flagByte ((s.sweepEntry e).1.sweep == .swept) :: byteOf (s.sweepEntry e).2.length
          :: be16 (s.sweepEntry e).1.cursor ++ be16 (s.sweepEntry e).1.snapGen.toNat
          ++ (s.sweepEntry e).2.flatMap s.standingBytes) := by
  have hcheck : s.reviewNextCheck (byteAt body 0) (byteAt body 1) (byteAt body 2) = none := by
    have hlate : ¬(e.sweep = .swept ∨ e.sweep = .confirmed) := by
      rcases hsweep with h' | h' <;> rw [h'] <;> decide
    unfold Part.reviewNextCheck
    simp only [h.areaCheck he, he.entry, hrev, ne_eq, not_true, if_false, hlate]
  unfold reviewNextHandler
  simp only [hcheck, he.entry]

/-- R139: an entry as its sweep goes on from it. -/
theorem Part.startSweep_eq (s : Part) {e : ReviewEntry} {a : Nat} (ha : e.area = a) :
    s.startSweep e =
      if e.sweep = .notStarted then
        { e with
          sweep := .sweeping, snapGen := (s.area a).generation, snapSeq := s.rst.nextSeq, deltaCursor := s.rst.nextSeq }
      else e := by
  rw [Part.startSweep, ha]

theorem Part.startSweep_sweep (s : Part) {e : ReviewEntry} (h : e.sweep = .notStarted ∨ e.sweep = .sweeping) :
    (s.startSweep e).sweep = .sweeping ∧ (s.startSweep e).cursor = e.cursor ∧ (s.startSweep e).area = e.area := by
  rw [Part.startSweep]
  split
  · exact ⟨rfl, rfl, rfl⟩
  · next hnot => exact ⟨h.resolve_left hnot, rfl, rfl⟩

/-- R139, R140: the entry after one REVIEW_NEXT, by the points it left. -/
theorem Part.sweepEntry_reads (s : Part) {e : ReviewEntry} (hsweep : e.sweep = .notStarted ∨ e.sweep = .sweeping) :
    ∃ seen unseen : List Nat,
      ReadUpTo (fun p => (s.point p).state != .normal) 16 (s.pointsFrom e.area e.cursor) seen unseen (s.sweepEntry e).2
      ∧ (unseen = [] → (s.sweepEntry e).1 = { s.startSweep e with cursor := 1025, sweep := .swept })
      ∧ (∀ last, unseen ≠ [] → seen.getLast? = some last → (s.sweepEntry e).1 = { s.startSweep e with cursor := last + 1 }) := by
  obtain ⟨_, hcursor, harea⟩ := s.startSweep_sweep hsweep
  obtain ⟨seen, hread⟩ := sweepPoints_reads s 16 (s.pointsFrom e.area (s.startSweep e).cursor)
  have hentry : s.sweepEntry e =
      if (s.sweepPoints 16 (s.pointsFrom e.area (s.startSweep e).cursor)).2.isEmpty then
        ({ s.startSweep e with cursor := 1025, sweep := .swept },
          (s.sweepPoints 16 (s.pointsFrom e.area (s.startSweep e).cursor)).1)
      else
        ({ s.startSweep e with
            cursor := cursorAfter (s.startSweep e).cursor
              (s.sweepPoints 16 (s.pointsFrom e.area (s.startSweep e).cursor)).1 },
          (s.sweepPoints 16 (s.pointsFrom e.area (s.startSweep e).cursor)).1) := rfl
  rw [hcursor] at hread hentry
  generalize s.sweepPoints 16 (s.pointsFrom e.area e.cursor) = r at hread hentry
  have htaken : (s.sweepEntry e).2 = r.1 := by
    rw [hentry]
    split <;> rfl
  refine ⟨seen, r.2, by rwa [htaken], fun hnone => ?_, fun last hleft hlast => ?_⟩
  · rw [hentry, if_pos (List.isEmpty_iff.2 hnone)]
  · obtain ⟨x, hx, _, htook⟩ := hread.last hleft
    rw [hentry, if_neg fun hc => hleft (List.isEmpty_iff.1 hc), cursorAfter, htook]
    rw [hx] at hlast
    rw [Option.some.inj hlast]
    rfl

/-- Settles O39: `sweepPoints_reads` says what one request reads, `completes_entryEvent` what it changes. -/
theorem reviewNextSweepsStandingPoints : Obligations.ReviewNextSweepsStandingPoints := by
  intro s tag body e h n a hparty hrev he hsweep e1
  obtain ⟨_, harea⟩ := he.mem
  have hstart : s.taken.startSweep e = e1 := s.taken.startSweep_eq harea
  obtain ⟨hsweeping, _⟩ := s.taken.startSweep_sweep hsweep
  obtain ⟨seen, unseen, hread, hall, hpart⟩ := s.taken.sweepEntry_reads hsweep
  have hanswer := reviewNextHandler_incoming (s := s.taken) hparty he hrev hsweep
  obtain ⟨t, hcomp, hlif, hbecame, htold⟩ := completes_entryEvent exec_reviewNext h hparty.session_mem he hanswer
  rw [hstart] at hall hpart hsweeping
  refine ⟨t, seen, unseen, (s.taken.sweepEntry e).1, hcomp, ?_, ?_, fun hleft => ?_, hall, ?_, hbecame, htold⟩
  · have hsplit := hread.split
    rw [pointsFrom_eq, harea] at hsplit
    exact hsplit
  · have hmost := hread.most
    rw [hread.hits] at hmost
    exact hmost
  · obtain ⟨hlen, _⟩ := hread.ended hleft
    obtain ⟨last, hlast, hhit, _⟩ := hread.last hleft
    rw [hread.hits] at hlen
    exact ⟨hlen, last, hlast, bne_iff_ne.1 hhit, hpart last hleft hlast⟩
  · have hflag : flagByte ((s.taken.sweepEntry e).1.sweep == .swept) = if unseen = [] then 1 else 0 := by
      by_cases hleft : unseen = []
      · rw [hall hleft, if_pos hleft]
        rfl
      · obtain ⟨last, hlast, _⟩ := hread.last hleft
        rw [hpart last hleft hlast, if_neg hleft, show ({ e1 with cursor := last + 1 } : ReviewEntry).sweep = .sweeping from
          hsweeping]
        rfl
    rw [hread.hits, hflag] at hlif
    exact hlif

/-! ### REVIEW_DELTA (R142, R143) -/

theorem exec_reviewDelta (u : State) : exec .reviewDelta u = onRequest .reviewDelta reviewDeltaHandler u := rfl

theorem reviewDeltaHandler_incoming {s : Part} {body : List Byte} {e : ReviewEntry}
    (h : s.PartyAt (byteAt body 0) (byteAt body 1) .incoming) (he : s.EntryIs (byteAt body 1) (byteAt body 2) e)
    (hrev : (s.session (byteAt body 1)).state = .reviewing) (hswept : e.sweep = .swept) :
    reviewDeltaHandler body s =
      if s.rst.isGap e.deltaCursor then (s.reviewDelta (byteAt body 1) (byteAt body 2), [ResultCode.gap.byte])
      else
        (s.reviewDelta (byteAt body 1) (byteAt body 2),
          ResultCode.ok.byte :: flagByte ((s.deltaEntry e).1.deltaCursor == s.rst.nextSeq) :: byteOf (s.deltaEntry e).2.length
            :: be16 (s.deltaEntry e).1.snapGen.toNat ++ (s.deltaEntry e).2.flatMap recordBytes) := by
  have hcheck : s.reviewDeltaCheck (byteAt body 0) (byteAt body 1) (byteAt body 2) = none := by
    unfold Part.reviewDeltaCheck
    simp only [h.areaCheck he, he.entry, hrev, hswept, ne_eq, not_true, if_false]
  unfold reviewDeltaHandler
  simp only [hcheck, he.entry]
  rfl

/-- R142: the entry after one REVIEW_DELTA, by the records it left. -/
theorem Part.deltaEntry_reads (s : Part) (e : ReviewEntry) : ∃ read unread : List JournalRecord,
    ReadUpTo (fun x => x.significantIn e.area) 11 (s.rst.recordsFrom e.deltaCursor) read unread (s.deltaEntry e).2
    ∧ (unread = [] → (s.deltaEntry e).1 =
        { e with deltaCursor := s.rst.nextSeq, snapGen := (s.area e.area).generation, snapSeq := s.rst.nextSeq })
    ∧ (unread ≠ [] → (s.deltaEntry e).1 =
        { e with deltaCursor := s.rst.nextSeq - BitVec.ofNat 32 unread.length }) := by
  obtain ⟨read, hread⟩ := deltaRead_reads e.area 11 (s.rst.recordsFrom e.deltaCursor)
  have hentry : s.deltaEntry e =
      if (deltaRead e.area 11 (s.rst.recordsFrom e.deltaCursor)).2.isEmpty then
        ({ e with deltaCursor := s.rst.nextSeq, snapGen := (s.area e.area).generation, snapSeq := s.rst.nextSeq },
          (deltaRead e.area 11 (s.rst.recordsFrom e.deltaCursor)).1)
      else
        ({ e with
            deltaCursor := s.rst.nextSeq
              - BitVec.ofNat 32 (deltaRead e.area 11 (s.rst.recordsFrom e.deltaCursor)).2.length },
          (deltaRead e.area 11 (s.rst.recordsFrom e.deltaCursor)).1) := rfl
  generalize deltaRead e.area 11 (s.rst.recordsFrom e.deltaCursor) = r at hread hentry
  have htaken : (s.deltaEntry e).2 = r.1 := by
    rw [hentry]
    split <;> rfl
  refine ⟨read, r.2, by rwa [htaken], fun hnone => ?_, fun hleft => ?_⟩
  · rw [hentry, if_pos (List.isEmpty_iff.2 hnone)]
  · rw [hentry, if_neg fun hc => hleft (List.isEmpty_iff.1 hc)]

/-- R156: a cursor that is moved back by fewer than 2^32 records, and by at least one, is another cursor. -/
theorem cursor_ne_next {q : W32} {n : Nat} (h : 0 < n) (h' : n < 4294967296) : q - BitVec.ofNat 32 n ≠ q := by
  intro hc
  have hzero : BitVec.ofNat 32 n = 0 := by
    have := congrArg (q - ·) hc
    simpa using this
  have hnat := congrArg BitVec.toNat hzero
  rw [BitVec.toNat_ofNat, Nat.mod_eq_of_lt h'] at hnat
  exact h.ne' hnat

theorem Rst.isGap_iff (r : Rst) (q : W32) : r.isGap q = true ↔ r.journal.length < (r.nextSeq - q).toNat := by
  rw [Rst.isGap, decide_eq_true_iff]
  rfl

/-- Settles O40: `deltaRead_reads` says what one request reads, `completes_entryEvent` what it changes. -/
theorem reviewDeltaReadsTheJournal : Obligations.ReviewDeltaReadsTheJournal := by
  intro s tag body e h n a age hparty hrev he hswept
  obtain ⟨_, harea⟩ := he.mem
  have hanswer := reviewDeltaHandler_incoming (s := s.taken) hparty he hrev hswept
  refine ⟨fun hgap => ?_, fun hkept => ?_⟩
  · have hg : s.taken.rst.isGap e.deltaCursor = true := (s.rst.isGap_iff _).2 hgap
    rw [if_pos hg] at hanswer
    obtain ⟨t, hcomp, hlif, hbecame, htold⟩ := completes_entryEvent exec_reviewDelta h hparty.session_mem he hanswer
    simp only [if_pos hg] at hbecame htold
    exact ⟨t, hcomp, hlif, hbecame, htold (by rw [hswept]; exact SweepState.noConfusion)⟩
  · have hg : ¬s.taken.rst.isGap e.deltaCursor = true := fun hc =>
      absurd ((s.rst.isGap_iff _).1 hc) (Nat.not_lt.2 hkept)
    rw [if_neg hg] at hanswer
    obtain ⟨t, hcomp, hlif, hbecame, _⟩ := completes_entryEvent exec_reviewDelta h hparty.session_mem he hanswer
    simp only [if_neg hg] at hbecame
    obtain ⟨read, unread, hread, hall, hpart⟩ := s.taken.deltaEntry_reads e
    rw [harea] at hread
    refine ⟨t, read, unread, (s.taken.deltaEntry e).1, hcomp, hread.split, ?_, fun hleft => ?_,
      fun hleft => harea ▸ hall hleft, ?_, hbecame⟩
    · have hmost := hread.most
      rw [hread.hits] at hmost
      exact hmost
    · obtain ⟨hlen, _⟩ := hread.ended hleft
      obtain ⟨last, hlast, hhit, _⟩ := hread.last hleft
      rw [hread.hits] at hlen
      exact ⟨hlen, ⟨last, hlast, hhit⟩, hpart hleft⟩
    · have hflag : flagByte ((s.taken.deltaEntry e).1.deltaCursor == s.rst.nextSeq) = if unread = [] then 1 else 0 := by
        by_cases hleft : unread = []
        · rw [hall hleft, if_pos hleft, show (s.taken.rst.nextSeq == s.rst.nextSeq) = true from beq_self_eq_true _]
          rfl
        · have hlen : unread.length ≤ age := by
            have hsplit := congrArg List.length hread.split
            rw [Rst.recordsFrom, List.length_drop, List.length_append] at hsplit
            have hage : s.taken.rst.age e.deltaCursor = age := rfl
            have hjournal : s.taken.rst.journal = s.rst.journal := rfl
            rw [hage, hjournal] at hsplit
            omega
          have hne := cursor_ne_next (q := s.rst.nextSeq) (List.length_pos_iff.2 hleft)
            (Nat.lt_of_le_of_lt hlen (s.rst.nextSeq - e.deltaCursor).isLt)
          rw [hpart hleft, if_neg hleft, show (s.taken.rst.nextSeq - BitVec.ofNat 32 unread.length == s.rst.nextSeq) = false
            from beq_eq_false_iff_ne.2 hne]
          rfl
      rw [hread.hits] at hlif
      rw [← hflag]
      exact hlif

end Sys2Proof.Machine
end

section
/-! What an event writes, gathered along its steps; then ELEVATE, DROP and LAYER_EXPIRY (R26 to R30). -/

namespace Sys2Proof.Machine

/-! ### The records of an event, step by step -/

/-- On the way from `s` to `u` an event has written the records `l`, and no report has been queued yet. -/
structure Part.Journals (s u : Part) (l : List (Bool × W16 × RecordFields)) : Prop where
  recorded : s.Recorded u (s.records l)
  reports : u.rst.reports = s.rst.reports
  dropped : u.rst.dropped = s.rst.dropped
  now : u.now = s.now
  size : u.journalSize = s.journalSize

namespace Part.Journals

variable {s u v : Part} {l m : List (Bool × W16 × RecordFields)}

theorem refl (s : Part) : s.Journals s [] := ⟨s.recorded_self, rfl, rfl, rfl, rfl⟩

/-- A step that leaves the Record Store, the clock and J alone. -/
theorem quiet (h : s.Journals u l) (hrst : v.rst = u.rst) (hnow : v.now = u.now) (hsize : v.journalSize = u.journalSize) :
    s.Journals v l where
  recorded := h.recorded.congr rfl rfl hrst
  reports := by rw [hrst, h.reports]
  dropped := by rw [hrst, h.dropped]
  now := hnow.trans h.now
  size := hsize.trans h.size

theorem write (h : s.Journals u l) (sig : Bool) (f : RecordFields) :
    s.Journals (u.write sig f) (l ++ [(sig, u.generationOf f.area, f)]) where
  recorded := h.recorded.write h.now h.size sig f _ rfl
  reports := by rw [Part.write_rst]; exact h.reports
  dropped := by rw [Part.write_rst]; exact h.dropped
  now := h.now
  size := h.size

theorem start (hrst : v.rst = s.rst) (hnow : v.now = s.now) (hsize : v.journalSize = s.journalSize) : s.Journals v [] :=
  (refl s).quiet hrst hnow hsize

/-- Several records, one for each element of a list. -/
theorem writes {α : Type} (h : s.Journals u l) (sig : Bool) (f : α → RecordFields) (xs : List α) :
    s.Journals (xs.foldl (fun t x => t.write sig (f x)) u) (l ++ xs.map fun x => (sig, u.generationOf (f x).area, f x)) := by
  induction xs generalizing u l with
  | nil => rw [List.map_nil, List.append_nil]; exact h
  | cons x xs ih =>
    have hx := ih (h.write sig (f x))
    rw [List.append_assoc] at hx
    exact hx

/-- The end of the event. -/
theorem close (h : s.Journals u l) (extra : List ReportEntry) :
    s.WroteAnd (closeEvent s extra u) (s.records l) extra :=
  closeEvent_wroteAnd extra h.recorded h.reports h.dropped h.size

end Part.Journals

/-- Several records leave all but the Record Store alone. -/
theorem foldl_write_rest {α : Type} (sig : α → Bool) (f : α → RecordFields) (xs : List α) (u : Part) :
    xs.foldl (fun t x => t.write (sig x) (f x)) u =
      { u with rst := (xs.foldl (fun t x => t.write (sig x) (f x)) u).rst } := by
  induction xs generalizing u with
  | nil => rfl
  | cons x xs ih => exact (ih (u.write (sig x) (f x))).trans rfl

/-! ### The AUTHORITY report of an event -/

/-- R40: an event that changes the sign-on or the stack of a desk, or whose rule says so, tells its AUTHORITY report. -/
theorem closeEvent_tells_authority {s t : Part} {extra : List ReportEntry} {d : Nat} (hd : d ∈ numbers 6)
    (h : authorityReported (s.desk d) (t.desk d) = true ∨ authorityEntry d ∈ extra) :
    (closeEvent s extra t).Told (authorityEntry d) := by
  refine closeEvent_told s extra t _ ((mem_eventReports_iff ..).2 ?_)
  refine .inr (.inr (.inr (.inr (.inl ⟨rfl, hd, h.imp (fun hchanged => ?_) id⟩))))
  obtain ⟨hon, hstack⟩ := t.refreshHorns_seat d
  show authorityReported (s.desk d) (t.refreshHorns.desk d) = true
  rw [authorityReported, hon, hstack]
  exact hchanged

theorem authorityReported_of_length {x y : Desk} (h : y.stack.length ≠ x.stack.length) : authorityReported x y = true := by
  rw [authorityReported_iff]
  rintro ⟨_, hstack⟩
  have hlen := congrArg List.length hstack
  rw [List.length_map, List.length_map] at hlen
  exact h hlen.symm

/-! ### A stack that changes -/

/-- R30: the event of a change of one stack, by the part `u` before its end. -/
theorem closeEvent_restacked {s u : Part} {d : Nat} {stack : List Layer} {l : List (Bool × W16 × RecordFields)}
    (hd : d ∈ numbers 6) (rest : u = { s.modDesk d (fun x => { x with stack := stack }) with rst := u.rst })
    (hrec : s.Journals u l) (hlen : stack.length ≠ (s.desk d).stack.length) :
    s.Restacked (closeEvent s [] u) d stack ∧ s.Wrote (closeEvent s [] u) (s.records l) := by
  have hdesks : ∀ e, u.desk e = (s.modDesk d fun x => { x with stack := stack }).desk e := fun e => by rw [rest]; rfl
  have hdesk : u.desk d = { s.desk d with stack := stack } :=
    (hdesks d).trans (s.modDesk_desk_same _ hd)
  have hevent : DeskEvent s (closeEvent s [] u) d (s.records l) [] :=
    closeEvent_deskEvent [] (by rw [rest]; rfl) (fun e he => (hdesks e).trans (s.modDesk_desk_ne _ he)) hrec.recorded
      hrec.reports hrec.dropped
  refine ⟨⟨?_, fun hok => ?_, closeEvent_hornMoved [] d hd (by rw [hdesk]) (by rw [hdesk]), hevent.fixed, hevent.people,
    hevent.points, hevent.areas, hevent.shelf, hevent.sessions, hevent.others, closeEvent_tells_authority hd (.inl ?_)⟩,
    hevent.wrote⟩
  · rw [closeEvent_desk_rest s u [] hd, hdesk]
  · rw [closeEvent_desk_ok s [] hd (by rw [hdesk]; exact hok), hdesk]
  · rw [hdesk]
    exact authorityReported_of_length hlen

theorem Part.Restacked.answered {s t : Part} {d : Nat} {stack : List Layer} (h : s.taken.Restacked t d stack) (x : Lif) :
    s.Restacked { t with lif := x } d stack := h

/-- The answer to a request keeps the state of the link. -/
theorem Part.answer_link_of {s t : Part} (h : t.lif = s.taken.lif) (k : ReqKind) (tag : Byte) (reply : List Byte) :
    (s.answer k tag reply).link = t.lif.link := by
  rw [h]
  rfl

theorem Part.Wrote.answered {s t : Part} {l : List JournalRecord} (h : s.taken.Wrote t l) {x : Lif}
    (hlink : x.link = t.lif.link) : s.Wrote { t with lif := x } l :=
  WroteAnd.answered h hlink

/-! ### ELEVATE (R26, R27) -/

/-- R20: a badge that one VALID credential alone carries. -/
theorem Part.findBadge_eq {s : Part} {badge c : Nat} (hc : c ∈ numbers 64) (hbadge : badge ≠ 0)
    (hvalid : (s.cred c).valid = true) (hmine : (s.cred c).badge.toNat = badge)
    (hunique : ∀ j ∈ numbers 64, (s.cred j).valid = true → (s.cred j).badge = (s.cred c).badge → j = c) :
    s.findBadge badge = some c := by
  rw [Part.findBadge, if_neg hbadge]
  have hsome : ((numbers Config.nCreds).find? fun c => (s.cred c).valid && (s.cred c).badge.toNat == badge).isSome := by
    rw [List.find?_isSome]
    exact ⟨c, hc, by rw [hvalid, hmine, beq_self_eq_true]; rfl⟩
  obtain ⟨j, hj⟩ := Option.isSome_iff_exists.1 hsome
  have hpass := List.find?_some hj
  rw [Bool.and_eq_true, beq_iff_eq] at hpass
  obtain ⟨hvalidJ, hbadgeJ⟩ := hpass
  rw [hj, hunique j (List.mem_of_find?_eq_some hj) hvalidJ (BitVec.eq_of_toNat_eq (hbadgeJ.trans hmine.symm))]

/-- R178: one area set lies within another exactly when each of its areas does. -/
theorem scope_within_iff (sc t : AreaSet) : sc &&& ~~~t = 0 ↔ ∀ a ∈ numbers 16, inScope sc a = true → inScope t a = true := by
  constructor
  · intro h a ha hin
    obtain ⟨hlow, hhigh⟩ := (mem_numbers a).1 ha
    have hbit := congrArg (BitVec.getLsbD · (a - 1)) h
    simp only [inScope, Bool.and_eq_true, decide_eq_true_iff] at hin ⊢
    simp only [BitVec.getLsbD_and, BitVec.getLsbD_not, hin.2, Bool.true_and] at hbit
    refine ⟨hlow, ?_⟩
    have hlt : decide (a - 1 < 16) = true := decide_eq_true (by omega)
    simpa [hlt] using hbit
  · intro h
    refine BitVec.eq_of_getLsbD_eq fun i hi => ?_
    have hin := h (i + 1) ((mem_numbers _).2 ⟨by omega, by omega⟩)
    simp only [inScope, Nat.add_sub_cancel, Nat.le_add_left, decide_true, Bool.true_and] at hin
    rw [BitVec.getLsbD_and, BitVec.getLsbD_not]
    cases hsc : sc.getLsbD i
    · simp
    · simp [hin hsc, hi]

/-- R26, check 4: the grantor passes over the whole granted scope. -/
theorem Part.grantPasses_iff (s : Part) (c : Nat) (perms : PermSet) (sc : AreaSet) : s.grantPasses c perms sc = true ↔
    permsWithin (Perm.elevate.set ||| perms) (s.effPerms c) = true ∧ sc &&& ~~~(s.cred c).scope = 0 := by
  rw [Part.grantPasses, Bool.and_eq_true, List.all_eq_true, scope_within_iff]
  refine and_congr_right fun hperms => ?_
  have hpass : ∀ a, s.grantorPasses c perms a = inScope (s.cred c).scope a := fun a => by
    rw [Part.grantorPasses, allows]
    show (inScope (s.cred c).scope a && permsWithin (Perm.elevate.set ||| perms) (s.effPerms c)) = _
    rw [hperms, Bool.and_true]
  simp only [areasIn, List.mem_filter, hpass, and_imp]

theorem exec_elevate (u : State) : exec .elevate u = onRequest .elevate elevateHandler u := rfl

theorem Part.elevateCheck_passes {s : Part} {d badge c minutes : Nat} {perms : PermSet} {sc : AreaSet}
    (hdesk : isDesk d = true) (hbits : perms.toNat < 4096) (hminutes : minutes ≠ 0) (hbadge : s.findBadge badge = some c)
    (hon : (s.desk d).signedOn ≠ 0) (hgrant : s.grantPasses c perms sc = true) (hroom : (s.desk d).stack.length < 4) :
    s.elevateCheck d badge perms sc minutes = .ok c := by
  have hfields : (!isDesk d || !permBitsOk perms || minutes == 0) = false := by
    rw [hdesk, permBitsOk, decide_eq_true hbits, beq_eq_false_iff_ne.2 hminutes]
    rfl
  rw [Part.elevateCheck, hfields, hbadge]
  simp only [hon, hgrant, Bool.false_eq_true, if_false, Bool.not_true]
  rw [if_neg (Nat.not_le.2 hroom)]

/-- R27: the layer that an ELEVATE pushes. -/
theorem Part.elevate_eq {s : Part} {d c minutes : Nat} {perms : PermSet} {sc : AreaSet} {below : Layer}
    (hbelow : (s.desk d).stack.getLast? = some below) :
    s.elevate d c perms sc minutes =
      closeEvent s [] ((s.modDesk d fun x => { x with stack := (s.desk d).stack ++ [below.over c perms sc minutes] }).write
        false { kind := .elevate, desk := d, credential := c, value := w16 minutes }) := by
  rw [Part.elevate, Part.topLayer, hbelow]
  have hsame : (s.modDesk d fun x => { x with stack := x.stack ++ [below.over c perms sc minutes] }) =
      s.modDesk d fun x => { x with stack := (s.desk d).stack ++ [below.over c perms sc minutes] } := by
    unfold Part.modDesk
    rw [modAt_congr s.desks d
      (g := fun x => { x with stack := (s.desk d).stack ++ [below.over c perms sc minutes] }) rfl]
  rw [← hsame]
  rfl

/-- R26, R27: an ELEVATE pushes one layer. -/
theorem Part.elevate_restacked {s : Part} {d c minutes : Nat} {perms : PermSet} {sc : AreaSet} {below : Layer}
    (hbelow : (s.desk d).stack.getLast? = some below) (hd : d ∈ numbers 6) :
    s.Restacked (s.elevate d c perms sc minutes) d ((s.desk d).stack ++ [below.over c perms sc minutes])
      ∧ s.Wrote (s.elevate d c perms sc minutes)
          (s.records [(false, 0, { kind := .elevate, desk := d, credential := c, value := w16 minutes })]) := by
  rw [Part.elevate_eq hbelow]
  have hstart : s.Journals (s.modDesk d fun x => { x with stack := (s.desk d).stack ++ [below.over c perms sc minutes] }) [] :=
    .start rfl rfl rfl
  exact closeEvent_restacked hd rfl (hstart.write false _) (by simp)

/-! ### DROP and LAYER_EXPIRY (R28, R29) -/

theorem exec_drop (u : State) : exec .drop u = onRequest .drop dropHandler u := rfl

/-- R29: the end of layer `n` and of every layer above it. -/
theorem Part.cascade_restacked {s : Part} {d n : Nat} (reason : Nat) (hd : d ∈ numbers 6) (hn : 1 ≤ n)
    (hlen : n ≤ (s.desk d).stack.length) :
    s.Restacked (closeEvent s [] (s.cascade d n (w16 reason))) d ((s.desk d).stack.take (n - 1))
      ∧ s.Wrote (closeEvent s [] (s.cascade d n (w16 reason))) (s.records (layerEnds d n reason (s.desk d).stack)) := by
  have hsame : (s.modDesk d fun x => { x with stack := x.stack.take (n - 1) }) =
      s.modDesk d fun x => { x with stack := (s.desk d).stack.take (n - 1) } := by
    unfold Part.modDesk
    rw [modAt_congr s.desks d (g := fun x => { x with stack := (s.desk d).stack.take (n - 1) }) rfl]
  unfold Part.cascade layerEnds
  dsimp only
  rw [hsame]
  refine closeEvent_restacked hd ?_ ?_ (by rw [List.length_take]; omega)
  · exact foldl_write_rest (fun _ => false) _ _ _
  · have hstart : s.Journals (s.modDesk d fun x => { x with stack := (s.desk d).stack.take (n - 1) }) [] :=
      .start rfl rfl rfl
    exact hstart.writes false _ _

theorem Part.cascade_lif (s : Part) (d n : Nat) (reason : W16) : (closeEvent s [] (s.cascade d n reason)).lif = s.lif :=
  (Part.Event.close s [] (s.acts_cascade d n reason)).lif

theorem dropHandler_passes {s : Part} {body : List Byte} (hdesk : isDesk (byteAt body 0) = true)
    (hon : (s.desk (byteAt body 0)).signedOn ≠ 0) (hdepth : 2 ≤ (s.desk (byteAt body 0)).stack.length) :
    dropHandler body s = (s.dropLayer (byteAt body 0),
      [0, byteOf ((s.dropLayer (byteAt body 0)).desk (byteAt body 0)).stack.length]) := by
  have hcheck : s.dropCheck (byteAt body 0) = none := by
    rw [Part.dropCheck, hdesk, if_neg (by decide), if_neg hon, if_neg (by omega)]
  unfold dropHandler
  simp only [hcheck]
  rfl

theorem completes_layerExpiry {s t : Part} {d n : Nat} (hreset : s.resetLow = false)
    (h : (if (isDesk d && 2 ≤ n && s.layerDue d n) = true then s.layerExpires d n else s) = t) :
    Completes (.layerExpiry d n) s t :=
  completes_onPart (f := fun p => if isDesk d && 2 ≤ n && p.layerDue d n then p.layerExpires d n else p) (fun _ => rfl)
    hreset h

/-- Settles O33: each event changes the stack of one desk (`closeEvent_restacked`). -/
theorem layersArePushedAndEnd : Obligations.LayersArePushedAndEnd := by
  refine ⟨?elevate, ?drop, ?expiry⟩
  case elevate =>
    intro s tag body c below h d perms sc minutes hdesk hbits hminutes hc hbadge hvalid hmine hunique hon hperms hscope hroom
      hbelow
    have hd := (isDesk_iff d).1 hdesk
    have hmin : min (field16 body 9) 480 = minutes := by
      show min (field16 body 9) 480 = if 480 < field16 body 9 then 480 else field16 body 9
      split <;> omega
    have hgiven : field16 body 9 ≠ 0 := fun hzero => hminutes (by rw [← hmin, hzero]; rfl)
    have hcheck : s.taken.elevateCheck d (field32 body 1) perms sc (field16 body 9) = .ok c :=
      Part.elevateCheck_passes hdesk hbits hgiven (Part.findBadge_eq (s := s.taken) hc hbadge hvalid hmine hunique) hon
        ((s.taken.grantPasses_iff c perms sc).2 ⟨hperms, hscope⟩) hroom
    obtain ⟨hstacked, hwrote⟩ := Part.elevate_restacked (s := s.taken) (c := c) (minutes := minutes) (perms := perms)
      (sc := sc) hbelow hd
    have hanswer : elevateHandler body s.taken = (s.taken.elevate d c perms sc minutes,
        0 :: be16 minutes ++ [byteOf ((s.desk d).stack.length + 1)]) := by
      obtain ⟨hstack, _⟩ := hstacked
      unfold elevateHandler
      simp only [show s.taken.elevateCheck (byteAt body 0) (field32 body 1) (word16 body 5) (word16 body 7)
        (field16 body 9) = .ok c from hcheck, hmin]
      rw [show (s.taken.elevate (byteAt body 0) c (word16 body 5) (word16 body 7) minutes).desk (byteAt body 0) = _ from
        hstack]
      simp only [List.length_append, List.length_singleton]
      rfl
    have hlif : (s.taken.elevate d c perms sc minutes).lif = s.taken.lif :=
      (Part.Event.close (auth := true) _ [] ((Part.acts_seat ..).trans (Part.acts_write ..))).lif
    exact ⟨_, completes_answered exec_elevate h hanswer hlif, rfl, hstacked.answered _,
      hwrote.answered (Part.answer_link_of hlif ..)⟩
  case drop =>
    intro s tag body h hdesk hon hdepth d n
    have hd := (isDesk_iff d).1 hdesk
    obtain ⟨hstacked, hwrote⟩ := Part.cascade_restacked (s := s.taken) (d := d) (n := n) 1 hd (Nat.one_le_of_lt hdepth)
      (Nat.le_refl _)
    have hanswer : dropHandler body s.taken = (s.taken.dropLayer d, [0, byteOf (n - 1)]) := by
      obtain ⟨hstack, _⟩ := hstacked
      rw [dropHandler_passes (s := s.taken) hdesk hon hdepth]
      have hlen : ((s.taken.dropLayer d).desk d).stack.length = n - 1 := by
        refine (congrArg (fun x : Desk => x.stack.length) hstack).trans ?_
        rw [List.length_take]
        exact Nat.min_eq_left (Nat.sub_le _ _)
      rw [hlen]
    have hlif : (s.taken.dropLayer d).lif = s.taken.lif := s.taken.cascade_lif ..
    exact ⟨_, completes_answered exec_drop h hanswer hlif, rfl, Part.Restacked.answered hstacked _,
      Part.Wrote.answered hwrote (Part.answer_link_of hlif ..)⟩
  case expiry =>
    intro s d n x e hreset hdesk hn hx he
    have hd := (isDesk_iff d).1 hdesk
    have hdue : s.layerDue d n = e.timer.due := by
      rw [Part.layerDue, hx]
      simp only [he]
    refine ⟨fun hidle => completes_layerExpiry hreset ?_, fun hdueNow => ?_⟩
    · rw [hdue, hidle, Bool.and_false, if_neg (by decide)]
    · obtain ⟨hstacked, hwrote⟩ := Part.cascade_restacked (s := s) (d := d) (n := n) 2 hd (by omega)
        (by have := (List.getElem?_eq_some_iff.1 hx).1; omega)
      refine ⟨_, completes_layerExpiry hreset ?_, s.cascade_lif d n (w16 2), hstacked, hwrote⟩
      rw [hdue, hdueNow, hdesk, decide_eq_true hn, Bool.and_true, if_pos (by decide)]
      rfl

end Sys2Proof.Machine
end

section
/-! Two parts that hold the same board: presentation and flood control do the same to both. -/

namespace Sys2Proof.Machine

/-! ### The relation -/

/-- Two points with the same placement and view. -/
def Point.Alike (x y : Point) : Prop := x.placement = y.placement ∧ x.view = y.view

/-- Two areas with the same queues, deferred count and presentation desk. -/
def Area.Alike (x y : Area) : Prop :=
  x.pend = y.pend ∧ x.defer = y.defer ∧ x.counts.deferred = y.counts.deferred ∧ x.pdesk = y.pdesk

/-- Two desks with the same slots and orders. -/
def Desk.Alike (x y : Desk) : Prop := x.slots = y.slots ∧ x.order = y.order ∧ x.rotation = y.rotation

/-- Everything that presentation and flood control read of the board is the same in `u` and `v`. -/
structure Part.Alike (u v : Part) : Prop where
  pointS : ∀ p, u.pointS p = v.pointS p
  areaS : ∀ a, u.areaS a = v.areaS a
  now : u.now = v.now
  point : ∀ p, (u.point p).Alike (v.point p)
  area : ∀ a, (u.area a).Alike (v.area a)
  desk : ∀ d, (u.desk d).Alike (v.desk d)

theorem Counts.inc_deferred (c : Counts) (st : PointState) : (c.inc st).deferred = c.deferred := by cases st <;> rfl

theorem Counts.dec_deferred (c : Counts) (st : PointState) : (c.dec st).deferred = c.deferred := by cases st <;> rfl

theorem Point.Alike.refl (x : Point) : x.Alike x := ⟨rfl, rfl⟩
theorem Area.Alike.refl (x : Area) : x.Alike x := ⟨rfl, rfl, rfl, rfl⟩
theorem Desk.Alike.refl (x : Desk) : x.Alike x := ⟨rfl, rfl, rfl⟩

namespace Part.Alike

variable {s t u v : Part}

theorem refl (s : Part) : s.Alike s :=
  ⟨fun _ => rfl, fun _ => rfl, rfl, fun p => .refl (s.point p), fun a => .refl (s.area a), fun d => .refl (s.desk d)⟩

theorem symm (h : s.Alike t) : t.Alike s where
  pointS p := (h.pointS p).symm
  areaS a := (h.areaS a).symm
  now := h.now.symm
  point p := ⟨(h.point p).1.symm, (h.point p).2.symm⟩
  area a :=
    have ⟨hpend, hdefer, hcount, hdesk⟩ := h.area a
    ⟨hpend.symm, hdefer.symm, hcount.symm, hdesk.symm⟩
  desk d :=
    have ⟨hslots, horder, hrotation⟩ := h.desk d
    ⟨hslots.symm, horder.symm, hrotation.symm⟩

theorem trans (h : s.Alike t) (k : t.Alike u) : s.Alike u where
  pointS p := (h.pointS p).trans (k.pointS p)
  areaS a := (h.areaS a).trans (k.areaS a)
  now := h.now.trans k.now
  point p := ⟨(h.point p).1.trans (k.point p).1, (h.point p).2.trans (k.point p).2⟩
  area a :=
    have ⟨hpend, hdefer, hcount, hdesk⟩ := h.area a
    have ⟨kpend, kdefer, kcount, kdesk⟩ := k.area a
    ⟨hpend.trans kpend, hdefer.trans kdefer, hcount.trans kcount, hdesk.trans kdesk⟩
  desk d :=
    have ⟨hslots, horder, hrotation⟩ := h.desk d
    have ⟨kslots, korder, krotation⟩ := k.desk d
    ⟨hslots.trans kslots, horder.trans korder, hrotation.trans krotation⟩

theorem sameBoard (h : s.Alike t) : s.SameBoard t :=
  ⟨fun p _ => (h.point p).1.symm,
    fun a _ =>
      have ⟨hpend, hdefer, hcount, _⟩ := h.area a
      ⟨hpend.symm, hdefer.symm, hcount.symm⟩,
    fun d _ =>
      have ⟨hslots, horder, hrotation⟩ := h.desk d
      ⟨hslots.symm, horder.symm, hrotation.symm⟩⟩

/-- A change of what the board does not hold. -/
theorem rest (hpoints : t.points = s.points) (hareas : t.areas = s.areas) (hdesks : t.desks = s.desks)
    (hlivePoints : t.live.points = s.live.points) (hliveAreas : t.live.areas = s.live.areas) (hnow : t.now = s.now) :
    s.Alike t where
  pointS p := congrArg (getAt · p) hlivePoints.symm
  areaS a := congrArg (getAt · a) hliveAreas.symm
  now := hnow.symm
  point p := by rw [Part.point, Part.point, hpoints]; exact .refl _
  area a := by rw [Part.area, Part.area, hareas]; exact .refl _
  desk d := by rw [Part.desk, Part.desk, hdesks]; exact .refl _

theorem taken (s : Part) : s.Alike s.taken := .rest rfl rfl rfl rfl rfl rfl

theorem write (s : Part) (sig : Bool) (f : RecordFields) : s.Alike (s.write sig f) := .rest rfl rfl rfl rfl rfl rfl

theorem modSession (s : Part) (n : Nat) (f : Session → Session) : s.Alike (s.modSession n f) := .rest rfl rfl rfl rfl rfl rfl

theorem modLif (s : Part) (f : Lif → Lif) : s.Alike (s.modLif f) := .rest rfl rfl rfl rfl rfl rfl

/-! ### The same change on both sides -/

theorem modPoint (h : u.Alike v) (p : Nat) {f g : Point → Point} (hf : ∀ x y, x.Alike y → (f x).Alike (g y)) :
    (u.modPoint p f).Alike (v.modPoint p g) where
  pointS := h.pointS
  areaS := h.areaS
  now := h.now
  point q := by
    rw [Part.modPoint_point, Part.modPoint_point]
    split
    · exact hf _ _ (h.point q)
    · exact h.point q
  area := h.area
  desk := h.desk

theorem modArea (h : u.Alike v) (a : Nat) {f g : Area → Area} (hf : ∀ x y, x.Alike y → (f x).Alike (g y)) :
    (u.modArea a f).Alike (v.modArea a g) where
  pointS := h.pointS
  areaS := h.areaS
  now := h.now
  point := h.point
  area b := by
    rw [Part.modArea_area, Part.modArea_area]
    split
    · exact hf _ _ (h.area b)
    · exact h.area b
  desk := h.desk

theorem modDesk (h : u.Alike v) (d : Nat) {f g : Desk → Desk} (hf : ∀ x y, x.Alike y → (f x).Alike (g y)) :
    (u.modDesk d f).Alike (v.modDesk d g) where
  pointS := h.pointS
  areaS := h.areaS
  now := h.now
  point := h.point
  area := h.area
  desk e := by
    rw [Part.modDesk_desk, Part.modDesk_desk]
    split
    · exact hf _ _ (h.desk e)
    · exact h.desk e

/-! ### A change that the board does not see -/

theorem keepPoint (s : Part) (p : Nat) (f : Point → Point) (hf : ∀ x : Point, x.Alike (f x)) : s.Alike (s.modPoint p f) where
  pointS _ := rfl
  areaS _ := rfl
  now := rfl
  point q := by
    rw [Part.modPoint_point]
    split
    · exact hf _
    · exact .refl _
  area a := .refl (s.area a)
  desk d := .refl (s.desk d)

theorem keepArea (s : Part) (a : Nat) (f : Area → Area) (hf : ∀ x : Area, x.Alike (f x)) : s.Alike (s.modArea a f) where
  pointS _ := rfl
  areaS _ := rfl
  now := rfl
  point p := .refl (s.point p)
  area b := by
    rw [Part.modArea_area]
    split
    · exact hf _
    · exact .refl _
  desk d := .refl (s.desk d)

theorem keepDesk (s : Part) (d : Nat) (f : Desk → Desk) (hf : ∀ x : Desk, x.Alike (f x)) : s.Alike (s.modDesk d f) where
  pointS _ := rfl
  areaS _ := rfl
  now := rfl
  point p := .refl (s.point p)
  area a := .refl (s.area a)
  desk e := by
    rw [Part.modDesk_desk]
    split
    · exact hf _
    · exact .refl _

theorem bump (s : Part) (a : Nat) : s.Alike (s.bump a) := keepArea s a _ fun x => .refl x

theorem changeState (s : Part) (p : Nat) (st : PointState) : s.Alike (s.changeState p st) := by
  refine (keepPoint s p (fun x => { x with state := st, lastChange := s.now }) fun x => .refl x).trans
    (keepArea _ (s.pointS p).area (fun a => { a with counts := (a.counts.dec (s.point p).state).inc st }) fun x => ?_)
  exact ⟨rfl, rfl, (by rw [Counts.inc_deferred, Counts.dec_deferred] :
    x.counts.deferred = ((x.counts.dec (s.point p).state).inc st).deferred), rfl⟩

theorem closeEvent (s t : Part) (extra : List ReportEntry) : t.Alike (closeEvent s extra t) where
  pointS p := by rw [Part.pointS, Part.pointS, closeEvent_live]
  areaS a := by rw [Part.areaS, Part.areaS, closeEvent_live]
  now := by rw [Part.now, Part.now, closeEvent_tset]
  point p := by rw [closeEvent_point]; exact .refl _
  area a := by rw [closeEvent_area]; exact .refl _
  desk d := by
    rw [closeEvent_desk]
    by_cases hd : d ∈ numbers 6
    · rw [Part.refreshHorns_desk t d ((mem_numbers d).1 hd).1 ((mem_numbers d).1 hd).2]
      exact .refl _
    · have hout : ∀ w : Vector Desk 6, getAt w d = default := fun w => getAt_out w d fun h => hd ((mem_numbers d).2 h)
      rw [Part.desk, Part.desk, hout, hout]
      exact .refl _

theorem notify (s : Part) (a : Nat) : s.Alike (s.notify a) := by
  rw [Part.notify_rest]
  exact .rest rfl rfl rfl rfl rfl rfl

theorem calmIfEmpty (s : Part) (a : Nat) (sig : Bool) : s.Alike (s.calmIfEmpty a sig) := by
  unfold Part.calmIfEmpty
  split
  · exact (keepArea s a (fun x => { x with flood := .calm }) fun x => .refl x).trans (write ..)
  · exact refl s

/-- A fold whose steps are alike on both sides. -/
theorem foldl {α : Type} (f g : Part → α → Part) (l : List α)
    (hf : ∀ x ∈ l, ∀ u v : Part, u.Alike v → (f u x).Alike (g v x)) (h : u.Alike v) : (l.foldl f u).Alike (l.foldl g v) := by
  induction l generalizing u v with
  | nil => exact h
  | cons x l ih =>
    exact ih (fun y hy => hf y (List.mem_cons_of_mem _ hy)) (hf x List.mem_cons_self u v h)

theorem keepFold {α : Type} (f : Part → α → Part) (hf : ∀ (u : Part) x, u.Alike (f u x)) (l : List α) (s : Part) :
    s.Alike (l.foldl f s) := by
  induction l generalizing s with
  | nil => exact refl s
  | cons x l ih => exact (hf s x).trans (ih _)

/-! ### Queues, slots and the fill -/

theorem setPlacement (h : u.Alike v) (p : Nat) (x : Placement) :
    (u.modPoint p fun y => { y with placement := x }).Alike (v.modPoint p fun y => { y with placement := x }) :=
  h.modPoint p fun _ _ hxy => ⟨rfl, hxy.2⟩

theorem modPend (h : u.Alike v) (a : Nat) (f : Vector (List Nat) 4 → Vector (List Nat) 4) :
    (u.modArea a fun x => { x with pend := f x.pend }).Alike (v.modArea a fun x => { x with pend := f x.pend }) :=
  h.modArea a fun _ _ ⟨hpend, hrest⟩ => ⟨congrArg f hpend, hrest⟩

theorem emptySlot (h : u.Alike v) (d k : Nat) : (u.emptySlot d k).Alike (v.emptySlot d k) :=
  h.modDesk d fun _ _ ⟨hslots, horder, hrotation⟩ =>
    ⟨congrArg (setAt · k none) hslots, congrArg (List.filter (· != k)) horder, hrotation⟩

theorem joinPending (h : u.Alike v) (p : Nat) : (u.joinPending p).Alike (v.joinPending p) := by
  unfold Part.joinPending
  rw [h.pointS]
  exact (h.modPend _ fun w => modAt w (v.pointS p).priority (· ++ [p])).setPlacement p .queued

theorem returnHead (h : u.Alike v) (p : Nat) : (u.returnHead p).Alike (v.returnHead p) := by
  unfold Part.returnHead
  rw [h.pointS]
  exact (h.modPend _ fun w => modAt w (v.pointS p).priority (p :: ·)).setPlacement p .queued

theorem joinDeferred (h : u.Alike v) (p : Nat) : (u.joinDeferred p).Alike (v.joinDeferred p) := by
  unfold Part.joinDeferred
  rw [h.pointS]
  refine (h.modArea _ fun _ _ hxy => ?_).setPlacement p _
  obtain ⟨hpend, hdefer, hcount, hdesk⟩ := hxy
  exact ⟨hpend, by simp only [hdefer], congrArg (· + 1) hcount, hdesk⟩

theorem place (h : u.Alike v) (p : Nat) (hflood : (u.area (u.pointS p).area).flood = (v.area (v.pointS p).area).flood) :
    (u.place p).Alike (v.place p) := by
  unfold Part.place
  dsimp only
  rw [hflood, h.areaS, h.pointS]
  split
  · exact h.joinDeferred p
  · exact h.joinPending p

theorem withdraw (h : u.Alike v) (p : Nat) : (u.withdraw p).Alike (v.withdraw p) := by
  unfold Part.withdraw
  rw [(h.point p).1, h.pointS]
  refine setPlacement ?_ p _
  dsimp only
  split
  · exact h
  · exact h.modPend _ fun w => modAt w (v.pointS p).priority (·.erase p)
  · refine h.modArea _ fun _ _ hxy => ?_
    obtain ⟨hpend, hdefer, hcount, hdesk⟩ := hxy
    exact ⟨hpend, by simp only [hdefer], congrArg (· - 1) hcount, hdesk⟩
  · exact h.emptySlot _ _

theorem returnSlot (h : u.Alike v) (d k : Nat) : (u.returnSlot d k).Alike (v.returnSlot d k) := by
  unfold Part.returnSlot
  obtain ⟨hslots, _⟩ := h.desk d
  rw [hslots]
  split
  · exact h
  · exact (h.emptySlot d k).returnHead _

theorem slotPriority (h : u.Alike v) (d k : Nat) : u.slotPriority d k = v.slotPriority d k := by
  unfold Part.slotPriority
  obtain ⟨hslots, _⟩ := h.desk d
  simp only [hslots, h.pointS]

theorem candidate (h : u.Alike v) (d : Nat) : u.candidate d = v.candidate d := by
  unfold Part.candidate
  obtain ⟨_, _, hrotation⟩ := h.desk d
  have hpend : ∀ a, (u.area a).pend = (v.area a).pend := fun a => (h.area a).1
  have hdesk : ∀ a, (u.area a).pdesk = (v.area a).pdesk := fun a => (h.area a).2.2.2
  simp only [hrotation, hpend, hdesk]

theorem emptySlotNo (h : u.Alike v) (d : Nat) : (u.desk d).emptySlotNo = (v.desk d).emptySlotNo := by
  unfold Desk.emptySlotNo
  rw [(h.desk d).1]

theorem leastUrgent (h : u.Alike v) (d : Nat) : u.leastUrgent d = v.leastUrgent d := by
  unfold Part.leastUrgent
  simp only [(h.desk d).2.1, h.slotPriority]

theorem placeInSlot (h : u.Alike v) (d k a pr p : Nat) : (u.placeInSlot d k a pr p).Alike (v.placeInSlot d k a pr p) := by
  unfold Part.placeInSlot
  rw [(h.point p).2, h.now]
  refine Alike.setPlacement ((h.modPend a fun w => modAt w pr List.tail).modDesk d fun _ _ hxy => ?_) p _
  obtain ⟨hslots, horder, hrotation⟩ := hxy
  exact ⟨congrArg (setAt · k _) hslots, congrArg (· ++ [k]) horder, congrArg (fun l => l.filter (· != a) ++ [a]) hrotation⟩

theorem fillStep (h : u.Alike v) (d : Nat) :
    (u.fillStep d = none ∧ v.fillStep d = none)
    ∨ ∃ x y, u.fillStep d = some x ∧ v.fillStep d = some y ∧ x.Alike y := by
  unfold Part.fillStep
  rw [h.candidate, h.emptySlotNo, h.leastUrgent]
  split
  · exact .inl ⟨rfl, rfl⟩
  · split
    · exact .inr ⟨_, _, rfl, rfl, h.placeInSlot ..⟩
    · split
      · exact .inl ⟨rfl, rfl⟩
      · rw [h.slotPriority]
        split
        · exact .inr ⟨_, _, rfl, rfl, (h.returnSlot ..).placeInSlot ..⟩
        · exact .inl ⟨rfl, rfl⟩

theorem fillLoop (h : u.Alike v) (n d : Nat) : (Part.fillLoop n u d).Alike (Part.fillLoop n v d) := by
  induction n generalizing u v with
  | zero => exact h
  | succ n ih =>
    unfold Part.fillLoop
    rcases h.fillStep d with ⟨hu, hv⟩ | ⟨x, y, hu, hv, hxy⟩
    · rw [hu, hv]
      exact h
    · rw [hu, hv]
      exact ih hxy

theorem fill (h : u.Alike v) (d : Nat) : (u.fill d).Alike (v.fill d) := by
  unfold Part.fill
  split
  · exact h
  · exact h.fillLoop _ d

theorem fills (h : u.Alike v) (l : List Nat) : (l.foldl Part.fill u).Alike (l.foldl Part.fill v) :=
  foldl _ _ l (fun d _ _ _ hxy => hxy.fill d) h

theorem fillWhere (h : u.Alike v) {f g : Nat → Bool} (hf : ∀ d ∈ numbers 6, f d = g d) :
    (u.fillWhere f).Alike (v.fillWhere g) := by
  unfold Part.fillWhere
  rw [show (numbers Config.nDesks).filter f = (numbers Config.nDesks).filter g from List.filter_congr hf]
  exact h.fills _

/-! ### Presentation -/

theorem returnsAt (h : u.Alike v) (newDesk : Nat → Nat) (d : Nat) : (u.returnsAt newDesk d).Alike (v.returnsAt newDesk d) := by
  refine foldl _ _ _ (fun k _ x y hxy => ?_) h
  obtain ⟨hslots, _⟩ := hxy.desk d
  rw [hslots]
  split
  · exact hxy
  · rw [hxy.pointS]
    split
    · exact hxy
    · exact hxy.returnSlot d k

theorem setPresentation (h : u.Alike v) {new old : Nat → PresMode × Nat}
    (hnew : ∀ a ∈ numbers 16, (new a).2 = (old a).2) : (u.setPresentation new).Alike (v.setPresentation old) := by
  refine foldl _ _ _ (fun a ha _ _ hxy => hxy.modArea a fun _ _ hab => ?_) h
  obtain ⟨hpend, hdefer, hcount, _⟩ := hab
  exact ⟨hpend, hdefer, hcount, hnew a ha⟩

end Part.Alike

end Sys2Proof.Machine
end

section
/-! What a recomputation of presentation desks leaves: every area is presented by R10, the board is the one of R108 and R109, and
an event that ends with it changes nothing else (R11). -/

namespace Sys2Proof.Machine

/-! ### A fold over areas -/

theorem foldl_modArea_area (f : Nat → Area → Area) {l : List Nat} (hl : l.Nodup) (s : Part) {a : Nat} (ha : a ∈ numbers 16) :
    (l.foldl (fun t b => t.modArea b (f b)) s).area a = if a ∈ l then f a (s.area a) else s.area a := by
  induction l generalizing s with
  | nil => rfl
  | cons b l ih =>
    obtain ⟨hb, hl⟩ := List.nodup_cons.1 hl
    rw [List.foldl_cons, ih hl, Part.modArea_area]
    by_cases hab : a = b
    · subst hab
      rw [if_neg hb, if_pos ⟨rfl, (mem_numbers a).1 ha⟩, if_pos List.mem_cons_self]
    · simp only [List.mem_cons, hab, false_or, Ne.symm hab, false_and, if_false]

theorem foldl_modArea_rest (f : Nat → Area → Area) (l : List Nat) (s : Part) :
    l.foldl (fun t b => t.modArea b (f b)) s = { s with areas := (l.foldl (fun t b => t.modArea b (f b)) s).areas } := by
  induction l generalizing s with
  | nil => rfl
  | cons b l ih => exact (ih (s.modArea b (f b))).trans rfl

theorem numbers_nodup (n : Nat) : (numbers n).Nodup := List.nodup_range'

theorem setPresentation_area (s : Part) (new : Nat → PresMode × Nat) {a : Nat} (ha : a ∈ numbers 16) :
    (s.setPresentation new).area a = { s.area a with mode := (new a).1, pdesk := (new a).2 } :=
  (foldl_modArea_area (fun b x => { x with mode := (new b).1, pdesk := (new b).2 }) (numbers_nodup 16) s ha).trans
    (if_pos ha)

/-! ### R10: the presentation of an area -/

theorem getAt_outside {α : Type} [Inhabited α] {n : Nat} (v : Vector α n) {i : Nat} (h : i ∉ numbers n) : getAt v i = default :=
  getAt_out v i fun hin => h ((mem_numbers i).2 hin)

/-- A number that names no area is presented nowhere. -/
theorem Part.presentation_outside (s : Part) {a : Nat} (ha : a ∉ numbers 16) : (s.presentation a).2 = 0 := by
  rw [Part.presentation, Part.areaS, getAt_outside _ ha, Part.area, getAt_outside _ ha]
  rfl

theorem Part.pdesk_outside (s : Part) {a : Nat} (ha : a ∉ numbers 16) : (s.area a).pdesk = 0 := by
  rw [Part.area, getAt_outside _ ha]
  rfl

/-- R10: an area with the presentation of `s` is presented, where the people, the responsibility and the live copy are those
of `s`. -/
theorem Part.presented_of {s t : Part} {a : Nat} (hlive : t.live = s.live) (hcred : t.credDesk = s.credDesk)
    (hseat : ∀ d, (t.desk d).signedOn = (s.desk d).signedOn ∧ (t.desk d).stack = (s.desk d).stack)
    (hresp : (t.area a).responsible = (s.area a).responsible)
    (hnew : ((t.area a).mode, (t.area a).pdesk) = s.presentation a) : t.Presented a := by
  obtain ⟨hmode, hdesk⟩ := Prod.ext_iff.1 hnew
  have hareaS : t.areaS a = s.areaS a := by rw [Part.areaS, Part.areaS, hlive]
  have hbase : t.baseLayer (s.areaS a).fallback = s.baseLayer (s.areaS a).fallback := by
    rw [Part.baseLayer, Part.baseLayer, (hseat _).2]
  rw [Part.presentation] at hmode hdesk
  unfold Part.Presented
  dsimp only at hmode hdesk ⊢
  rw [hareaS, hbase, hresp, (hseat _).1, hcred, hmode, hdesk]
  split
  · exact ⟨rfl, rfl⟩
  · split
    · exact ⟨rfl, rfl⟩
    · exact ⟨rfl, rfl⟩

theorem recompute_fills (s : Part) : ∃ back : Part, MovesOnly (back.setPresentation s.presentation) s.recompute :=
  ⟨_, fillWhere_moves _ _⟩

theorem recompute_presentation (s : Part) {a : Nat} (ha : a ∈ numbers 16) :
    ((s.recompute.area a).mode, (s.recompute.area a).pdesk) = s.presentation a := by
  obtain ⟨back, hfilled⟩ := recompute_fills s
  rw [hfilled.area, setPresentation_area back _ ha]

theorem recompute_pdesk (s : Part) (a : Nat) : (s.recompute.area a).pdesk = (s.presentation a).2 := by
  by_cases ha : a ∈ numbers 16
  · exact congrArg Prod.snd (recompute_presentation s ha)
  · exact (s.recompute.pdesk_outside ha).trans (s.presentation_outside ha).symm

/-! ### R108, R109: the board -/

/-- The board of R108 and R109 for new presentation desks. -/
def Part.reseat (u : Part) (new : Nat → PresMode × Nat) : Part :=
  let back := (numbers 6).foldl (fun v d => v.returnsAt (fun a => (new a).2) d) u
  let filled := (numbers 6).filter fun d =>
    (numbers 16).any (fun a => ((u.area a).pdesk == d) != ((new a).2 == d)) || (back.desk d).slots != (u.desk d).slots
  filled.foldl Part.fill (back.setPresentation new)

theorem Part.reseated_iff (u t : Part) :
    u.Reseated t ↔ (u.reseat fun a => ((t.area a).mode, (t.area a).pdesk)).SameBoard t := Iff.rfl

theorem recompute_eq (s : Part) : s.recompute = s.reseat s.presentation := rfl

/-- The board depends on nothing of the old part but its board, and on nothing of the new presentation but the desks. -/
theorem Part.Alike.reseat {u v : Part} (h : u.Alike v) {new old : Nat → PresMode × Nat} (hnew : ∀ a, (new a).2 = (old a).2) :
    (u.reseat new).Alike (v.reseat old) := by
  have hback : ((numbers 6).foldl (fun v d => v.returnsAt (fun a => (new a).2) d) u).Alike
      ((numbers 6).foldl (fun v d => v.returnsAt (fun a => (old a).2) d) v) := by
    rw [show (fun a => (new a).2) = fun a => (old a).2 from funext hnew]
    exact Part.Alike.foldl _ _ _ (fun d _ x y hxy => hxy.returnsAt _ d) h
  unfold Part.reseat
  dsimp only
  generalize (numbers 6).foldl (fun v d => v.returnsAt (fun a => (new a).2) d) u = back at hback ⊢
  generalize (numbers 6).foldl (fun v d => v.returnsAt (fun a => (old a).2) d) v = back' at hback ⊢
  have hold : ∀ a, (u.area a).pdesk = (v.area a).pdesk := fun a =>
    have ⟨_, _, _, hdesk⟩ := h.area a
    hdesk
  have hslots : ∀ d, (u.desk d).slots = (v.desk d).slots := fun d => (h.desk d).1
  have hbackSlots : ∀ d, (back.desk d).slots = (back'.desk d).slots := fun d => (hback.desk d).1
  rw [List.filter_congr fun d _ => show
    ((numbers 16).any (fun a => ((u.area a).pdesk == d) != ((new a).2 == d)) || (back.desk d).slots != (u.desk d).slots)
      = ((numbers 16).any (fun a => ((v.area a).pdesk == d) != ((old a).2 == d))
        || (back'.desk d).slots != (v.desk d).slots) by simp only [hold, hnew, hslots, hbackSlots]]
  exact (hback.setPresentation fun a _ => hnew a).fills _

theorem recompute_reseated (s : Part) : s.Reseated s.recompute := by
  rw [Part.reseated_iff]
  refine (Part.Alike.reseat (.refl s) (old := s.presentation) fun a => ?_).sameBoard.trans ?_
  · exact recompute_pdesk s a
  · rw [recompute_eq]
    exact .refl _

/-- The board after a recomputation depends on nothing but the board before it. -/
theorem Part.Reseated.congr {u s t v : Part} (h : u.Reseated t) (hbefore : u.Alike s) (hafter : t.Alike v) : s.Reseated v := by
  rw [Part.reseated_iff] at h ⊢
  have hpdesk : ∀ a, (v.area a).pdesk = (t.area a).pdesk := fun a =>
    have ⟨_, _, _, hdesk⟩ := hafter.area a
    hdesk.symm
  exact ((Part.Alike.reseat hbefore.symm hpdesk).sameBoard.trans h).trans hafter.sameBoard

/-! ### An event that recomputes presentation desks -/

/-- An event of `s` that recomputed the presentation desks of `u`, the part its own changes left, has ended in `t`. -/
structure Reseating (s u t : Part) : Prop where
  point : ∀ q, t.point q = { u.point q with placement := (t.point q).placement }
  area : ∀ a, t.area a = { u.area a with pdesk := (t.area a).pdesk, mode := (t.area a).mode, pend := (t.area a).pend }
  presented : ∀ a ∈ numbers 16, t.Presented a
  desk : ∀ e ∈ numbers 6, t.desk e =
    { u.desk e with
      slots := (t.desk e).slots, order := (t.desk e).order, rotation := (t.desk e).rotation
      horn := (t.desk e).horn, hornPattern := (t.desk e).hornPattern }
  moved : ∀ e ∈ numbers 6, (u.desk e).horn = (s.desk e).horn → (u.desk e).hornPattern = (s.desk e).hornPattern →
    s.HornMoved t e
  board : u.Reseated t
  resetLow : t.resetLow = u.resetLow
  phase : t.phase = u.phase
  tset : t.tset = u.tset
  groups : t.groups = u.groups
  shelf : t.shelf = u.shelf
  credDesk : t.credDesk = u.credDesk
  live : t.live = u.live
  staged : t.staged = u.staged

/-- The end of such an event; after the recomputation it may write records and change sessions. -/
theorem closeEvent_reseating (s : Part) (extra : List ReportEntry) {u w : Part}
    (rest : w = { u.recompute with rst := w.rst, sessions := w.sessions }) : Reseating s u (closeEvent s extra w) := by
  have hpresents := recompute_presents u
  have hdesk : ∀ e, w.desk e = u.recompute.desk e := fun e => by rw [rest]; rfl
  have harea : ∀ a, w.area a = u.recompute.area a := fun a => by rw [rest]; rfl
  have hpoint : ∀ q, w.point q = u.recompute.point q := fun q => by rw [rest]; rfl
  have hlive : w.live = u.live := by rw [rest, hpresents.rest]
  have hcred : w.credDesk = u.credDesk := by rw [rest, hpresents.rest]
  have hend : u.recompute.Alike (closeEvent s extra w) :=
    Part.Alike.trans (.rest (by rw [rest]) (by rw [rest]) (by rw [rest]) (by rw [rest]) (by rw [rest]) (by rw [rest]; rfl))
      (.closeEvent s w extra)
  constructor
  case point => exact fun q => by rw [closeEvent_point, hpoint, hpresents.point]
  case area => exact fun a => by rw [closeEvent_area, harea, hpresents.area]
  case presented =>
    intro a ha
    refine Part.presented_of (s := u) (by rw [closeEvent_live, hlive]) (by rw [closeEvent_credDesk, hcred]) (fun d => ?_)
      (by rw [closeEvent_area, harea, hpresents.area])
      (by rw [closeEvent_area, harea]; exact recompute_presentation u ha)
    obtain ⟨hon, hstack⟩ := w.refreshHorns_seat d
    rw [closeEvent_desk, hon, hstack, hdesk, hpresents.desk]
    exact ⟨rfl, rfl⟩
  case desk =>
    intro e he
    rw [closeEvent_desk_rest s w extra he, hdesk, hpresents.desk]
  case moved =>
    intro e he hhorn hpattern
    exact closeEvent_hornMoved extra e he (by rw [hdesk, hpresents.desk, ← hhorn]) (by rw [hdesk, hpresents.desk, ← hpattern])
  case board => exact (recompute_reseated u).congr (.refl u) hend
  case resetLow => rw [closeEvent_resetLow, rest, hpresents.rest]
  case phase => rw [closeEvent_phase, rest, hpresents.rest]
  case tset => rw [closeEvent_tset, rest, hpresents.rest]
  case groups => rw [closeEvent_groups, rest, hpresents.rest]
  case shelf => rw [closeEvent_shelf, rest, hpresents.rest]
  case credDesk => rw [closeEvent_credDesk, hcred]
  case live => rw [closeEvent_live, hlive]
  case staged => rw [closeEvent_staged, rest, hpresents.rest]

namespace Reseating

variable {s u t : Part}

theorem answered (h : Reseating s.taken u t) (x : Lif) : Reseating s u { t with lif := x } :=
  ⟨h.point, h.area, h.presented, h.desk, h.moved, h.board, h.resetLow, h.phase, h.tset, h.groups, h.shelf, h.credDesk,
    h.live, h.staged⟩

/-- R11, R109: what the event left, where its own changes touched responsibility, session fields and generations. -/
theorem frame (h : Reseating s u t) {resp sess : Nat → Nat} {gen : Nat → W16}
    (hpoint : ∀ q ∈ numbers 1024, u.point q = { s.point q with placement := (u.point q).placement })
    (harea : ∀ a ∈ numbers 16, u.area a =
      { s.area a with responsible := resp a, session := sess a, generation := gen a, pend := (u.area a).pend })
    (hfixed : u.resetLow = s.resetLow ∧ u.phase = s.phase ∧ u.tset = s.tset ∧ u.groups = s.groups ∧ u.shelf = s.shelf) :
    s.PresentFrame t resp sess gen := by
  obtain ⟨hreset, hphase, htset, hgroups, hshelf⟩ := hfixed
  refine ⟨fun q hq => ?_, fun a ha => ?_, h.presented, h.resetLow.trans hreset, h.phase.trans hphase, h.tset.trans htset,
    h.groups.trans hgroups, h.shelf.trans hshelf⟩
  · rw [h.point, hpoint q hq]
  · rw [h.area, harea a ha]

/-- A desk that the event's own changes did not touch. -/
theorem deskMoved (h : Reseating s u t) {e : Nat} (he : e ∈ numbers 6) (hdesk : u.desk e = s.desk e) : s.DeskMoved t e := by
  refine ⟨?_, h.moved e he (by rw [hdesk]) (by rw [hdesk])⟩
  rw [h.desk e he, hdesk]

/-- A desk whose sign-on and stack the event changed, and from which points may have returned. -/
theorem deskReseated (h : Reseating s u t) {e on : Nat} {stack : List Layer} (he : e ∈ numbers 6)
    (hdesk : u.desk e =
      { s.desk e with
        signedOn := on, stack := stack, slots := (u.desk e).slots, order := (u.desk e).order
        rotation := (u.desk e).rotation }) : s.DeskReseated t e on stack := by
  refine ⟨?_, h.moved e he (by rw [hdesk]) (by rw [hdesk])⟩
  rw [h.desk e he, hdesk]

end Reseating

/-- The records written before a recomputation stand after it. -/
theorem Part.Journals.recompute {s u : Part} {l : List (Bool × W16 × RecordFields)} (h : s.Journals u l) :
    s.Journals u.recompute l := by
  have hrest := (recompute_presents u).rest
  exact h.quiet (by rw [hrest]) (by rw [hrest]; rfl) (by rw [hrest]; rfl)

end Sys2Proof.Machine
end

section
/-! SIGN_ON, ASSUME and the edit of a credential while RUNNING (R24, R32 to R35). -/

namespace Sys2Proof.Machine

/-! ### Reports of areas and desks -/

/-- R6: an event that changes a reported field of an area tells its AREA report. -/
theorem closeEvent_tells_area {s t : Part} (extra : List ReportEntry) {a : Nat} (ha : a ∈ numbers 16)
    (h : areaReported (s.area a) (t.area a) = true) : (closeEvent s extra t).Told (areaEntry a) := by
  have harea : t.refreshHorns.area a = t.area a := by rw [Part.area, Part.refreshHorns_rest]; rfl
  have hreported : areaReported (s.area a) (t.refreshHorns.area a) = true := by rw [harea]; exact h
  exact closeEvent_told s extra t _ ((mem_eventReports_iff ..).2 (.inr (.inl ⟨rfl, ha, .inl hreported⟩)))

theorem areaReported_of_generation {x y : Area} (h : y.generation = x.generation + 1) : areaReported x y = true := by
  rw [areaReported_iff]
  rintro ⟨_, hgen, _⟩
  rw [h] at hgen
  simp at hgen

/-- R128: a sign-on or sign-off at a desk changes its lamp source 15. -/
theorem closeEvent_tells_seat {s t : Part} {extra : List ReportEntry} {d : Nat} (hd : d ∈ numbers 6)
    (hrun : t.phase = .running)
    (h : ((s.desk d).signedOn != 0) ≠ ((t.desk d).signedOn != 0)) : (closeEvent s extra t).Told (deskEntry d) := by
  obtain ⟨hon, _⟩ := t.refreshHorns_seat d
  have hphase : t.refreshHorns.phase = .running := by rw [Part.refreshHorns_rest]; exact hrun
  refine closeEvent_tells_desk hd (.inl (deskReported_of_lampSource hphase (k := 15) (by decide) ?_))
  show ((s.desk d).signedOn != 0) ≠ ((t.refreshHorns.desk d).signedOn != 0)
  rwa [hon]

/-- R184: the kinds that BLANK and LOADING turn away. -/
theorem Part.Takes.running {s : Part} {k : ReqKind} {tag : Byte} {body : List Byte} (h : s.Takes k tag body)
    (hk : k ∉ takenAlways ++ takenLoading) : s.phase = .running := by
  obtain ⟨_, _, haccepted⟩ := h
  obtain ⟨hblank, hloading, _⟩ := acceptedIn_iff k
  cases hphase : s.phase with
  | blank => rw [hphase] at haccepted; exact absurd (List.mem_append_left _ (hblank.1 haccepted)) hk
  | loading => rw [hphase] at haccepted; exact absurd (hloading.1 haccepted) hk
  | running => rfl

theorem Part.Reseated.answered {s t : Part} (h : s.taken.Reseated t) (x : Lif) : s.Reseated { t with lif := x } :=
  h.congr (.symm (.taken s)) (.rest rfl rfl rfl rfl rfl rfl)

/-! ### SIGN_ON (R24) -/

theorem exec_signOn (u : State) : exec .signOn u = onRequest .signOn signOnHandler u := rfl

/-- R24: credential `c` at desk `d`, before the presentation desks are recomputed. -/
def Part.seated (s : Part) (d c : Nat) : Part :=
  { s.modDesk d fun x => { x with signedOn := c, stack := [s.baseOf c] } with credDesk := setAt s.credDesk c d }

theorem Part.signOn_eq (s : Part) (d c : Nat) :
    s.signOn d c = closeEvent s [] ((s.seated d c).recompute.write false { kind := .signOn, desk := d, credential := c }) :=
  rfl

theorem Part.seated_alike (s : Part) (d c : Nat) : s.Alike (s.seated d c) :=
  (Part.Alike.keepDesk s d (fun x => { x with signedOn := c, stack := [s.baseOf c] }) fun x => .refl x).trans
    (.rest rfl rfl rfl rfl rfl rfl)

theorem Part.seated_desk (s : Part) (d c : Nat) {e : Nat} (he : e ∈ numbers 6) :
    (s.seated d c).desk e = if e = d then { s.desk e with signedOn := c, stack := [s.baseOf c] } else s.desk e := by
  show (s.modDesk d fun x => { x with signedOn := c, stack := [s.baseOf c] }).desk e = _
  by_cases h : e = d
  · subst h
    rw [Part.modDesk_desk_same s _ he, if_pos rfl]
  · rw [Part.modDesk_desk_ne s _ h, if_neg h]

theorem Part.signOn_signedOn {s : Part} {d c : Nat} (hd : d ∈ numbers 6) (hc : c ∈ numbers 64) (hrun : s.phase = .running)
    (hempty : (s.desk d).signedOn = 0) : s.SignedOn (s.signOn d c) d c := by
  have hne : c ≠ 0 := by
    rintro rfl
    exact absurd ((mem_numbers 0).1 hc).1 (by decide)
  have hreseating : Reseating s (s.seated d c) (s.signOn d c) := closeEvent_reseating s [] rfl
  have hdesk := s.seated_desk d c hd
  rw [if_pos rfl] at hdesk
  have hon : (((s.seated d c).recompute.write false { kind := .signOn, desk := d, credential := c }).desk d).signedOn = c := by
    show ((s.seated d c).recompute.desk d).signedOn = c
    rw [(recompute_presents _).desk, hdesk]
  have hjournal : s.Journals ((s.seated d c).recompute.write false { kind := .signOn, desk := d, credential := c })
      [(false, 0, { kind := .signOn, desk := d, credential := c })] :=
    (Part.Journals.start (s := s) (v := s.seated d c) rfl rfl rfl).recompute.write false _
  refine ⟨hreseating.credDesk, hreseating.deskReseated hd ?_, fun e he hne => hreseating.deskMoved he ?_,
    hreseating.frame (fun _ _ => rfl) (fun _ _ => rfl) ⟨rfl, rfl, rfl, rfl, rfl⟩,
    hreseating.board.congr (s.seated_alike d c).symm (.refl _), hreseating.live, hreseating.staged, ?_, hjournal.close [], ?_, ?_⟩
  · rw [hdesk]
    rfl
  · rw [s.seated_desk d c he, if_neg hne]
  · rw [Part.signOn_eq, closeEvent_sessions, Part.write_sessions, (recompute_presents _).rest]
    rfl
  · rw [Part.signOn_eq]
    refine closeEvent_tells_authority hd (.inl ?_)
    rw [authorityReported_iff, hon, hempty]
    exact fun hsame => hne hsame.1.symm
  · rw [Part.signOn_eq]
    refine closeEvent_tells_seat hd ?_ ?_
    · rw [Part.write_phase, (recompute_presents _).rest]
      exact hrun
    · rw [hon, hempty, bne_iff_ne.2 hne]
      decide

theorem Part.signOnCheck_passes {s : Part} {d badge c : Nat} (hdesk : isDesk d = true) (hbadge : s.findBadge badge = some c)
    (hd : d ≠ 0) (hfree : getAt s.credDesk c = 0) (hempty : (s.desk d).signedOn = 0)
    (hview : permsWithin Perm.view.set (s.effPerms c) = true) : s.signOnCheck d badge = .ok c := by
  rw [Part.signOnCheck, hdesk, hbadge]
  simp only [hfree, hempty, hview, Ne.symm hd, Bool.not_true, Bool.false_eq_true, if_false, ne_eq, not_true]

theorem Part.SignedOn.answered {s t : Part} {d c : Nat} (h : s.taken.SignedOn t d c) {x : Lif} (hlink : x.link = t.lif.link) :
    s.SignedOn { t with lif := x } d c := by
  obtain ⟨hcred, hdesk, hothers, hframe, hboard, hlive, hstaged, hsessions, hwrote, htold, htoldDesk⟩ := h
  exact ⟨hcred, hdesk, hothers, hframe, hboard.answered x, hlive, hstaged, hsessions,
    hwrote.answered hlink, htold, htoldDesk⟩

/-- Settles O31: the sign-on recomputes the presentation desks once the credential is seated. -/
theorem signOnSeatsACredential : Obligations.SignOnSeatsACredential := by
  intro s tag body c h d hdesk hc hbadge hvalid hmine hunique hfree hempty hview
  have hd := (isDesk_iff d).1 hdesk
  have hpos : d ≠ 0 := Nat.one_le_iff_ne_zero.1 ((mem_numbers d).1 hd).1
  have hcheck : s.taken.signOnCheck (byteAt body 0) (field32 body 1) = .ok c :=
    Part.signOnCheck_passes hdesk (Part.findBadge_eq (s := s.taken) hc hbadge hvalid hmine hunique) hpos hfree hempty hview
  have hanswer : signOnHandler body s.taken = (s.taken.signOn d c, [0, byteOf c]) := by
    unfold signOnHandler
    simp only [hcheck]
    rfl
  have hlif : (s.taken.signOn d c).lif = s.taken.lif := by
    have := (event_signOn body s.taken).lif
    rwa [hanswer] at this
  have hsigned := Part.signOn_signedOn (s := s.taken) hd hc (h.running (by decide)) hempty
  exact ⟨_, completes_answered exec_signOn h hanswer hlif, rfl, hsigned.answered (Part.answer_link_of hlif ..)⟩

/-! ### ASSUME (R32, R33) -/

theorem exec_assume (u : State) : exec .assume u = onRequest .assume assumeHandler u := rfl

theorem byteList_one {body : List Byte} (h : body.length = 2) : byteList body 1 = [byteAt body 1] := by
  obtain ⟨x, y, rfl⟩ := List.length_eq_two.1 h
  rfl

theorem assumeHandler_one {s : Part} {body : List Byte} (hlen : body.length = 2) (hdesk : isDesk (byteAt body 0) = true)
    (hon : (s.desk (byteAt body 0)).signedOn ≠ 0) :
    assumeHandler body s =
      match s.assumeCheck (byteAt body 0) (byteAt body 1) with
      | some r => (s.refuse (byteAt body 0) (byteAt body 1) 0 0 r, [0, r.byte])
      | none => (s.assumeArea (byteAt body 0) (byteAt body 1) true, [0, 0]) := by
  unfold assumeHandler
  simp only [hdesk, hon, byteList_one hlen, Bool.not_true, Bool.false_eq_true, if_false]
  unfold Part.assumeItems
  split
  · next hcheck => simp only [hcheck]; rfl
  · next hcheck => simp only [hcheck]; rfl

/-- R33: area `a` in the hands of credential `c`, before the presentation desks are recomputed. -/
def Part.assigned (s : Part) (a c : Nat) : Part := (s.modArea a fun x => { x with responsible := c }).bump a

theorem Part.assigned_alike (s : Part) (a c : Nat) : s.Alike (s.assigned a c) :=
  (Part.Alike.keepArea s a (fun x => { x with responsible := c }) fun x => .refl x).trans (.bump _ a)

theorem Part.assigned_area (s : Part) {a : Nat} (ha : a ∈ numbers 16) (c b : Nat) : (s.assigned a c).area b =
    if b = a then { s.area b with responsible := c, generation := (s.area b).generation + 1 } else s.area b := by
  unfold Part.assigned Part.bump
  rw [Part.modArea_area, Part.modArea_area]
  by_cases hb : a = b
  · subst hb
    rw [if_pos ⟨rfl, (mem_numbers a).1 ha⟩, if_pos ⟨rfl, (mem_numbers a).1 ha⟩, if_pos rfl]
  · rw [if_neg fun h => hb h.1, if_neg fun h => hb h.1, if_neg (Ne.symm hb)]

theorem Part.assumeArea_eq (s : Part) (d a : Nat) :
    s.assumeArea d a true = closeEvent s [authorityEntry d] ((s.assigned a (s.desk d).signedOn).recompute.write true
      { kind := .assume, area := a, desk := d, credential := (s.desk d).signedOn }) := rfl

theorem Part.assumeArea_assumed {s : Part} {d a : Nat} (hd : d ∈ numbers 6) (ha : a ∈ numbers 16) :
    s.Assumed (s.assumeArea d a true) d a := by
  have hpos : a ≠ 0 := Nat.one_le_iff_ne_zero.1 ((mem_numbers a).1 ha).1
  have harea := fun b => s.assigned_area ha (s.desk d).signedOn b
  generalize hc : (s.desk d).signedOn = c at harea
  rw [Part.assumeArea_eq, hc]
  have hpresents := recompute_presents (s.assigned a c)
  have hreseating : Reseating s (s.assigned a c) (closeEvent s [authorityEntry d] ((s.assigned a c).recompute.write true
      { kind := .assume, area := a, desk := d, credential := c })) := closeEvent_reseating s _ rfl
  have hgen : ((s.assigned a c).recompute.area a).generation = (s.area a).generation + 1 := by
    rw [hpresents.area, harea, if_pos rfl]
  have hjournal : s.Journals ((s.assigned a c).recompute.write true { kind := .assume, area := a, desk := d, credential := c })
      [(true, (s.area a).generation + 1, { kind := .assume, area := a, desk := d, credential := c })] := by
    have h := (Part.Journals.start (s := s) (v := s.assigned a c) rfl rfl rfl).recompute.write true
      { kind := .assume, area := a, desk := d, credential := c }
    rwa [Part.generationOf_pos _ hpos, hgen] at h
  unfold Part.Assumed
  dsimp only
  rw [hc]
  refine ⟨hreseating.frame (fun _ _ => rfl) (fun b _ => ?_) ⟨rfl, rfl, rfl, rfl, rfl⟩,
    fun e he => hreseating.deskMoved he rfl, hreseating.board.congr (s.assigned_alike a c).symm (.refl _),
    hreseating.credDesk, hreseating.live, hreseating.staged, ?_, hjournal.close _, ?_, ?_⟩
  · rw [harea]
    split <;> rfl
  · rw [closeEvent_sessions, Part.write_sessions, hpresents.rest]
    rfl
  · exact closeEvent_tells_area _ ha (areaReported_of_generation hgen)
  · exact closeEvent_tells_authority hd (.inr List.mem_cons_self)

theorem Part.Assumed.answered {s t : Part} {d a : Nat} (h : s.taken.Assumed t d a) {x : Lif} (hlink : x.link = t.lif.link) :
    s.Assumed { t with lif := x } d a := by
  obtain ⟨hframe, hdesks, hboard, hcred, hlive, hstaged, hsessions, hwrote, htold, htoldDesk⟩ := h
  exact ⟨hframe, hdesks, hboard.answered x, hcred, hlive, hstaged, hsessions,
    Part.WroteAnd.answered hwrote hlink, htold, htoldDesk⟩

/-- A result as a check answers it: none when the request passes. -/
def ResultCode.failing (r : ResultCode) : Option ResultCode := if r = .ok then none else some r

theorem ResultCode.failing_ok {r : ResultCode} (h : r = .ok) : r.failing = none := if_pos h

theorem ResultCode.failing_some {r : ResultCode} (h : r ≠ .ok) : r.failing = some r := if_neg h

/-- R32: the result of an area in an ASSUME request. -/
def Part.assumeCode (s : Part) (d a : Nat) : ResultCode :=
  if isArea a = false then .badField
  else if allows (s.baseLayer d) (Perm.take.set ||| Perm.ack.set) a = false then .denied
  else if (s.area a).responsible = (s.desk d).signedOn then .repeated
  else if (s.area a).responsible ≠ 0 ∨ (s.area a).session ≠ 0 then .areaBusy
  else .ok

theorem Part.assumeCheck_eq (s : Part) (d a : Nat) : s.assumeCheck d a = (s.assumeCode d a).failing := by
  unfold Part.assumeCheck Part.assumeCode permTakeAck
  simp only [Bool.not_eq_true', apply_ite ResultCode.failing]
  rfl

/-- Settles O34: `assumeHandler_one` gives the answer, `assumeArea_assumed` what a success changes. -/
theorem assumeTakesAnArea : Obligations.AssumeTakesAnArea := by
  intro s tag body h hlen d a code hdesk hon
  have hd := (isDesk_iff d).1 hdesk
  have hanswer := assumeHandler_one (s := s.taken) hlen hdesk hon
  have hcheck : s.taken.assumeCheck (byteAt body 0) (byteAt body 1) = code.failing := s.taken.assumeCheck_eq d a
  rw [hcheck] at hanswer
  refine ⟨fun hok => ?_, fun hdenied => ?_, fun hnok hndenied => ?_⟩
  · have ha : a ∈ numbers 16 := by
      rw [← isArea_iff]
      by_contra hno
      have hbad : code = .badField := if_pos (Bool.eq_false_iff.2 hno)
      rw [hok] at hbad
      exact ResultCode.noConfusion hbad
    rw [ResultCode.failing_ok hok] at hanswer
    have hlif : (s.taken.assumeArea d a true).lif = s.taken.lif := (s.taken.event_assumeArea (auth := true) d a true).lif
    exact ⟨_, completes_answered exec_assume h hanswer hlif, rfl,
      (Part.assumeArea_assumed (s := s.taken) hd ha).answered (Part.answer_link_of hlif ..)⟩
  · have ha : a ≠ 0 := by
      intro hzero
      have hbad : code = .badField := if_pos (by rw [hzero]; rfl)
      rw [hdenied] at hbad
      exact ResultCode.noConfusion hbad
    rw [hdenied] at hanswer
    have hlif := s.taken.refuse_lif d a 0 0 .denied
    have honly := s.taken.refuse_onlyWrote (r := .denied) rfl d a 0 0
    rw [Part.generationOf_pos _ ha] at honly
    rw [hdenied]
    exact ⟨_, completes_answered exec_assume h hanswer hlif, rfl, honly.answered (Part.answer_link_of hlif ..)⟩
  · rw [ResultCode.failing_some hnok] at hanswer
    refine completes_unchanged exec_assume h (hanswer.trans ?_)
    have hplain : code.journaled = false := by
      have hcodes : code = .badField ∨ code = .denied ∨ code = .repeated ∨ code = .areaBusy ∨ code = .ok := by
        show (ite _ _ _ : ResultCode) = _ ∨ (ite _ _ _ : ResultCode) = _ ∨ (ite _ _ _ : ResultCode) = _
          ∨ (ite _ _ _ : ResultCode) = _ ∨ (ite _ _ _ : ResultCode) = _
        split_ifs <;> simp
      rcases hcodes with h' | h' | h' | h' | h'
      · rw [h']; rfl
      · exact absurd h' hndenied
      · rw [h']; rfl
      · rw [h']; rfl
      · exact absurd h' hnok
    simp only [Part.refuse_unjournaled hplain]

end Sys2Proof.Machine
end

section
/-! The edit of a credential while RUNNING (R34, R35). -/

namespace Sys2Proof.Machine

theorem exec_configCredential (u : State) : exec .configCredential u = onRequest .configCredential configCredentialHandler u := rfl

/-! ### The stack built again (R35) -/

/-- R35: each layer is built over the one below it. -/
theorem rebuildOver_layer {below : Layer} {l : List Layer} (hl : ∀ y ∈ l, y.elev.isSome = true) {i : Nat} {under x : Layer}
    {e : Elevation} (hunder : (below :: rebuildOver below l)[i]? = some under) (hx : l[i]? = some x) (he : x.elev = some e) :
    (rebuildOver below l)[i]? =
      some { perms := under.perms ||| e.grantPerms, scope := under.scope ||| e.grantScope, elev := some e } := by
  induction l generalizing below i with
  | nil => simp at hx
  | cons y l ih =>
    obtain ⟨g, hg⟩ := Option.isSome_iff_exists.1 (hl y List.mem_cons_self)
    rw [rebuildOver_some below y g hg] at hunder ⊢
    cases i with
    | zero =>
      simp only [List.getElem?_cons_zero, Option.some.injEq] at hunder hx ⊢
      subst hunder hx
      rw [hg, Option.some.injEq] at he
      subst he
      rw [hg]
    | succ i =>
      simp only [List.getElem?_cons_succ] at hunder hx ⊢
      exact ih (fun z hz => hl z (List.mem_cons_of_mem _ hz)) hunder hx

/-- R35: the stack of a seated desk built again over a new base layer. -/
theorem rebuiltOver_of_rises {base : Layer} {old : List Layer} (hne : old ≠ []) (hrise : stackRises old = true) :
    RebuiltOver base old (base :: rebuildOver base old.tail) := by
  obtain ⟨first, rest, rfl⟩ := List.exists_cons_of_ne_nil hne
  refine ⟨by rw [List.length_cons, List.length_cons, rebuildOver_length]; rfl, rfl, fun i _ below hbelow x hx e he => ?_⟩
  rw [List.getElem?_cons_succ] at hx ⊢
  exact rebuildOver_layer (stackRises_elev hrise) hbelow hx he

/-! ### The edit -/

/-- R35: the edit of credential `c` to `x`, before the presentation desks are recomputed. -/
def Part.edited (s : Part) (c : Nat) (x : Credential) : Part :=
  if getAt s.credDesk c = 0 then s.setCred c x
  else (s.setCred c x).modDesk (getAt s.credDesk c) fun y =>
    { y with stack := (s.setCred c x).baseOf c :: rebuildOver ((s.setCred c x).baseOf c) y.stack.tail }

theorem Part.editCredential_eq (s : Part) (c : Nat) (x : Credential) :
    s.editCredential c x =
      closeEvent s (if getAt s.credDesk c = 0 then [] else [authorityEntry (getAt s.credDesk c)]) (s.edited c x).recompute := rfl

theorem Part.edited_rest (s : Part) (c : Nat) (x : Credential) :
    s.edited c x = { s.setCred c x with desks := (s.edited c x).desks } := by
  unfold Part.edited
  split <;> rfl

theorem Part.setCred_alike (s : Part) (c : Nat) (x : Credential) : s.Alike (s.setCred c x) :=
  .rest rfl rfl rfl rfl rfl rfl

theorem Part.edited_alike (s : Part) (c : Nat) (x : Credential) : s.Alike (s.edited c x) := by
  unfold Part.edited
  split
  · exact s.setCred_alike c x
  · exact (s.setCred_alike c x).trans (.keepDesk _ _ _ fun y => .refl y)

theorem Part.edited_otherDesk (s : Part) (c : Nat) (x : Credential) {e : Nat} (he : e ≠ getAt s.credDesk c) :
    (s.edited c x).desk e = s.desk e := by
  unfold Part.edited
  split
  · rfl
  · exact Part.modDesk_desk_ne _ _ he

theorem Part.edited_desk (s : Part) {c : Nat} (x : Credential) (hd : getAt s.credDesk c ∈ numbers 6) :
    (s.edited c x).desk (getAt s.credDesk c) =
      { s.desk (getAt s.credDesk c) with
        stack := (s.setCred c x).baseOf c
          :: rebuildOver ((s.setCred c x).baseOf c) (s.desk (getAt s.credDesk c)).stack.tail } := by
  have hne : getAt s.credDesk c ≠ 0 := Nat.one_le_iff_ne_zero.1 ((mem_numbers _).1 hd).1
  unfold Part.edited
  rw [if_neg hne, Part.modDesk_desk_same _ _ hd]
  rfl

/-- R21: the base layer of an edited credential. -/
theorem Part.setCred_base (s : Part) {c : Nat} (hc : c ∈ numbers 64) (x : Credential) : (s.setCred c x).baseOf c =
    { perms := effectivePerms (getAt s.live.roles x.role) x, scope := x.scope, elev := none } := by
  have hcred : (s.setCred c x).cred c = x := by rw [Part.cred]; exact getAt_setAt_same _ c x ((mem_numbers c).1 hc).1 ((mem_numbers c).1 hc).2
  rw [Part.baseOf, Part.effPerms, hcred]
  rfl

theorem Part.editCredential_edited {s : Part} {c : Nat} (hc : c ∈ numbers 64) (x : Credential) (hagree : s.SignOnsAgree) :
    s.Edited (s.editCredential c x) c x := by
  obtain ⟨hseats, hcreds⟩ := s.signOnsAgree_iff.1 hagree
  have hseat : getAt s.credDesk c ≠ 0 → getAt s.credDesk c ∈ numbers 6 ∧ (s.desk (getAt s.credDesk c)).stack ≠ []
      ∧ stackRises (s.desk (getAt s.credDesk c)).stack = true := by
    intro hne
    obtain ⟨hle, hon⟩ := hcreds c hc hne
    have hd : getAt s.credDesk c ∈ numbers 6 := (mem_numbers _).2 ⟨Nat.one_le_iff_ne_zero.2 hne, hle⟩
    obtain ⟨_, hholder, _, hrise⟩ := hseats _ hd
    refine ⟨hd, ?_, hrise⟩
    obtain ⟨_, _, _, hhead⟩ := hholder (by rw [hon]; exact Nat.one_le_iff_ne_zero.1 ((mem_numbers c).1 hc).1)
    intro hnil
    rw [hnil] at hhead
    exact absurd hhead (by simp)
  have hreseating : Reseating s (s.edited c x) (s.editCredential c x) := by
    rw [Part.editCredential_eq]
    exact closeEvent_reseating s _ rfl
  have hrest := s.edited_rest c x
  have hjournal : s.Journals (s.edited c x).recompute [] := by
    refine (Part.Journals.start (s := s) (v := s.edited c x) ?_ ?_ ?_).recompute <;> rw [hrest] <;> rfl
  unfold Part.Edited
  dsimp only
  refine ⟨?_, ?_, fun e he hne => hreseating.deskMoved he (s.edited_otherDesk c x hne), fun hne => ?_,
    hreseating.frame (fun q _ => ?_) (fun a _ => ?_) ?_, hreseating.board.congr (s.edited_alike c x).symm (.refl _), ?_, ?_, ?_⟩
  · rw [hreseating.live, hrest]
    rfl
  · rw [hreseating.staged, hrest]
    rfl
  · obtain ⟨hd, hstack, hrise⟩ := hseat hne
    have hdesk := s.edited_desk x hd
    have hnew : ((s.editCredential c x).desk (getAt s.credDesk c)).stack = (s.setCred c x).baseOf c
        :: rebuildOver ((s.setCred c x).baseOf c) (s.desk (getAt s.credDesk c)).stack.tail := by
      rw [hreseating.desk _ hd, hdesk]
    refine ⟨hreseating.deskReseated hd ?_, ?_, ?_⟩
    · rw [hnew, hdesk]
    · rw [hnew, s.setCred_base hc]
      exact rebuiltOver_of_rises hstack hrise
    · rw [Part.editCredential_eq, if_neg hne]
      exact closeEvent_tells_authority hd (.inr List.mem_cons_self)
  · rw [hrest]
    rfl
  · rw [hrest]
    rfl
  · rw [hrest]
    exact ⟨rfl, rfl, rfl, rfl, rfl⟩
  · rw [hreseating.credDesk, hrest]
    rfl
  · rw [Part.editCredential_eq, closeEvent_sessions, (recompute_presents _).rest, hrest]
    rfl
  · rw [Part.editCredential_eq]
    exact hjournal.close _

theorem Part.Edited.answered {s t : Part} {c : Nat} {x : Credential} (h : s.taken.Edited t c x) {y : Lif}
    (hlink : y.link = t.lif.link) : s.Edited { t with lif := y } c x := by
  obtain ⟨hlive, hstaged, hothers, hdesk, hframe, hboard, hcred, hsessions, hwrote⟩ := h
  exact ⟨hlive, hstaged, hothers, hdesk, hframe, hboard.answered y, hcred, hsessions, Part.WroteAnd.answered hwrote hlink⟩

/-! ### Its checks (R34) -/

theorem Part.configureCheck_passes {s : Part} {d : Nat} (hdesk : isDesk d = true) (hon : (s.desk d).signedOn ≠ 0)
    (hmay : allowsPlantWide (s.topLayer d) Perm.configure.set = true) : s.configureCheck d false = none := by
  rw [Part.configureCheck, hdesk, hmay, if_neg (by decide), if_neg hon, if_neg (by decide)]

theorem Part.editCheck_passes {s : Part} {d c : Nat} {x : Credential} (hcheck : s.configureCheck d false = none)
    (hc : c ∈ numbers 64) (hbadge : x.badge ≠ 0) (hrole : x.role ∈ numbers 8) (hgrant : x.grant.toNat < 4096)
    (hdeny : x.deny.toNat < 4096)
    (hunique : ∀ j ∈ numbers 64, j ≠ c → (s.cred j).valid = true → (s.cred j).badge ≠ x.badge)
    (hholds : ∀ a ∈ numbers 16, (s.area a).responsible = c →
      permsWithin Perm.ack.set (effectivePerms (getAt s.live.roles x.role) x) = true ∧ inScope x.scope a = true) :
    s.editCheck d c 1 x = none := by
  have hfields : s.editBadField c 1 x = false := by
    obtain ⟨hlo, hhi⟩ := (mem_numbers c).1 hc
    obtain ⟨hrlo, hrhi⟩ := (mem_numbers x.role).1 hrole
    have hothers : ((numbers 64).any fun k => k != c && (s.cred k).valid && (s.cred k).badge == x.badge) = false := by
      rw [List.any_eq_false]
      intro j hj
      simp only [Bool.and_eq_true, bne_iff_ne, beq_iff_eq, not_and]
      exact fun ⟨hne, hv⟩ => hunique j hj hne hv
    unfold Part.editBadField
    rw [show ((numbers Config.nCreds).any fun k => k != c && (s.cred k).valid && (s.cred k).badge == x.badge) = false
      from hothers]
    simp only [permBitsOk, hgrant, hdeny, decide_true, hlo, hrlo, beq_eq_false_iff_ne.2 hbadge, show c ≤ Config.nCreds from hhi,
      show x.role ≤ Config.nRoles from hrhi, Bool.and_self, Bool.not_true, Bool.or_self, bne_self_eq_false]
  have hkeeps : s.editLosesArea c x = false := by
    rw [Part.editLosesArea, List.any_eq_false]
    intro a ha
    rw [Part.heldBy, List.mem_filter, beq_iff_eq] at ha
    obtain ⟨hack, hscope⟩ := hholds a ha.1 ha.2
    rw [hack, hscope]
    decide
  rw [Part.editCheck, hcheck, hfields, hkeeps]
  rfl

/-- Settles O35: the edit rebuilds one stack and recomputes the presentation desks. -/
theorem runningEditRebuildsTheStack : Obligations.RunningEditRebuildsTheStack := by
  intro s tag body h hrun d c x hdesk hon hmay hc hstatus hbadge hrole hgrant hdeny hunique hholds hagree
  have hx : credentialOf body = x := by
    rw [credentialOf, hstatus]
    rfl
  have hcheck : s.taken.editCheck (byteAt body 0) (byteAt body 1) (byteAt body 2) (credentialOf body) = none := by
    rw [hx, hstatus]
    exact Part.editCheck_passes (s := s.taken) (Part.configureCheck_passes (s := s.taken) hdesk hon hmay) hc hbadge hrole hgrant hdeny hunique hholds
  have hanswer : configCredentialHandler body s.taken = (s.taken.editCredential c x, [0]) := by
    unfold configCredentialHandler Part.runningEdit
    simp only [hcheck, show s.taken.phase = .running from hrun, if_true]
    rw [hx]
    rfl
  have hlif : (s.taken.editCredential c x).lif = s.taken.lif := by
    rw [Part.editCredential_eq, closeEvent_lif, (recompute_presents _).rest, Part.edited_rest]
    rfl
  exact ⟨_, completes_answered exec_configCredential h hanswer hlif, rfl,
    (Part.editCredential_edited (s := s.taken) hc x hagree).answered (Part.answer_link_of hlif ..)⟩

end Sys2Proof.Machine
end

section
/-! What returns to its queue (R108, R110) and which sessions end (R149) when a desk loses its credential. -/

namespace Sys2Proof.Machine

/-! ### Reading an entry of the part after a change -/

theorem Part.modPoint_point_of (s : Part) (p : Nat) (f : Point → Point) {q : Nat} (hq : q ∈ numbers 1024) :
    (s.modPoint p f).point q = if q = p then f (s.point q) else s.point q := by
  rw [Part.modPoint_point]
  refine if_congr ⟨fun h => h.1.symm, fun h => ⟨h.symm, ?_⟩⟩ rfl rfl
  rw [← h]
  exact (mem_numbers q).1 hq

theorem Part.modArea_area_of (s : Part) (a : Nat) (f : Area → Area) {b : Nat} (hb : b ∈ numbers 16) :
    (s.modArea a f).area b = if b = a then f (s.area b) else s.area b := by
  rw [Part.modArea_area]
  refine if_congr ⟨fun h => h.1.symm, fun h => ⟨h.symm, ?_⟩⟩ rfl rfl
  rw [← h]
  exact (mem_numbers b).1 hb

theorem Part.modDesk_desk_of (s : Part) (d : Nat) (f : Desk → Desk) {e : Nat} (he : e ∈ numbers 6) :
    (s.modDesk d f).desk e = if e = d then f (s.desk e) else s.desk e := by
  rw [Part.modDesk_desk]
  refine if_congr ⟨fun h => h.1.symm, fun h => ⟨h.symm, ?_⟩⟩ rfl rfl
  rw [← h]
  exact (mem_numbers e).1 he

/-! ### A slot gives its occupant back -/

theorem returnSlot_some {s : Part} {d k : Nat} {y : Slot} (hy : getAt (s.desk d).slots k = some y) :
    s.returnSlot d k = (s.emptySlot d k).returnHead y.point := by
  unfold Part.returnSlot
  rw [hy]

theorem returnSlot_none {s : Part} {d k : Nat} (hy : getAt (s.desk d).slots k = none) : s.returnSlot d k = s := by
  unfold Part.returnSlot
  rw [hy]

/-- R103, R108, R110: the occupant of a slot is back at the head of its queue. -/
theorem returnSlot_gaveBack {s : Part} {d k : Nat} {y : Slot} (hy : getAt (s.desk d).slots k = some y) :
    s.GaveBack (s.returnSlot d k) d k y.point := by
  rw [returnSlot_some hy]
  exact ⟨rfl, fun q hq => Part.modPoint_point_of _ _ _ hq, fun b hb => Part.modArea_area_of _ _ _ hb,
    fun e he => Part.modDesk_desk_of _ _ _ he⟩

/-! ### The returns of a desk (R108) -/

/-- The occupants of the slots `gone` of desk `d` are back at the heads of their queues, in that order, and nothing else has
changed. -/
def Part.GaveBackAll (s t : Part) (d : Nat) (gone : List Nat) : Prop :=
  t = { s with points := t.points, areas := t.areas, desks := t.desks }
  ∧ (∀ q ∈ numbers 1024, t.point q =
      if q ∈ gone.map (s.pointIn d) then { s.point q with placement := .queued } else s.point q)
  ∧ (∀ b ∈ numbers 16, t.area b = { s.area b with pend := (t.area b).pend }
      ∧ ∀ pr ∈ numbers 4, getAt (t.area b).pend pr =
          (gone.map (s.pointIn d)).filter (fun p => (s.pointS p).area = b ∧ (s.pointS p).priority = pr)
            ++ getAt (s.area b).pend pr)
  ∧ (∀ e ∈ numbers 6, t.desk e =
      if e = d then
        { s.desk e with
          slots := (t.desk e).slots, order := (s.desk e).order.filter fun k => decide (k ∉ gone) }
      else s.desk e)
  ∧ ∀ k ∈ numbers 4, getAt (t.desk d).slots k = if k ∈ gone then none else getAt (s.desk d).slots k

theorem Part.GaveBackAll.refl (s : Part) (d : Nat) : s.GaveBackAll s d [] := by
  refine ⟨rfl, fun q _ => rfl, fun b _ => ⟨rfl, fun pr _ => rfl⟩, fun e _ => ?_, fun k _ => rfl⟩
  split
  · simp
  · rfl

/-- One more occupant returns. -/
theorem Part.GaveBackAll.returnSlot {s t : Part} {d k : Nat} {gone : List Nat} (h : s.GaveBackAll t d gone)
    (hd : d ∈ numbers 6) (hk : k ∈ numbers 4) (hnew : k ∉ gone) {y : Slot} (hy : getAt (s.desk d).slots k = some y) :
    s.GaveBackAll (t.returnSlot d k) d (k :: gone) := by
  obtain ⟨hrest, hpoint, harea, hdesk, hslot⟩ := h
  have hyt : getAt (t.desk d).slots k = some y := by rw [hslot k hk, if_neg hnew, hy]
  have hin : s.pointIn d k = y.point := by rw [Part.pointIn, hy]; rfl
  have hstatic : ∀ p, t.pointS p = s.pointS p := fun p => by rw [hrest]; rfl
  obtain ⟨hrest', hpoint', harea', hdesk'⟩ := returnSlot_gaveBack hyt
  simp only [hstatic] at harea'
  refine ⟨by rw [hrest', hrest], fun q hq => ?_, fun b hb => ?_, fun e he => ?_, fun j hj => ?_⟩
  · rw [hpoint' q hq, hpoint q hq, List.map_cons, hin]
    by_cases hqy : q = y.point
    · rw [if_pos hqy, if_pos (List.mem_cons.2 (.inl hqy))]
      split <;> rfl
    · rw [if_neg hqy]
      simp only [List.mem_cons, hqy, false_or]
  · obtain ⟨hframe, hpend⟩ := harea b hb
    rw [harea' b hb, List.map_cons, hin]
    by_cases hba : b = (s.pointS y.point).area
    · rw [if_pos hba]
      refine ⟨by rw [hframe], fun pr hpr => ?_⟩
      have hrange := (mem_numbers pr).1 hpr
      rw [getAt_modAt, hpend pr hpr]
      by_cases hp : (s.pointS y.point).priority = pr
      · rw [if_pos ⟨hp, by rw [hp]; exact hrange⟩, List.filter_cons_of_pos (by simp [hba, hp])]
        rfl
      · rw [if_neg fun h => hp h.1, List.filter_cons_of_neg (by simp [hp])]
    · rw [if_neg hba]
      refine ⟨hframe, fun pr hpr => ?_⟩
      rw [hpend pr hpr, List.filter_cons_of_neg (by simp [Ne.symm hba])]
  · rw [hdesk' e he, hdesk e he]
    by_cases hed : e = d
    · simp only [if_pos hed, List.filter_filter]
      have horder : ((s.desk e).order.filter fun j => (j != k) && decide (j ∉ gone)) =
          (s.desk e).order.filter fun j => decide (j ∉ k :: gone) :=
        List.filter_congr fun j _ => by
          by_cases hjk : j = k <;> simp [hjk]
      rw [horder]
    · simp only [if_neg hed]
  · rw [hdesk' d hd, if_pos rfl, getAt_setAt, hslot j hj]
    by_cases hjk : k = j
    · subst hjk
      rw [if_pos ⟨rfl, (mem_numbers k).1 hk⟩, if_pos List.mem_cons_self]
    · rw [if_neg fun h => hjk h.1]
      simp only [List.mem_cons, Ne.symm hjk, false_or]

/-- R108: one slot is looked at. -/
def Part.returnIfLeft (newDesk : Nat → Nat) (d : Nat) (s : Part) (k : Nat) : Part :=
  match getAt (s.desk d).slots k with
  | none => s
  | some x => if newDesk (s.pointS x.point).area = d then s else s.returnSlot d k

theorem Part.returnsAt_eq (s : Part) (newDesk : Nat → Nat) (d : Nat) :
    s.returnsAt newDesk d = [4, 3, 2, 1].foldl (Part.returnIfLeft newDesk d) s := rfl

/-- One slot after others: its occupant returns when its area leaves the desk. -/
theorem Part.GaveBackAll.returnIfLeft {s t : Part} {d k : Nat} {gone : List Nat} (h : s.GaveBackAll t d gone)
    (newDesk : Nat → Nat) (hd : d ∈ numbers 6) (hk : k ∈ numbers 4) (hnew : k ∉ gone) :
    s.GaveBackAll (Part.returnIfLeft newDesk d t k) d (if s.leaves newDesk d k then k :: gone else gone) := by
  have hstatic : ∀ p, t.pointS p = s.pointS p := fun p => by rw [h.1]; rfl
  have hslot : getAt (t.desk d).slots k = getAt (s.desk d).slots k := by
    obtain ⟨_, _, _, _, hslot⟩ := h
    rw [hslot k hk, if_neg hnew]
  unfold Part.returnIfLeft Part.leaves
  rw [hslot]
  cases hy : getAt (s.desk d).slots k with
  | none => exact h
  | some y =>
    simp only [hstatic]
    by_cases hstays : newDesk (s.pointS y.point).area = d
    · rw [if_pos hstays, if_neg (by simp [hstays])]
      exact h
    · rw [if_neg hstays, if_pos (by simp [hstays])]
      exact h.returnSlot hd hk hnew hy

/-- R108, R110: the returns of a desk that areas leave. -/
theorem returnsAt_made (s : Part) (newDesk : Nat → Nat) {d : Nat} (hd : d ∈ numbers 6) :
    s.ReturnsMade (s.returnsAt newDesk d) newDesk d := by
  have hslots : ∀ l : List Nat, l.Nodup → (∀ k ∈ l, k ∈ numbers 4) → ∀ (t : Part) (gone : List Nat), (∀ k ∈ l, k ∉ gone) →
      s.GaveBackAll t d gone →
      s.GaveBackAll (l.foldl (Part.returnIfLeft newDesk d) t) d ((l.filter (s.leaves newDesk d)).reverse ++ gone) := by
    intro l
    induction l with
    | nil => exact fun _ _ t gone _ h => h
    | cons k l ih =>
      intro hnodup hl t gone hnew h
      obtain ⟨hkl, hnodup⟩ := List.nodup_cons.1 hnodup
      have hnext := ih hnodup (fun j hj => hl j (List.mem_cons_of_mem _ hj)) _ _ (fun j hj => ?_)
        (h.returnIfLeft newDesk hd (hl k List.mem_cons_self) (hnew k List.mem_cons_self))
      · rw [List.filter_cons]
        split at hnext
        · next hleaves =>
          rw [if_pos hleaves, List.reverse_cons, List.append_assoc]
          exact hnext
        · next hstays =>
          rw [if_neg hstays]
          exact hnext
      · have hj' := hnew j (List.mem_cons_of_mem _ hj)
        have hjk : j ≠ k := fun h => hkl (h ▸ hj)
        split
        · simp [hjk, hj']
        · exact hj'
  have h := hslots [4, 3, 2, 1] (by decide) (by decide) s [] (by simp) (.refl s d)
  have hgone : ([4, 3, 2, 1].filter (s.leaves newDesk d)).reverse ++ [] = (numbers 4).filter (s.leaves newDesk d) := by
    rw [List.append_nil, ← List.filter_reverse]
    rfl
  rw [hgone] at h
  rw [Part.returnsAt_eq]
  exact h

/-! ### The sign-off of a desk (R25, R110) -/

/-- R25, steps 2 and 3: nobody is signed on at desk `d`. -/
def Part.unseated (s : Part) (d : Nat) : Part :=
  { s.modDesk d fun x => { x with stack := [], signedOn := 0 } with
    credDesk := setAt s.credDesk (s.desk d).signedOn 0 }

/-- R110: every occupant returns, as if no area were presented at the desk any more. -/
theorem signOffDesk_eq (s : Part) {d : Nat} (hd : d ≠ 0) : s.signOffDesk d = (s.unseated d).returnsAt (fun _ => 0) d := by
  rw [Part.returnsAt_eq]
  refine List.foldl_ext _ _ _ fun t k _ => ?_
  unfold Part.returnIfLeft
  cases hy : getAt (t.desk d).slots k with
  | none => exact returnSlot_none hy
  | some y => exact (if_neg (Ne.symm hd)).symm

theorem Part.unseated_alike (s : Part) (d : Nat) : s.Alike (s.unseated d) :=
  (Part.Alike.keepDesk s d (fun x => { x with stack := [], signedOn := 0 }) fun x => .refl x).trans
    (.rest rfl rfl rfl rfl rfl rfl)

theorem Part.unseated_desk (s : Part) (d : Nat) {e : Nat} (he : e ∈ numbers 6) :
    (s.unseated d).desk e = if e = d then { s.desk e with stack := [], signedOn := 0 } else s.desk e :=
  Part.modDesk_desk_of s d _ he

/-! ### Desks without an area (R110) -/

theorem candidate_none {s : Part} {d : Nat} (h : ∀ a, (s.area a).pdesk ≠ d) : s.candidate d = none := by
  unfold Part.candidate
  rw [List.findSome?_eq_none_iff]
  intro pr _
  rw [List.findSome?_eq_none_iff]
  intro a _
  rw [if_neg (h a)]

theorem fill_unpresented {s : Part} {d : Nat} (h : ∀ a, (s.area a).pdesk ≠ d) : s.fill d = s := by
  unfold Part.fill
  split
  · rfl
  · unfold fillBound Part.fillLoop Part.fillStep
    rw [candidate_none h]

theorem fills_unpresented {d : Nat} (l : List Nat) {s : Part} (h : ∀ a, (s.area a).pdesk ≠ d) :
    (l.foldl Part.fill s).desk d = s.desk d := by
  induction l generalizing s with
  | nil => rfl
  | cons e l ih =>
    rw [List.foldl_cons]
    by_cases hed : d = e
    · rw [← hed, fill_unpresented h]
      exact ih h
    · rw [ih (s := s.fill e) (fun a => by rw [(fill_moves s e).area]; exact h a), fill_otherDesks s e d hed]

/-- The empty slots of a desk stay empty while areas are presented elsewhere. -/
theorem returns_keepEmpty {d : Nat} (hd : d ∈ numbers 6) (newDesk : Nat → Nat) (l : List Nat) (hl : ∀ e ∈ l, e ∈ numbers 6)
    {s : Part} (h : ∀ k ∈ numbers 4, getAt (s.desk d).slots k = none) :
    ∀ k ∈ numbers 4, getAt ((l.foldl (fun v e => v.returnsAt newDesk e) s).desk d).slots k = none := by
  induction l generalizing s with
  | nil => exact h
  | cons e l ih =>
    refine ih (fun e' he' => hl e' (List.mem_cons_of_mem _ he')) fun k hk => ?_
    obtain ⟨_, _, _, hdesk, hslot⟩ := returnsAt_made s newDesk (hl e List.mem_cons_self)
    by_cases hed : d = e
    · subst hed
      rw [hslot k hk, h k hk]
      split <;> rfl
    · rw [hdesk d hd, if_neg hed, h k hk]

theorem setPresentation_desks (s : Part) (new : Nat → PresMode × Nat) : (s.setPresentation new).desks = s.desks := by
  unfold Part.setPresentation
  rw [foldl_modArea_rest (fun b x => { x with mode := (new b).1, pdesk := (new b).2 })]

theorem recompute_keepEmpty {s : Part} {d : Nat} (hd : d ∈ numbers 6) (hnew : ∀ a, (s.presentation a).2 ≠ d)
    (h : ∀ k ∈ numbers 4, getAt (s.desk d).slots k = none) :
    ∀ k ∈ numbers 4, getAt (s.recompute.desk d).slots k = none := by
  intro k hk
  have hback := returns_keepEmpty hd (fun a => (s.presentation a).2) (numbers 6) (fun e he => he) h k hk
  rw [recompute_eq]
  unfold Part.reseat
  dsimp only
  generalize (numbers 6).foldl (fun v e => v.returnsAt (fun a => (s.presentation a).2) e) s = back at hback ⊢
  rw [fills_unpresented]
  · rw [Part.desk, setPresentation_desks]
    exact hback
  · intro a
    by_cases ha : a ∈ numbers 16
    · rw [setPresentation_area back _ ha]
      exact hnew a
    · rw [Part.pdesk_outside _ ha]
      exact Ne.symm (Nat.one_le_iff_ne_zero.1 ((mem_numbers d).1 hd).1)

end Sys2Proof.Machine
end

section
/-! The end of several sessions (R149), and SIGN_OFF (R25). -/

namespace Sys2Proof.Machine

/-! ### Several sessions abandoned -/

/-- The sessions `l` were abandoned, and nothing else has changed. -/
structure Part.Abandoning (s t : Part) (l : List Nat) (reason desk : Nat) : Prop where
  rest : t = { s with areas := t.areas, sessions := t.sessions, rst := t.rst }
  journals : s.Journals t (s.abandonRecords l reason desk)
  area : ∀ a ∈ numbers 16, t.area a = { s.area a with session := s.sessionAfter l a }
  session : ∀ n ∈ numbers 4, t.session n = if n ∈ l then Session.idle else s.session n

theorem Part.Abandoning.refl (s : Part) (reason desk : Nat) : s.Abandoning s [] reason desk :=
  ⟨rfl, .refl s, fun _ _ => rfl, fun _ _ => rfl⟩

theorem Part.Abandoning.abandon {s t : Part} {l : List Nat} {reason desk n : Nat} (h : s.Abandoning t l reason desk)
    (hn : n ∈ numbers 4) (hnew : n ∉ l) : s.Abandoning (t.abandon n reason desk) (l ++ [n]) reason desk := by
  have hsame : t.session n = s.session n := by rw [h.session n hn, if_neg hnew]
  refine ⟨?_, ?_, fun a ha => ?_, fun m hm => ?_⟩
  · rw [(abandon_change t n reason desk).rest, h.rest]
  · rw [abandon_eq, hsame, Part.abandonRecords, List.map_append]
    have hend := endSession_rest t n
    exact (h.journals.quiet (v := t.endSession n) (by rw [hend]) (by rw [hend]; rfl) (by rw [hend]; rfl)).write false _
  · rw [abandon_area t n reason desk ha, h.area a ha, hsame]
    simp only [Part.sessionAfter, List.any_append, List.any_cons, List.any_nil, Bool.or_false, Bool.or_eq_true]
    by_cases hin : (s.session n).areas.contains a = true
    · simp only [hin, or_true, if_true]
    · simp only [hin, or_false, Bool.false_eq_true, if_false]
  · rw [abandon_session t n reason desk hm, h.session m hm]
    by_cases hmn : m = n
    · rw [if_pos hmn, if_pos (List.mem_append_right _ (List.mem_singleton.2 hmn))]
    · rw [if_neg hmn]
      simp only [List.mem_append, List.mem_singleton, hmn, or_false]

/-- R149: the sessions that a test names are abandoned one after another. -/
theorem abandonWhere_abandoning (s : Part) (reason desk : Nat) (f : Session → Bool) :
    s.Abandoning (s.abandonWhere reason desk f) (s.abandoned f) reason desk := by
  have hsteps : ∀ l : List Nat, l.Nodup → (∀ n ∈ l, n ∈ numbers 4) → ∀ (t : Part) (gone : List Nat), (∀ n ∈ l, n ∉ gone) →
      s.Abandoning t gone reason desk →
      s.Abandoning (l.foldl (fun t n =>
          if (t.session n).state ≠ .idle ∧ f (t.session n) then t.abandon n reason desk else t) t)
        (gone ++ l.filter fun n => (s.session n).state != .idle && f (s.session n)) reason desk := by
    intro l
    induction l with
    | nil => exact fun _ _ t gone _ h => by rw [List.filter_nil, List.append_nil]; exact h
    | cons n l ih =>
      intro hnodup hl t gone hnew h
      obtain ⟨hnl, hnodup⟩ := List.nodup_cons.1 hnodup
      have hn := hl n List.mem_cons_self
      have hsame : t.session n = s.session n := by rw [h.session n hn, if_neg (hnew n List.mem_cons_self)]
      rw [List.foldl_cons, hsame, List.filter_cons]
      by_cases htest : (s.session n).state ≠ .idle ∧ f (s.session n) = true
      · rw [if_pos htest, if_pos (by rw [bne_iff_ne.2 htest.1, htest.2]; rfl), List.append_cons]
        refine ih hnodup (fun m hm => hl m (List.mem_cons_of_mem _ hm)) _ _ (fun m hm => ?_)
          (h.abandon hn (hnew n List.mem_cons_self))
        have hmn : m ≠ n := fun hmn => hnl (hmn ▸ hm)
        simp [hnew m (List.mem_cons_of_mem _ hm), hmn]
      · rw [if_neg htest, if_neg (by simpa [Bool.and_eq_true] using htest)]
        exact ih hnodup (fun m hm => hl m (List.mem_cons_of_mem _ hm)) _ _
          (fun m hm => hnew m (List.mem_cons_of_mem _ hm)) h
  exact hsteps (numbers 4) (numbers_nodup 4) (fun _ hn => hn) s [] (by simp) (.refl s reason desk)

theorem Part.Abandoning.alike {s t : Part} {l : List Nat} {reason desk : Nat} (h : s.Abandoning t l reason desk) :
    s.Alike t := by
  constructor
  case pointS => exact fun p => by rw [h.rest]; rfl
  case areaS => exact fun a => by rw [h.rest]; rfl
  case now => rw [h.rest]; rfl
  case point => exact fun p => by rw [h.rest]; exact .refl _
  case area =>
    intro a
    by_cases ha : a ∈ numbers 16
    · rw [h.area a ha]
      exact .refl _
    · rw [Part.area, Part.area, getAt_outside _ ha, getAt_outside _ ha]
      exact .refl _
  case desk => exact fun d => by rw [h.rest]; exact .refl _

theorem Part.Abandoning.desk {s t : Part} {l : List Nat} {reason desk : Nat} (h : s.Abandoning t l reason desk) (e : Nat) :
    t.desk e = s.desk e := by
  rw [h.rest]
  rfl

theorem Part.Abandoning.point {s t : Part} {l : List Nat} {reason desk : Nat} (h : s.Abandoning t l reason desk) (q : Nat) :
    t.point q = s.point q := by
  rw [h.rest]
  rfl

/-! ### The end of a sign-on, beside the sessions -/

/-- R25, R110: a desk signed off, as its rule leaves it before the presentation desks are recomputed. -/
theorem signOffDesk_gaveBack {s : Part} {d : Nat} (hd : d ∈ numbers 6) :
    (s.unseated d).GaveBackAll (s.signOffDesk d) d ((numbers 4).filter ((s.unseated d).leaves (fun _ => 0) d)) := by
  rw [signOffDesk_eq s (Nat.one_le_iff_ne_zero.1 ((mem_numbers d).1 hd).1)]
  exact returnsAt_made (s.unseated d) (fun _ => 0) hd

theorem signOffDesk_alike {s : Part} {d : Nat} (hd : d ∈ numbers 6) : (s.returnsAt (fun _ => 0) d).Alike (s.signOffDesk d) := by
  rw [signOffDesk_eq s (Nat.one_le_iff_ne_zero.1 ((mem_numbers d).1 hd).1)]
  exact (s.unseated_alike d).returnsAt _ d

theorem signOffDesk_rest {s : Part} {d : Nat} (hd : d ∈ numbers 6) : s.signOffDesk d =
    { s with
      credDesk := setAt s.credDesk (s.desk d).signedOn 0
      points := (s.signOffDesk d).points, areas := (s.signOffDesk d).areas, desks := (s.signOffDesk d).desks } := by
  obtain ⟨hrest, _⟩ := signOffDesk_gaveBack (s := s) hd
  exact hrest.trans rfl

theorem signOffDesk_sessions {s : Part} {d : Nat} (hd : d ∈ numbers 6) : (s.signOffDesk d).sessions = s.sessions := by
  rw [signOffDesk_rest hd]

theorem signOffDesk_point {s : Part} {d : Nat} (hd : d ∈ numbers 6) {q : Nat} (hq : q ∈ numbers 1024) :
    (s.signOffDesk d).point q = { s.point q with placement := ((s.signOffDesk d).point q).placement } := by
  obtain ⟨_, hpoint, _⟩ := signOffDesk_gaveBack (s := s) hd
  rw [hpoint q hq]
  split <;> rfl

theorem signOffDesk_area {s : Part} {d : Nat} (hd : d ∈ numbers 6) {a : Nat} (ha : a ∈ numbers 16) :
    (s.signOffDesk d).area a = { s.area a with pend := ((s.signOffDesk d).area a).pend } := by
  obtain ⟨_, _, harea, _⟩ := signOffDesk_gaveBack (s := s) hd
  exact (harea a ha).1

theorem signOffDesk_otherDesk {s : Part} {d e : Nat} (hd : d ∈ numbers 6) (he : e ∈ numbers 6) (hne : e ≠ d) :
    (s.signOffDesk d).desk e = s.desk e := by
  obtain ⟨_, _, _, hdesk, _⟩ := signOffDesk_gaveBack (s := s) hd
  rw [hdesk e he, if_neg hne, s.unseated_desk d he, if_neg hne]

theorem signOffDesk_desk {s : Part} {d : Nat} (hd : d ∈ numbers 6) : (s.signOffDesk d).desk d =
    { s.desk d with
      signedOn := 0, stack := [], slots := ((s.signOffDesk d).desk d).slots, order := ((s.signOffDesk d).desk d).order } := by
  obtain ⟨_, _, _, hdesk, _⟩ := signOffDesk_gaveBack (s := s) hd
  rw [hdesk d hd, if_pos rfl, s.unseated_desk d hd, if_pos rfl]

/-- R110: the slots of the desk are empty. -/
theorem signOffDesk_slots {s : Part} {d : Nat} (hd : d ∈ numbers 6) {k : Nat} (hk : k ∈ numbers 4) :
    getAt ((s.signOffDesk d).desk d).slots k = none := by
  have hne : d ≠ 0 := Nat.one_le_iff_ne_zero.1 ((mem_numbers d).1 hd).1
  obtain ⟨_, _, _, _, hslot⟩ := signOffDesk_gaveBack (s := s) hd
  rw [hslot k hk, ite_eq_left_iff, List.mem_filter, not_and]
  intro hstays
  have hleaves := hstays hk
  unfold Part.leaves at hleaves
  cases hy : getAt ((s.unseated d).desk d).slots k with
  | none => rfl
  | some y =>
    rw [hy] at hleaves
    exact absurd (bne_iff_ne.2 (Ne.symm hne)) hleaves

theorem Part.Journals.signOffDesk {s u : Part} {l : List (Bool × W16 × RecordFields)} (h : s.Journals u l) {d : Nat}
    (hd : d ∈ numbers 6) : s.Journals (u.signOffDesk d) l := by
  have hrest := signOffDesk_rest (s := u) hd
  exact h.quiet (by rw [hrest]) (by rw [hrest]; rfl) (by rw [hrest]; rfl)

/-! ### SIGN_OFF (R25) -/

theorem exec_signOff (u : State) : exec .signOff u = onRequest .signOff signOffHandler u := rfl

/-- R25: a sign-off before the presentation desks are recomputed. -/
def Part.leftDesk (s : Part) (d : Nat) : Part :=
  (s.abandonWhere abandonIncomingSignedOff d fun x => x.incoming == (s.desk d).signedOn).signOffDesk d

theorem Part.signOff_eq (s : Part) (d : Nat) : s.signOff d = closeEvent s [] ((s.leftDesk d).recompute.write false
    { kind := .signOff, desk := d, credential := (s.desk d).signedOn, value := 1 }) := rfl

theorem Part.leftDesk_rest {s : Part} {d : Nat} (hd : d ∈ numbers 6) : s.leftDesk d =
    { s with
      credDesk := setAt s.credDesk (s.desk d).signedOn 0, rst := (s.leftDesk d).rst, sessions := (s.leftDesk d).sessions
      points := (s.leftDesk d).points, areas := (s.leftDesk d).areas, desks := (s.leftDesk d).desks } := by
  have h := abandonWhere_abandoning s abandonIncomingSignedOff d fun x => x.incoming == (s.desk d).signedOn
  unfold Part.leftDesk
  rw [signOffDesk_rest hd, h.desk, h.rest]

theorem Part.signOff_signedOff {s : Part} {d : Nat} (hd : d ∈ numbers 6) (hrun : s.phase = .running)
    (hon : (s.desk d).signedOn ≠ 0) : s.SignedOff (s.signOff d) d := by
  have habandon := abandonWhere_abandoning s abandonIncomingSignedOff d fun x => x.incoming == (s.desk d).signedOn
  have hrest := s.leftDesk_rest hd
  have hpresents := recompute_presents (s.leftDesk d)
  have hreseating : Reseating s (s.leftDesk d) (s.signOff d) := closeEvent_reseating s [] rfl
  have hdesk : (s.leftDesk d).desk d =
      { s.desk d with
        signedOn := 0, stack := [], slots := ((s.leftDesk d).desk d).slots, order := ((s.leftDesk d).desk d).order } :=
    (signOffDesk_desk hd).trans (by rw [habandon.desk]; rfl)
  have hoff : (((s.leftDesk d).recompute.write false
      { kind := .signOff, desk := d, credential := (s.desk d).signedOn, value := 1 }).desk d).signedOn = 0 := by
    rw [Part.write_desk_other, hpresents.desk, hdesk]
  have hjournal : s.Journals ((s.leftDesk d).recompute.write false
      { kind := .signOff, desk := d, credential := (s.desk d).signedOn, value := 1 })
      (s.abandonRecords (s.abandoned fun x => x.incoming == (s.desk d).signedOn) 4 d
        ++ [(false, 0, { kind := .signOff, desk := d, credential := (s.desk d).signedOn, value := 1 })]) := by
    have hleft : s.Journals (s.leftDesk d)
        (s.abandonRecords (s.abandoned fun x => x.incoming == (s.desk d).signedOn) abandonIncomingSignedOff d) :=
      habandon.journals.signOffDesk hd
    exact hleft.recompute.write false _
  unfold Part.SignedOff
  dsimp only
  refine ⟨?_, hreseating.deskReseated hd ?_, fun e he hne => hreseating.deskMoved he ?_,
    hreseating.frame (fun q hq => ?_) (fun a ha => ?_) ?_, ?_, fun n hn => ?_, ?_, ?_, hjournal.close [], ?_, ?_⟩
  · rw [hreseating.credDesk, hrest]
  · rw [hdesk]
  · rw [Part.leftDesk, signOffDesk_otherDesk hd he hne, habandon.desk]
  · have hpoint := signOffDesk_point hd (s := s.abandonWhere abandonIncomingSignedOff d
      fun x => x.incoming == (s.desk d).signedOn) hq
    rwa [habandon.point] at hpoint
  · have harea := signOffDesk_area hd (s := s.abandonWhere abandonIncomingSignedOff d
      fun x => x.incoming == (s.desk d).signedOn) ha
    rwa [habandon.area a ha] at harea
  · rw [hrest]
    exact ⟨rfl, rfl, rfl, rfl, rfl⟩
  · exact hreseating.board.congr ((habandon.alike.returnsAt _ d).trans (signOffDesk_alike hd)).symm (.refl _)
  · rw [← habandon.session n hn, Part.session, Part.signOff_eq, closeEvent_sessions, Part.write_sessions, hpresents.rest]
    exact congrArg (getAt · n) (signOffDesk_sessions hd)
  · rw [hreseating.live, hrest]
  · rw [hreseating.staged, hrest]
  · rw [Part.signOff_eq]
    refine closeEvent_tells_authority hd (.inl ?_)
    rw [authorityReported_iff, hoff]
    exact fun hsame => hon hsame.1
  · rw [Part.signOff_eq]
    refine closeEvent_tells_seat hd ?_ ?_
    · rw [Part.write_phase, hpresents.rest, hrest]
      exact hrun
    · rw [hoff, bne_iff_ne.2 hon]
      decide

/-- R110: a desk that signed off shows nothing. -/
theorem Part.signOff_slots {s : Part} {d : Nat} (hd : d ∈ numbers 6) (hagree : s.SignOnsAgree) {k : Nat} (hk : k ∈ numbers 4) :
    getAt ((s.signOff d).desk d).slots k = none := by
  have hpos : d ≠ 0 := Nat.one_le_iff_ne_zero.1 ((mem_numbers d).1 hd).1
  have hoff : ((s.leftDesk d).desk d).signedOn = 0 := by
    rw [Part.leftDesk, signOffDesk_desk hd]
  have hcred : (s.leftDesk d).credDesk = setAt s.credDesk (s.desk d).signedOn 0 := by rw [s.leftDesk_rest hd]
  have hnew : ∀ a, ((s.leftDesk d).presentation a).2 ≠ d := by
    intro a
    unfold Part.presentation
    dsimp only
    split
    · show getAt (s.leftDesk d).credDesk _ ≠ d
      intro hseat
      rw [hcred, getAt_setAt] at hseat
      split at hseat
      · exact hpos hseat.symm
      · next hother =>
        have hin : ((s.leftDesk d).area a).responsible ∈ numbers 64 := by
          by_contra hout
          rw [getAt_outside _ hout] at hseat
          exact hpos hseat.symm
        obtain ⟨_, hcreds⟩ := hagree
        obtain ⟨_, hon⟩ := hcreds _ hin (by rw [hseat]; exact hpos)
        rw [hseat] at hon
        exact hother ⟨hon, by rw [hon]; exact (mem_numbers _).1 hin⟩
    · split
      · next hfallback =>
        obtain ⟨_, hsigned, _⟩ := hfallback
        intro hseat
        have hseat : ((s.leftDesk d).areaS a).fallback = d := hseat
        rw [hseat] at hsigned
        exact hsigned hoff
      · exact Ne.symm hpos
  rw [Part.signOff_eq, closeEvent_desk_rest _ _ _ hd, Part.write_desk_other]
  exact recompute_keepEmpty hd hnew (fun j hj => signOffDesk_slots hd hj) k hk

theorem Part.SignedOff.answered {s t : Part} {d : Nat} (h : s.taken.SignedOff t d) {x : Lif} (hlink : x.link = t.lif.link) :
    s.SignedOff { t with lif := x } d := by
  obtain ⟨hcred, hdesk, hothers, hframe, hboard, hsessions, hlive, hstaged, hwrote, htold, htoldDesk⟩ := h
  exact ⟨hcred, hdesk, hothers, hframe,
    hboard.congr ((Part.Alike.taken s).symm.returnsAt _ d) (.rest rfl rfl rfl rfl rfl rfl), hsessions, hlive, hstaged,
    hwrote.answered hlink, htold, htoldDesk⟩

theorem Part.signOffCheck_passes {s : Part} {d : Nat} (hdesk : isDesk d = true) (hon : (s.desk d).signedOn ≠ 0)
    (hfree : ∀ a ∈ numbers 16, (s.area a).responsible ≠ (s.desk d).signedOn) : s.signOffCheck d = none := by
  have hheld : s.heldBy (s.desk d).signedOn = [] := by
    rw [Part.heldBy, List.filter_eq_nil_iff]
    exact fun a ha h => hfree a ha (beq_iff_eq.1 h)
  rw [Part.signOffCheck, hdesk, hheld, if_neg (by decide), if_neg hon]
  rfl

/-- Settles O32: the slots return one by one (`returnsAt_made`), then the presentation desks are recomputed. -/
theorem signOffUnseatsACredential : Obligations.SignOffUnseatsACredential := by
  refine ⟨fun s newDesk d hdesk => returnsAt_made s newDesk ((isDesk_iff d).1 hdesk), ?_⟩
  intro s tag body h d hdesk hon hfree
  have hd := (isDesk_iff d).1 hdesk
  have hanswer : signOffHandler body s.taken = (s.taken.signOff d, [0]) := by
    have hcheck : s.taken.signOffCheck (byteAt body 0) = none := Part.signOffCheck_passes (s := s.taken) hdesk hon hfree
    unfold signOffHandler
    simp only [hcheck]
    rfl
  have hlif : (s.taken.signOff d).lif = s.taken.lif := by
    rw [Part.signOff_eq, closeEvent_lif, Part.write_lif, (recompute_presents _).rest, Part.leftDesk_rest hd]
  have hsigned := Part.signOff_signedOff (s := s.taken) hd (h.running (by decide)) hon
  have hslots := fun hagree k hk => Part.signOff_slots (s := s.taken) (d := d) (k := k) hd hagree hk
  generalize s.taken.signOff d = t at hanswer hlif hsigned hslots
  exact ⟨_, completes_answered exec_signOff h hanswer hlif, rfl, hsigned.answered (Part.answer_link_of hlif ..), hslots⟩

end Sys2Proof.Machine
end

section
/-! REVOKE (R36, R37). -/

namespace Sys2Proof.Machine

theorem exec_revoke (u : State) : exec .revoke u = onRequest .revoke revokeHandler u := rfl

theorem Part.Journals.records_eq {s u : Part} {l m : List (Bool × W16 × RecordFields)} (h : s.Journals u l) (hlm : l = m) :
    s.Journals u m := hlm ▸ h

/-! ### Areas that pass to another credential (R37, R147) -/

/-- An area passes to credential `c`, 0 for none, with its record. -/
def Part.passArea (c : Nat) (f : Nat → RecordFields) (s : Part) (a : Nat) : Part :=
  ((s.modArea a fun x => { x with responsible := c }).bump a).write true (f a)

/-- An area in the hands of credential `c`. -/
def Area.passed (x : Area) (c : Nat) : Area := { x with responsible := c, generation := x.generation + 1 }

section passArea

variable (c : Nat) (f : Nat → RecordFields) (s : Part)

theorem passArea_area {a b : Nat} (hb : b ∈ numbers 16) :
    (Part.passArea c f s a).area b = if b = a then (s.area b).passed c else s.area b := by
  unfold Part.passArea Part.bump
  rw [Part.write_area_other, Part.modArea_area_of _ _ _ hb, Part.modArea_area_of _ _ _ hb]
  split <;> rfl

theorem passArea_alike (a : Nat) : s.Alike (Part.passArea c f s a) :=
  ((Part.Alike.keepArea s a (fun x => { x with responsible := c }) fun x => .refl x).trans (.bump _ a)).trans (.write _ _ _)

theorem passAreas_rest (l : List Nat) : l.foldl (Part.passArea c f) s =
    { s with areas := (l.foldl (Part.passArea c f) s).areas, rst := (l.foldl (Part.passArea c f) s).rst } := by
  induction l generalizing s with
  | nil => rfl
  | cons a l ih => exact (ih (Part.passArea c f s a)).trans rfl

theorem passAreas_alike (l : List Nat) : s.Alike (l.foldl (Part.passArea c f) s) :=
  .keepFold _ (fun u a => passArea_alike c f u a) l s

theorem passAreas_area {l : List Nat} (hl : l.Nodup) {b : Nat} (hb : b ∈ numbers 16) :
    (l.foldl (Part.passArea c f) s).area b = if b ∈ l then (s.area b).passed c else s.area b := by
  induction l generalizing s with
  | nil => rfl
  | cons a l ih =>
    obtain ⟨hal, hl⟩ := List.nodup_cons.1 hl
    rw [List.foldl_cons, ih (Part.passArea c f s a) hl, passArea_area c f s hb]
    by_cases hba : b = a
    · rw [if_neg (hba ▸ hal), if_pos hba, if_pos (List.mem_cons.2 (.inl hba))]
    · rw [if_neg hba]
      simp only [List.mem_cons, hba, false_or]

variable {c f s}

theorem Part.Journals.passArea {u : Part} {m : List (Bool × W16 × RecordFields)} (h : s.Journals u m)
    (hf : ∀ a, (f a).area = a) {a : Nat} (ha : a ∈ numbers 16) :
    s.Journals (Part.passArea c f u a) (m ++ [(true, (u.area a).generation + 1, f a)]) := by
  have hpos : a ≠ 0 := Nat.one_le_iff_ne_zero.1 ((mem_numbers a).1 ha).1
  have hgen : (((u.modArea a fun x => { x with responsible := c }).bump a).area a).generation
      = (u.area a).generation + 1 := by
    unfold Part.bump
    rw [Part.modArea_area_of _ _ _ ha, if_pos rfl, Part.modArea_area_of _ _ _ ha, if_pos rfl]
  have hwrite := (h.quiet (v := (u.modArea a fun x => { x with responsible := c }).bump a) rfl rfl rfl).write true (f a)
  rw [hf, Part.generationOf_pos _ hpos, hgen] at hwrite
  exact hwrite

theorem Part.Journals.passAreas {u : Part} {m : List (Bool × W16 × RecordFields)} (h : s.Journals u m)
    (hf : ∀ a, (f a).area = a) {l : List Nat} (hl : l.Nodup) (hmem : ∀ a ∈ l, a ∈ numbers 16) :
    s.Journals (l.foldl (Part.passArea c f) u) (m ++ l.map fun a => (true, (u.area a).generation + 1, f a)) := by
  induction l generalizing u m with
  | nil => rw [List.map_nil, List.append_nil]; exact h
  | cons a l ih =>
    obtain ⟨hal, hl⟩ := List.nodup_cons.1 hl
    have hrest := ih (h.passArea (c := c) hf (hmem a List.mem_cons_self)) hl fun b hb => hmem b (List.mem_cons_of_mem _ hb)
    rw [List.append_assoc] at hrest
    rw [List.foldl_cons, List.map_cons]
    refine hrest.records_eq ?_
    refine congrArg (m ++ ·) (congrArg (_ :: ·) (List.map_congr_left fun b hb => ?_))
    rw [passArea_area c f u (hmem b (List.mem_cons_of_mem _ hb)), if_neg fun hba : b = a => hal (hba ▸ hb)]

end passArea

/-- R37, step 2: the record of an area that loses its responsible credential. -/
def revokedArea (d a : Nat) : RecordFields :=
  { kind := .assume, area := a, desk := d, credential := 0, value := reasonRevoked }

/-! ### Step 3: the layers granted -/

theorem find_zipIdx {α : Type} (p : α → Bool) (l : List α) (k : Nat) : ((l.zipIdx k).find? fun x => p x.1).map (·.2) =
    if (l.takeWhile fun x => !p x).length = l.length then none else some ((l.takeWhile fun x => !p x).length + k) := by
  induction l generalizing k with
  | nil => rfl
  | cons x l ih =>
    rw [List.zipIdx_cons, List.find?_cons, List.takeWhile_cons]
    cases hx : p x with
    | true => simp
    | false =>
      have hrest := ih (k + 1)
      simp only [Bool.not_false, if_true, List.length_cons, Nat.add_right_cancel_iff] at hrest ⊢
      rw [hrest]
      split
      · rfl
      · congr 1
        omega

/-- R37, step 3: the lowest layer that `c` granted stands over those that stay. -/
theorem Part.grantedLayer_eq (s : Part) (d c : Nat) : s.grantedLayer d c =
    if (withoutGrants c (s.desk d).stack).length = (s.desk d).stack.length then none
    else some ((withoutGrants c (s.desk d).stack).length + 1) :=
  find_zipIdx (fun l : Layer => (l.elev.map (·.grantor)) == some c) (s.desk d).stack 1

theorem withoutGrants_take (c : Nat) (l : List Layer) : l.take (withoutGrants c l).length = withoutGrants c l :=
  (List.prefix_iff_eq_take.1 (List.takeWhile_prefix _)).symm

theorem withoutGrants_all {c : Nat} {l : List Layer} (h : (withoutGrants c l).length = l.length) : withoutGrants c l = l :=
  (List.takeWhile_prefix _).eq_of_length h

theorem cascade_rest (s : Part) (d n : Nat) (reason : W16) :
    s.cascade d n reason = { s with desks := (s.cascade d n reason).desks, rst := (s.cascade d n reason).rst } := by
  unfold Part.cascade
  dsimp only
  rw [foldl_write_rest (fun _ => false)]
  rfl

theorem revokeGrants_rest (s : Part) (c e : Nat) :
    s.revokeGrants c e = { s with desks := (s.revokeGrants c e).desks, rst := (s.revokeGrants c e).rst } := by
  unfold Part.revokeGrants
  split
  · rfl
  · exact cascade_rest ..

theorem cascade_desk (s : Part) (d n : Nat) (reason : W16) {e : Nat} (he : e ∈ numbers 6) : (s.cascade d n reason).desk e =
    if e = d then { s.desk e with stack := (s.desk e).stack.take (n - 1) } else s.desk e := by
  unfold Part.cascade
  dsimp only
  rw [foldl_write_rest (fun _ => false)]
  exact Part.modDesk_desk_of s d _ he

theorem revokeGrants_desk (s : Part) (c : Nat) {d e : Nat} (he : e ∈ numbers 6) : (s.revokeGrants c d).desk e =
    if e = d then { s.desk e with stack := withoutGrants c (s.desk e).stack } else s.desk e := by
  unfold Part.revokeGrants
  rw [s.grantedLayer_eq d c]
  by_cases hall : (withoutGrants c (s.desk d).stack).length = (s.desk d).stack.length
  · rw [if_pos hall]
    dsimp only
    split
    · next hed =>
      subst hed
      rw [withoutGrants_all hall]
    · rfl
  · rw [if_neg hall]
    dsimp only
    rw [cascade_desk s d _ _ he]
    split
    · next hed =>
      subst hed
      rw [Nat.add_sub_cancel, withoutGrants_take]
    · rfl

theorem cascade_alike (s : Part) (d n : Nat) (reason : W16) : s.Alike (s.cascade d n reason) := by
  unfold Part.cascade
  exact (Part.Alike.keepDesk s d (fun x => { x with stack := x.stack.take (n - 1) }) fun x => .refl x).trans
    (.keepFold _ (fun u x => .write u _ _) _ _)

theorem revokeGrants_alike (s : Part) (c e : Nat) : s.Alike (s.revokeGrants c e) := by
  unfold Part.revokeGrants
  split
  · exact .refl s
  · exact cascade_alike ..

theorem Part.Journals.revokeGrants {s u : Part} {m : List (Bool × W16 × RecordFields)} (h : s.Journals u m) (c e : Nat) :
    s.Journals (u.revokeGrants c e) (m ++ grantRecords c e (u.desk e).stack) := by
  unfold Part.revokeGrants grantRecords
  rw [u.grantedLayer_eq e c]
  by_cases hall : (withoutGrants c (u.desk e).stack).length = (u.desk e).stack.length
  · rw [if_pos hall, if_pos hall, List.append_nil]
    exact h
  · rw [if_neg hall, if_neg hall]
    dsimp only
    unfold Part.cascade layerEnds
    exact (h.quiet (v := u.modDesk e fun x => { x with stack := x.stack.take _ }) rfl rfl rfl).writes false _ _

section grants

variable (c : Nat) (l : List Nat) (s : Part)

theorem grants_rest : l.foldl (fun t e => t.revokeGrants c e) s =
    { s with
      desks := (l.foldl (fun t e => t.revokeGrants c e) s).desks
      rst := (l.foldl (fun t e => t.revokeGrants c e) s).rst } := by
  induction l generalizing s with
  | nil => rfl
  | cons e l ih =>
    have hrest := ih (s.revokeGrants c e)
    rw [revokeGrants_rest s c e] at hrest
    rw [List.foldl_cons, revokeGrants_rest s c e]
    exact hrest

theorem grants_alike : s.Alike (l.foldl (fun t e => t.revokeGrants c e) s) :=
  .keepFold _ (fun u e => revokeGrants_alike u c e) l s

theorem grants_desk (hl : l.Nodup) {e : Nat} (he : e ∈ numbers 6) : (l.foldl (fun t e => t.revokeGrants c e) s).desk e =
    if e ∈ l then { s.desk e with stack := withoutGrants c (s.desk e).stack } else s.desk e := by
  induction l generalizing s with
  | nil => rfl
  | cons d l ih =>
    obtain ⟨hdl, hl⟩ := List.nodup_cons.1 hl
    rw [List.foldl_cons, ih (s.revokeGrants c d) hl, revokeGrants_desk s c he]
    by_cases hed : e = d
    · rw [if_neg (hed ▸ hdl), if_pos hed, if_pos (List.mem_cons.2 (.inl hed))]
    · rw [if_neg hed]
      simp only [List.mem_cons, hed, false_or]

end grants

theorem Part.Journals.grants {s u : Part} {m : List (Bool × W16 × RecordFields)} (h : s.Journals u m) (c : Nat)
    {l : List Nat} (hl : l.Nodup) (hmem : ∀ e ∈ l, e ∈ numbers 6) :
    s.Journals (l.foldl (fun t e => t.revokeGrants c e) u) (m ++ l.flatMap fun e => grantRecords c e (u.desk e).stack) := by
  induction l generalizing u m with
  | nil => rw [List.flatMap_nil, List.append_nil]; exact h
  | cons d l ih =>
    obtain ⟨hdl, hl⟩ := List.nodup_cons.1 hl
    have hrest := ih (h.revokeGrants c d) hl fun e he => hmem e (List.mem_cons_of_mem _ he)
    rw [List.append_assoc] at hrest
    rw [List.foldl_cons, List.flatMap_cons]
    refine hrest.records_eq (congrArg (fun x => m ++ (grantRecords c d (u.desk d).stack ++ x)) ?_)
    refine List.flatMap_congr fun e he => ?_
    rw [revokeGrants_desk u c (hmem e (List.mem_cons_of_mem _ he)), if_neg fun hed : e = d => hdl (hed ▸ he)]

end Sys2Proof.Machine
end

section
/-! The event of a REVOKE (R37). -/

namespace Sys2Proof.Machine

/-! ### Step 4: the desk of the credential -/

/-- The desk of credential `c`, if it has one, is a desk of the part at which `c` is signed on (R20). -/
def Part.SeatOf (s : Part) (c : Nat) : Prop :=
  getAt s.credDesk c ≠ 0 → getAt s.credDesk c ∈ numbers 6 ∧ (s.desk (getAt s.credDesk c)).signedOn = c

theorem Part.SignOnsAgree.seatOf {s : Part} (h : s.SignOnsAgree) {c : Nat} (hc : c ∈ numbers 64) : s.SeatOf c := fun hne => by
  obtain ⟨_, hcreds⟩ := h
  obtain ⟨hle, hon⟩ := hcreds c hc hne
  exact ⟨(mem_numbers _).2 ⟨Nat.one_le_iff_ne_zero.2 hne, hle⟩, hon⟩

theorem Part.forceOff_unseated {s : Part} {c : Nat} (h : getAt s.credDesk c = 0) : s.forceOff c = s := by
  rw [Part.forceOff, if_pos h]

theorem Part.forceOff_seated {s : Part} {c : Nat} (h : getAt s.credDesk c ≠ 0) :
    s.forceOff c = (s.signOffDesk (getAt s.credDesk c)).write false
      { kind := .signOff, desk := getAt s.credDesk c, credential := c, value := reasonRevoked } := by
  rw [Part.forceOff, if_neg h]

section forceOff

variable {s : Part} {c : Nat}

theorem forceOff_rest (h : s.SeatOf c) : s.forceOff c =
    { s with
      credDesk := if getAt s.credDesk c = 0 then s.credDesk else setAt s.credDesk c 0, rst := (s.forceOff c).rst
      points := (s.forceOff c).points, areas := (s.forceOff c).areas, desks := (s.forceOff c).desks } := by
  by_cases hseat : getAt s.credDesk c = 0
  · rw [Part.forceOff_unseated hseat, if_pos hseat]
  · obtain ⟨hd, hon⟩ := h hseat
    have hrest := signOffDesk_rest (s := s) hd
    rw [hon] at hrest
    rw [Part.forceOff_seated hseat, if_neg hseat, Part.write_rest, hrest]

theorem forceOff_point (h : s.SeatOf c) {q : Nat} (hq : q ∈ numbers 1024) :
    (s.forceOff c).point q = { s.point q with placement := ((s.forceOff c).point q).placement } := by
  by_cases hseat : getAt s.credDesk c = 0
  · rw [Part.forceOff_unseated hseat]
  · rw [Part.forceOff_seated hseat, Part.write_point_other]
    exact signOffDesk_point (h hseat).1 hq

theorem forceOff_area (h : s.SeatOf c) {a : Nat} (ha : a ∈ numbers 16) :
    (s.forceOff c).area a = { s.area a with pend := ((s.forceOff c).area a).pend } := by
  by_cases hseat : getAt s.credDesk c = 0
  · rw [Part.forceOff_unseated hseat]
  · rw [Part.forceOff_seated hseat, Part.write_area_other]
    exact signOffDesk_area (h hseat).1 ha

theorem forceOff_otherDesk (h : s.SeatOf c) {e : Nat} (he : e ∈ numbers 6) (hne : e ≠ getAt s.credDesk c) :
    (s.forceOff c).desk e = s.desk e := by
  by_cases hseat : getAt s.credDesk c = 0
  · rw [Part.forceOff_unseated hseat]
  · rw [Part.forceOff_seated hseat, Part.write_desk_other]
    exact signOffDesk_otherDesk (h hseat).1 he hne

theorem forceOff_desk {e : Nat} (he : e ∈ numbers 6) (hseat : e = getAt s.credDesk c) :
    (s.forceOff c).desk e =
      { s.desk e with
        signedOn := 0, stack := [], slots := ((s.forceOff c).desk e).slots, order := ((s.forceOff c).desk e).order } := by
  have hne : getAt s.credDesk c ≠ 0 := hseat ▸ Nat.one_le_iff_ne_zero.1 ((mem_numbers e).1 he).1
  rw [Part.forceOff_seated hne, Part.write_desk_other, ← hseat]
  exact signOffDesk_desk he

theorem forceOff_alike (h : s.SeatOf c) :
    (if getAt s.credDesk c = 0 then s else s.returnsAt (fun _ => 0) (getAt s.credDesk c)).Alike (s.forceOff c) := by
  by_cases hseat : getAt s.credDesk c = 0
  · rw [if_pos hseat, Part.forceOff_unseated hseat]
    exact .refl s
  · rw [if_neg hseat, Part.forceOff_seated hseat]
    exact (signOffDesk_alike (h hseat).1).trans (.write _ _ _)

theorem Part.Journals.forceOff {u : Part} {m : List (Bool × W16 × RecordFields)} (hu : u.Journals s m) (h : s.SeatOf c) :
    u.Journals (s.forceOff c) (m ++ if getAt s.credDesk c = 0 then []
      else [(false, 0, { kind := .signOff, desk := getAt s.credDesk c, credential := c, value := 2 })]) := by
  by_cases hseat : getAt s.credDesk c = 0
  · rw [if_pos hseat, Part.forceOff_unseated hseat, List.append_nil]
    exact hu
  · rw [if_neg hseat, Part.forceOff_seated hseat]
    exact (hu.signOffDesk (h hseat).1).write false _

end forceOff

/-! ### The steps together -/

/-- R37, steps 1 to 4 and the end of the credential, from desk `d`: what the revocation leaves before the presentation desks are
recomputed. -/
structure Revoking (s u : Part) (d c : Nat) : Prop where
  rest : u =
    { s with
      live := { s.live with creds := setAt s.live.creds c Credential.vacant }
      staged := { s.staged with creds := setAt s.staged.creds c Credential.vacant }
      credDesk := if getAt s.credDesk c = 0 then s.credDesk else setAt s.credDesk c 0
      rst := u.rst, sessions := u.sessions, points := u.points, areas := u.areas, desks := u.desks }
  point : ∀ q ∈ numbers 1024, u.point q = { s.point q with placement := (u.point q).placement }
  area : ∀ a ∈ numbers 16, u.area a =
    { s.area a with
      responsible := if (s.area a).responsible = c then 0 else (s.area a).responsible
      session := s.sessionAfter (s.abandoned fun x => x.outgoing == c || x.incoming == c) a
      generation := if (s.area a).responsible = c then (s.area a).generation + 1 else (s.area a).generation
      pend := (u.area a).pend }
  session : ∀ n ∈ numbers 4, u.session n =
    if n ∈ s.abandoned fun x => x.outgoing == c || x.incoming == c then Session.idle else s.session n
  desk : ∀ e ∈ numbers 6, u.desk e =
    { s.desk e with
      signedOn := if e = getAt s.credDesk c then 0 else (s.desk e).signedOn
      stack := if e = getAt s.credDesk c then [] else withoutGrants c (s.desk e).stack
      slots := (u.desk e).slots, order := (u.desk e).order }
  board : (if getAt s.credDesk c = 0 then s else s.returnsAt (fun _ => 0) (getAt s.credDesk c)).Alike u
  journals : s.Journals u
    (s.abandonRecords (s.abandoned fun x => x.outgoing == c || x.incoming == c) 5 d
      ++ ((numbers 16).filter fun a => (s.area a).responsible == c).map
          (fun a => (true, (s.area a).generation + 1, { kind := .assume, area := a, desk := d, value := 2 }))
      ++ (numbers 6).flatMap (fun e => grantRecords c e (s.desk e).stack)
      ++ if getAt s.credDesk c = 0 then []
        else [(false, 0, { kind := .signOff, desk := getAt s.credDesk c, credential := c, value := 2 })])

/-- The steps in a row, each from the part that the one before left. -/
theorem revoking_of_steps {s s1 : Part} {d c : Nat} (hc : c ∈ numbers 64) (hagree : s.SignOnsAgree)
    (h1 : s.Abandoning s1 (s.abandoned fun x => x.outgoing == c || x.incoming == c) 5 d) :
    Revoking s ((((numbers 6).foldl (fun t e => t.revokeGrants c e)
      ((s.heldBy c).foldl (Part.passArea 0 (revokedArea d)) s1)).forceOff c).setCred c Credential.vacant) d c := by
  have hheld : (s.heldBy c).Nodup := (numbers_nodup 16).filter _
  have hheldMem : ∀ a ∈ s.heldBy c, a ∈ numbers 16 := fun a ha => (List.mem_filter.1 ha).1
  have hheldIff : ∀ a ∈ numbers 16, (a ∈ s.heldBy c ↔ (s.area a).responsible = c) := fun a ha => by
    rw [Part.heldBy, List.mem_filter, beq_iff_eq]
    exact and_iff_right ha
  have hareas2 := fun a ha => passAreas_area 0 (revokedArea d) s1 hheld (b := a) ha
  have hrest2 := passAreas_rest 0 (revokedArea d) s1 (s.heldBy c)
  have halike2 := passAreas_alike 0 (revokedArea d) s1 (s.heldBy c)
  have hjournal2 := h1.journals.passAreas (c := 0) (f := revokedArea d) (fun _ => rfl) hheld hheldMem
  generalize (s.heldBy c).foldl (Part.passArea 0 (revokedArea d)) s1 = s2 at *
  have hdesks3 := fun e he => grants_desk c (numbers 6) s2 (numbers_nodup 6) (e := e) he
  have hrest3 := grants_rest c (numbers 6) s2
  have halike3 := grants_alike c (numbers 6) s2
  have hjournal3 := hjournal2.grants c (numbers_nodup 6) fun _ he => he
  generalize (numbers 6).foldl (fun t e => t.revokeGrants c e) s2 = s3 at *
  have hcred3 : s3.credDesk = s.credDesk := by rw [hrest3, hrest2, h1.rest]
  have hdesk2 : ∀ e, s2.desk e = s.desk e := fun e => by
    rw [← h1.desk e, hrest2]
    rfl
  have hdesk3 : ∀ e ∈ numbers 6, s3.desk e = { s.desk e with stack := withoutGrants c (s.desk e).stack } := fun e he => by
    rw [hdesks3 e he, if_pos he, hdesk2]
  have harea3 : ∀ a ∈ numbers 16, s3.area a =
      { s.area a with
        responsible := if (s.area a).responsible = c then 0 else (s.area a).responsible
        session := s.sessionAfter (s.abandoned fun x => x.outgoing == c || x.incoming == c) a
        generation := if (s.area a).responsible = c then (s.area a).generation + 1 else (s.area a).generation } := by
    intro a ha
    have hsame : s3.area a = s2.area a := by rw [hrest3]; rfl
    rw [hsame, hareas2 a ha, h1.area a ha]
    by_cases hresp : (s.area a).responsible = c
    · rw [if_pos ((hheldIff a ha).2 hresp), if_pos hresp, if_pos hresp]
      rfl
    · rw [if_neg fun hin => hresp ((hheldIff a ha).1 hin), if_neg hresp, if_neg hresp]
  have hseat : s3.SeatOf c := by
    unfold Part.SeatOf
    rw [hcred3]
    intro hne
    obtain ⟨hd, hon⟩ := hagree.seatOf hc hne
    exact ⟨hd, by rw [hdesk3 _ hd]; exact hon⟩
  have hrest4 := forceOff_rest hseat
  have hpoint4 := fun q hq => forceOff_point hseat (q := q) hq
  have harea4 := fun a ha => forceOff_area hseat (a := a) ha
  have hother4 := fun e he => forceOff_otherDesk hseat (e := e) he
  have hdesk4 := fun e he => forceOff_desk (s := s3) (c := c) (e := e) he
  have halike4 := forceOff_alike hseat
  have hjournal4 := hjournal3.forceOff hseat
  generalize s3.forceOff c = s4 at *
  rw [hcred3] at hrest4 hother4 hdesk4 halike4 hjournal4
  have halike : s.Alike s3 := (h1.alike.trans halike2).trans halike3
  refine ⟨?rest, fun q hq => ?point, fun a ha => ?area, fun n hn => ?session, fun e he => ?desk, ?board, ?journals⟩
  case rest =>
    rw [Part.setCred, hrest4, hrest3, hrest2, h1.rest]
  case point =>
    refine (hpoint4 q hq).trans ?_
    rw [show s3.point q = s.point q by rw [hrest3, hrest2, h1.rest]; rfl]
    rfl
  case area =>
    refine (harea4 a ha).trans ?_
    rw [harea3 a ha]
    rfl
  case session =>
    rw [← h1.session n hn, Part.session, Part.setCred, hrest4, hrest3, hrest2]
    rfl
  case desk =>
    by_cases hed : e = getAt s.credDesk c
    · refine (hdesk4 e he hed).trans ?_
      rw [hdesk3 e he, if_pos hed, if_pos hed]
      rfl
    · have hdesk : (s4.setCred c Credential.vacant).desk e = { s.desk e with stack := withoutGrants c (s.desk e).stack } :=
        (hother4 e he hed).trans (hdesk3 e he)
      rw [if_neg hed, if_neg hed, hdesk]
  case board =>
    refine Part.Alike.trans ?_ (halike4.trans (.rest rfl rfl rfl rfl rfl rfl))
    split
    · exact halike
    · exact halike.returnsAt _ _
  case journals =>
    refine (hjournal4.quiet (v := s4.setCred c Credential.vacant) rfl rfl rfl).records_eq ?_
    have hgens : (s.heldBy c).map (fun a => (true, (s1.area a).generation + 1, revokedArea d a))
        = (s.heldBy c).map fun a => (true, (s.area a).generation + 1, revokedArea d a) :=
      List.map_congr_left fun a ha => by rw [h1.area a (hheldMem a ha)]
    simp only [hdesk2]
    rw [hgens]
    rfl

/-! ### REVOKE (R36, R37) -/

/-- R37: the revocation before the presentation desks are recomputed. -/
def Part.revoking (s : Part) (d c : Nat) : Part :=
  (((numbers 6).foldl (fun t e => t.revokeGrants c e)
    ((s.heldBy c).foldl (Part.passArea 0 (revokedArea d))
      (s.abandonWhere abandonRevoked d fun x => x.outgoing == c || x.incoming == c))).forceOff c).setCred c Credential.vacant

theorem Part.revoke_eq (s : Part) (d c : Nat) : s.revoke d c = closeEvent s [] (s.revoking d c).recompute := rfl

theorem Part.revoking_steps {s : Part} (d : Nat) {c : Nat} (hc : c ∈ numbers 64) (hagree : s.SignOnsAgree) :
    Revoking s (s.revoking d c) d c := revoking_of_steps hc hagree (abandonWhere_abandoning ..)

theorem Revoking.revoked {s u : Part} {d c : Nat} (h : Revoking s u d c) : s.Revoked (closeEvent s [] u.recompute) d c := by
  have hpresents := recompute_presents u
  have hreseating : Reseating s u (closeEvent s [] u.recompute) := closeEvent_reseating s [] rfl
  unfold Part.Revoked
  dsimp only
  refine ⟨hreseating.frame h.point h.area ?_, fun n hn => ?_, fun e he => ?_, hreseating.board.congr h.board.symm (.refl _),
    ?_, ?_, ?_, h.journals.recompute.close []⟩
  · rw [h.rest]
    exact ⟨rfl, rfl, rfl, rfl, rfl⟩
  · rw [← h.session n hn, Part.session, closeEvent_sessions, hpresents.rest]
    rfl
  · have hdesk := h.desk e he
    split
    · next hseat =>
      rw [if_pos hseat, if_pos hseat] at hdesk
      exact hreseating.deskReseated he (by rw [hdesk])
    · next hseat =>
      rw [if_neg hseat, if_neg hseat] at hdesk
      exact hreseating.deskReseated he (by rw [hdesk])
  · rw [hreseating.credDesk, h.rest]
  · rw [hreseating.live, h.rest]
  · rw [hreseating.staged, h.rest]

theorem Part.Revoked.answered {s t : Part} {d c : Nat} (h : s.taken.Revoked t d c) {x : Lif} (hlink : x.link = t.lif.link) :
    s.Revoked { t with lif := x } d c := by
  obtain ⟨hframe, hsessions, hdesks, hboard, hcred, hlive, hstaged, hwrote⟩ := h
  refine ⟨hframe, hsessions, hdesks, hboard.congr ?_ (.rest rfl rfl rfl rfl rfl rfl), hcred, hlive, hstaged,
    hwrote.answered hlink⟩
  show (if getAt s.credDesk c = 0 then s.taken else s.taken.returnsAt (fun _ => 0) (getAt s.credDesk c)).Alike _
  split
  · exact (Part.Alike.taken s).symm
  · exact (Part.Alike.taken s).symm.returnsAt _ _

theorem Part.revokeCheck_passes {s : Part} {d c : Nat} (hdesk : isDesk d = true) (hc : c ∈ numbers 64)
    (hon : (s.desk d).signedOn ≠ 0) (hmay : allowsPlantWide (s.topLayer d) Perm.configure.set = true)
    (hvalid : (s.cred c).valid = true) : s.revokeCheck d c = none := by
  have hrange : (!(decide (1 ≤ c) && decide (c ≤ Config.nCreds))) = false := by
    obtain ⟨hlo, hhi⟩ := (mem_numbers c).1 hc
    rw [decide_eq_true hlo, decide_eq_true (show c ≤ Config.nCreds from hhi)]
    rfl
  rw [Part.revokeCheck, hrange, Part.configureCheck_passes hdesk hon hmay, hvalid]
  rfl

/-- Settles O36: `revoking_of_steps` gathers the steps of R37, then the presentation desks are recomputed. -/
theorem revokeReleasesEverything : Obligations.RevokeReleasesEverything := by
  intro s tag body h d c hdesk hc hon hmay hvalid hagree
  have hcheck : s.taken.revokeCheck (byteAt body 0) (byteAt body 1) = none :=
    Part.revokeCheck_passes (s := s.taken) hdesk hc hon hmay hvalid
  have hanswer : revokeHandler body s.taken = (s.taken.revoke d c, [0]) := by
    unfold revokeHandler
    simp only [hcheck]
    rfl
  have hsteps := s.taken.revoking_steps d hc hagree
  have hrevoked := hsteps.revoked
  have hlif : (closeEvent s.taken [] (s.taken.revoking d c).recompute).lif = s.taken.lif := by
    rw [closeEvent_lif, (recompute_presents _).rest, hsteps.rest]
  rw [Part.revoke_eq] at hanswer
  generalize closeEvent s.taken [] (s.taken.revoking d c).recompute = t at hanswer hlif hrevoked
  exact ⟨_, completes_answered exec_revoke h hanswer hlif, rfl, hrevoked.answered (Part.answer_link_of hlif ..)⟩

end Sys2Proof.Machine
end

section
/-! CONFIG_BEGIN and CONFIG_COMMIT (R187 to R190). -/

namespace Sys2Proof.Machine

/-! ### An event that queues the near-full report alone (R160, R190) -/

/-- The JOURNAL_NEAR_FULL entry. -/
def nearFullEntry : ReportEntry := { kind := .journalNearFull, subject := 0 }

theorem closeJournal_eq (s t : Part) : closeJournal s t =
    if s.rst.nearFull = .armed ∧ t.rst.nearFull = .fired then t.modRst fun r => r.queue t.journalSize nearFullEntry
    else t := by
  unfold closeJournal Part.queueReports
  split <;> rfl

theorem closeJournal_rest (s t : Part) : closeJournal s t =
    { t with
      rst := { t.rst with reports := (closeJournal s t).rst.reports, dropped := (closeJournal s t).rst.dropped } } := by
  unfold closeJournal
  exact Part.queueReports_rest ..

theorem closeJournal_recorded {s t u : Part} {l : List JournalRecord} (h : u.Recorded t l) : u.Recorded (closeJournal s t) l := by
  rw [closeJournal_rest]
  exact h

/-- R160: the report joins the queue while there is room and its kind is enabled. -/
theorem closeJournal_reports {s t : Part} (hroom : (t.rst.reports.filter fun x => x.kind != .overflow).length
      < 4096 - t.journalSize - 1) (hnew : nearFullEntry ∉ t.rst.reports) :
    (closeJournal s t).rst.dropped = t.rst.dropped ∧ (closeJournal s t).rst.reports = t.rst.reports ++
      if s.rst.nearFull = .armed ∧ t.rst.nearFull = .fired ∧ getAt t.rst.enabled 6 = true then [nearFullEntry] else [] := by
  rw [closeJournal_eq]
  by_cases hfires : s.rst.nearFull = .armed ∧ t.rst.nearFull = .fired
  · obtain ⟨hoff, hroomy, _⟩ := Rst.queue_cases t.journalSize t.rst nearFullEntry
    have henabled : t.rst.kindEnabled nearFullEntry.kind = getAt t.rst.enabled 6 := rfl
    rw [if_pos hfires]
    show (t.rst.queue t.journalSize nearFullEntry).dropped = _ ∧ (t.rst.queue t.journalSize nearFullEntry).reports = _
    cases hon : getAt t.rst.enabled 6 with
    | false =>
      rw [hoff (.inl (henabled.trans hon)), if_neg fun h => absurd h.2.2 (by decide), List.append_nil]
      exact ⟨rfl, rfl⟩
    | true =>
      rw [hroomy (henabled.trans hon) hnew hroom, if_pos ⟨hfires.1, hfires.2, rfl⟩]
      exact ⟨rfl, rfl⟩
  · rw [if_neg hfires, if_neg fun h => hfires ⟨h.1, h.2.1⟩, List.append_nil]
    exact ⟨rfl, rfl⟩

/-! ### Reports of an event that changes no reported field -/

theorem changedEntries_same {α : Type} {k : ReportKind} {f : α → α → Bool} (hf : ∀ x, f x x = false) (u : List α) :
    changedEntries k [] f u u = [] := by
  unfold changedEntries
  rw [List.map_eq_nil_iff, List.filter_eq_nil_iff]
  rintro ⟨⟨x, y⟩, i⟩ hx
  obtain ⟨_, _, hget⟩ := List.mem_zipIdx hx
  rw [List.getElem_zip] at hget
  have hsame : x = y := (congrArg Prod.fst hget).trans (congrArg Prod.snd hget).symm
  subst hsame
  simp [hf]

theorem eventReports_same {s t : Part} (hpoints : t.points = s.points) (hareas : t.areas = s.areas) (hdesks : t.desks = s.desks)
    (hsessions : t.sessions = s.sessions) (hphase : t.phase ≠ .running) : eventReports s t [] =
      if s.rst.nearFull = .armed ∧ t.rst.nearFull = .fired then [nearFullEntry] else [] := by
  have hdesk : ∀ d, deskReported s t d = false := by
    intro d
    have hsame : t.desk d = s.desk d := by rw [Part.desk, hdesks]; rfl
    have hmine : t.deskAreas d = s.deskAreas d := by unfold Part.deskAreas Part.area; rw [hareas]
    rw [deskReported, hsame, hmine, beq_eq_false_iff_ne.2 hphase]
    simp
  unfold eventReports
  rw [hpoints, hareas, hdesks, hsessions, changedEntries_same (by simp [pointReported]),
    changedEntries_same (by simp [areaReported]), changedEntries_same (by simp [sessionReported]),
    changedEntries_same (by simp [authorityReported]), List.filter_eq_nil_iff.2 fun d _ => by simp [hdesk d]]
  rfl

/-! ### Everything at rest (R188, R190) -/

/-- A desk after a commit or a restart. -/
def Desk.rested (x : Desk) (live : DeskCfg) : Desk :=
  { x with
    signedOn := 0, stack := [], slots := #v[none, none, none, none], order := []
    rotation := [1, 2, 3, 4, 5, 6, 7, 8, 9, 10, 11, 12, 13, 14, 15, 16], horn := .off, hornPattern := 0
    boundaryDue := false, lampsFollow := false, lamps := if x.boundaryDue then live.lamps else x.lamps
    ackPresses := 0, silPresses := 0, hold := { remaining := 0, due := false }, lampTest := { remaining := 0, due := false } }

theorem Desk.cleared_settled (x : Desk) (live : DeskCfg) : (x.settled live).cleared = x.rested live := by
  have hrotation : rotationInitial = [1, 2, 3, 4, 5, 6, 7, 8, 9, 10, 11, 12, 13, 14, 15, 16] := by decide
  have hslots : (Vector.replicate 4 none : Vector (Option Slot) 4) = #v[none, none, none, none] := rfl
  unfold Desk.cleared Desk.settled Desk.rested
  cases hdue : x.boundaryDue <;> simp [hdue, hrotation, hslots, Timer.idle]

theorem Part.settleBoundaries_desk_eq (s : Part) {d : Nat} (hd : d ∈ numbers 6) :
    s.settleBoundaries.desk d = (s.desk d).settled (getAt s.live.desks d) := by
  have hrange := (mem_numbers d).1 hd
  show getAt (s.desks.zipWith Desk.settled s.live.desks) d = _
  rw [Part.desk, getAt_eq _ _ hrange, getAt_eq _ _ hrange, getAt_eq _ _ hrange]
  simp

theorem Part.restDynamic_desk (s : Part) {d : Nat} (hd : d ∈ numbers 6) : s.restDynamic.desk d = (s.desk d).cleared := by
  obtain ⟨hlo, hhi⟩ := (mem_numbers d).1 hd
  exact getAt_map Desk.cleared s.desks d hlo hhi

/-- R188, R190: what rests in `t` as it does after a commit or a restart at the time of `s`. -/
structure Rested (s t : Part) : Prop where
  point : ∀ p ∈ numbers 1024, t.point p =
    { state := .normal, shadow := false, view := 0, occurrences := 0, firstActive := none, lastChange := s.now
      placement := .none, shelfSlot := none }
  area : ∀ a ∈ numbers 16, t.area a = Area.resting
  group : ∀ g ∈ numbers 64, getAt t.groups g = false
  shelf : ∀ k ∈ numbers 96, getAt t.shelf k = none
  credDesk : ∀ c ∈ numbers 64, getAt t.credDesk c = 0
  desk : ∀ e ∈ numbers 6, t.desk e = (s.desk e).rested (getAt s.live.desks e)

theorem Rested.congr {s t u : Part} (h : Rested s t) (hpoints : u.points = t.points) (hareas : u.areas = t.areas)
    (hgroups : u.groups = t.groups) (hshelf : u.shelf = t.shelf) (hcred : u.credDesk = t.credDesk)
    (hdesks : u.desks = t.desks) : Rested s u := by
  constructor
  · intro p hp; rw [Part.point, hpoints]; exact h.point p hp
  · intro a ha; rw [Part.area, hareas]; exact h.area a ha
  · intro g hg; rw [hgroups]; exact h.group g hg
  · intro k hk; rw [hshelf]; exact h.shelf k hk
  · intro c hc; rw [hcred]; exact h.credDesk c hc
  · intro e he; rw [Part.desk, hdesks]; exact h.desk e he

/-- What `restDynamic` leaves of a part whose boundaries were settled. -/
theorem restDynamic_rested {s u : Part} (hnow : u.now = s.now) (hdesks : u.desks = s.settleBoundaries.desks) :
    Rested s u.restDynamic where
  point p hp := (getAt_fresh _ hp).trans (congrArg Point.resting hnow)
  area a ha := getAt_fresh _ ha
  group g hg := getAt_fresh _ hg
  shelf k hk := getAt_fresh _ hk
  credDesk c hc := getAt_fresh _ hc
  desk e he := by
    rw [Part.restDynamic_desk u he, Part.desk, hdesks, ← Desk.cleared_settled, ← Part.settleBoundaries_desk_eq s he]
    rfl

end Sys2Proof.Machine
end

section
/-! The checks of a commit (R187). -/

namespace Sys2Proof.Machine

/-! ### The first number that fails -/

/-- `o` is the lowest number of which `P` holds, none when it holds of none. -/
def IsFirst (P : Nat → Prop) : Option Nat → Prop
  | none => ∀ m, ¬P m
  | some n => P n ∧ ∀ m, P m → n ≤ m

theorem isFirst_find (f : Nat → Bool) (n : Nat) : IsFirst (fun k => k ∈ numbers n ∧ f k = true) ((numbers n).find? f) := by
  cases h : (numbers n).find? f with
  | none =>
    rintro m ⟨hm, hf⟩
    exact List.find?_eq_none.1 h m hm hf
  | some k =>
    refine ⟨⟨List.mem_of_find?_eq_some h, List.find?_some h⟩, ?_⟩
    rintro m ⟨hm, hf⟩
    by_contra hlt
    rw [List.find?_eq_some_iff_getElem] at h
    obtain ⟨_, i, hi, hget, hbefore⟩ := h
    obtain ⟨j, hj, hgetj⟩ := List.mem_iff_getElem.1 hm
    have hik : k = 1 + i := by rw [← hget]; simp [numbers]
    have hjm : m = 1 + j := by rw [← hgetj]; simp [numbers]
    have := hbefore j (by omega)
    rw [hgetj, hf] at this
    exact absurd this (by decide)

theorem isFirst_firstFailing {α : Type} [Inhabited α] {n : Nat} (f : α → Bool) (v : Vector α n) :
    IsFirst (fun k => k ∈ numbers n ∧ f (getAt v k) = true) (firstFailing f v.toList) := by
  have hget : ∀ i (hi : i < v.toList.length), v.toList[i] = getAt v (i + 1) := fun i hi => by
    have hlen : i < n := by simpa using hi
    rw [getAt_eq v (i + 1) ⟨by omega, by omega⟩]
    simp
  unfold firstFailing
  cases h : v.toList.findIdx? f with
  | none =>
    rintro m ⟨hm, hf⟩
    obtain ⟨hlo, hhi⟩ := (mem_numbers m).1 hm
    have hnone := List.findIdx?_eq_none_iff.1 h (getAt v m) (getAt_mem v hm)
    rw [hf] at hnone
    exact absurd hnone (by decide)
  | some i =>
    rw [List.findIdx?_eq_some_iff_getElem] at h
    obtain ⟨hi, hfi, hbefore⟩ := h
    have hlen : i < n := by simpa using hi
    rw [hget i hi] at hfi
    show (i + 1 ∈ numbers n ∧ _) ∧ ∀ m, _ → i + 1 ≤ m
    refine ⟨⟨(mem_numbers _).2 ⟨by omega, by omega⟩, hfi⟩, ?_⟩
    rintro m ⟨hm, hf⟩
    obtain ⟨hlo, hhi⟩ := (mem_numbers m).1 hm
    by_contra hlt
    have hbad := hbefore (m - 1) (by omega)
    rw [hget, Nat.sub_add_cancel hlo, hf] at hbad
    exact absurd hbad (by decide)

/-! ### The five classes (R187) -/

theorem within_one_iff (hi n : Nat) : within 1 hi n = false ↔ n ∉ numbers hi := by
  rw [← Bool.not_eq_true, not_iff_not, within, Bool.and_eq_true, decide_eq_true_iff, decide_eq_true_iff, mem_numbers]

theorem Cfg.fails_point (c : Cfg) (n : Nat) :
    c.Fails 1 n ↔ n ∈ numbers 1024 ∧ pointFails (getAt c.points n) = true := by
  simp [Cfg.Fails, pointFails, within_one_iff]

theorem Cfg.fails_area (c : Cfg) (n : Nat) : c.Fails 2 n ↔ n ∈ numbers 16 ∧ areaFails (getAt c.areas n) = true := by
  simp [Cfg.Fails, areaFails, within_one_iff, or_assoc]

theorem Cfg.fails_badge (c : Cfg) (n : Nat) : c.Fails 3 n ↔ n ∈ numbers 64 ∧ badgeFails c n = true := by
  have hbefore : ∀ j, j ∈ numbers (n - 1) ∧ n ∈ numbers 64 ↔ j ∈ numbers 64 ∧ j < n ∧ n ∈ numbers 64 := fun j => by
    simp only [mem_numbers]
    omega
  have hsame : n ∈ numbers 64 → ((∃ j ∈ numbers (n - 1), (getAt c.creds j).valid = true
      ∧ (getAt c.creds j).badge = (getAt c.creds n).badge) ↔ ∃ j ∈ numbers 64, j < n ∧ (getAt c.creds j).valid = true
      ∧ (getAt c.creds j).badge = (getAt c.creds n).badge) := fun hn => by
    refine exists_congr fun j => ⟨fun ⟨hj, hrest⟩ => ?_, fun ⟨hj, hlt, hrest⟩ => ?_⟩
    · obtain ⟨hj', hlt, _⟩ := (hbefore j).1 ⟨hj, hn⟩
      exact ⟨hj', hlt, hrest⟩
    · exact ⟨((hbefore j).2 ⟨hj, hlt, hn⟩).1, hrest⟩
  unfold Cfg.Fails
  simp only [badgeFails, Bool.and_eq_true, Bool.or_eq_true, beq_iff_eq, List.any_eq_true]
  constructor
  · rintro (⟨h, _⟩ | ⟨h, _⟩ | ⟨_, hn, hvalid, hbad⟩ | ⟨h, _⟩ | ⟨h, _⟩)
    · exact absurd h (by decide)
    · exact absurd h (by decide)
    · exact ⟨hn, hvalid, hbad.imp id fun h => (hsame hn).2 h⟩
    · exact absurd h (by decide)
    · exact absurd h (by decide)
  · rintro ⟨hn, hvalid, hbad⟩
    exact .inr (.inr (.inl ⟨trivial, hn, hvalid, hbad.imp id fun h => (hsame hn).1 h⟩))

theorem Cfg.fails_role (c : Cfg) (n : Nat) : c.Fails 4 n ↔ n ∈ numbers 64 ∧ roleFails c n = true := by
  simp [Cfg.Fails, roleFails, within_one_iff, Config.nRoles]

theorem Cfg.fails_journal (c : Cfg) (n : Nat) : c.Fails 5 n ↔ n = 0 ∧ within 4 15 c.plant.jField = false := by
  simp [Cfg.Fails, within, mem_numbers]
  omega

theorem Cfg.fails_class {c : Cfg} {k n : Nat} (h : c.Fails k n) : k ∈ numbers 5 ∧ n ∈ 0 :: numbers 1024 := by
  simp only [Cfg.Fails, mem_numbers, List.mem_cons] at h ⊢
  omega

/-! ### The first item that fails -/

/-- `o` is the first item that fails, none when the copy passes. -/
def Cfg.Judged (c : Cfg) : Option (Nat × Nat) → Prop
  | none => ∀ k n, ¬c.Fails k n
  | some x => c.Fails x.1 x.2 ∧ ∀ i m, c.Fails i m → x.1 < i ∨ x.1 = i ∧ x.2 ≤ m

theorem Cfg.failing_judged (c : Cfg) : c.Judged c.failing := by
  have hpoint := isFirst_firstFailing pointFails c.points
  have harea := isFirst_firstFailing areaFails c.areas
  have hbadge := isFirst_find (badgeFails c) 64
  have hrole := isFirst_find (roleFails c) 64
  simp only [← c.fails_point] at hpoint
  simp only [← c.fails_area] at harea
  simp only [← c.fails_badge] at hbadge
  simp only [← c.fails_role] at hrole
  have hclass : ∀ i m, c.Fails i m → i = 1 ∨ i = 2 ∨ i = 3 ∨ i = 4 ∨ i = 5 := fun i m h => by
    have := (mem_numbers i).1 (Cfg.fails_class h).1
    omega
  unfold Cfg.failing
  generalize firstFailing pointFails c.points.toList = o1 at hpoint
  generalize firstFailing areaFails c.areas.toList = o2 at harea
  rw [show Config.nCreds = 64 from rfl]
  generalize (numbers 64).find? (badgeFails c) = o3 at hbadge
  generalize (numbers 64).find? (roleFails c) = o4 at hrole
  cases o1 with
  | some n =>
    refine ⟨hpoint.1, fun i m h => ?_⟩
    rcases hclass i m h with rfl | rfl | rfl | rfl | rfl
    · exact .inr ⟨rfl, hpoint.2 m h⟩
    all_goals exact .inl (by dsimp only; decide)
  | none =>
  cases o2 with
  | some n =>
    refine ⟨harea.1, fun i m h => ?_⟩
    rcases hclass i m h with rfl | rfl | rfl | rfl | rfl
    · exact absurd h (hpoint m)
    · exact .inr ⟨rfl, harea.2 m h⟩
    all_goals exact .inl (by dsimp only; decide)
  | none =>
  cases o3 with
  | some n =>
    refine ⟨hbadge.1, fun i m h => ?_⟩
    rcases hclass i m h with rfl | rfl | rfl | rfl | rfl
    · exact absurd h (hpoint m)
    · exact absurd h (harea m)
    · exact .inr ⟨rfl, hbadge.2 m h⟩
    all_goals exact .inl (by dsimp only; decide)
  | none =>
  cases o4 with
  | some n =>
    refine ⟨hrole.1, fun i m h => ?_⟩
    rcases hclass i m h with rfl | rfl | rfl | rfl | rfl
    · exact absurd h (hpoint m)
    · exact absurd h (harea m)
    · exact absurd h (hbadge m)
    · exact .inr ⟨rfl, hrole.2 m h⟩
    · exact .inl (by dsimp only; decide)
  | none =>
    dsimp only
    split
    · next hok =>
      intro i m h
      rcases hclass i m h with rfl | rfl | rfl | rfl | rfl
      · exact hpoint m h
      · exact harea m h
      · exact hbadge m h
      · exact hrole m h
      · rw [c.fails_journal, hok] at h
        exact absurd h.2 (by decide)
    · next hbad =>
      refine ⟨(c.fails_journal 0).2 ⟨rfl, Bool.not_eq_true _ ▸ hbad⟩, fun i m h => ?_⟩
      rcases hclass i m h with rfl | rfl | rfl | rfl | rfl
      · exact absurd h (hpoint m)
      · exact absurd h (harea m)
      · exact absurd h (hbadge m)
      · exact absurd h (hrole m)
      · exact .inr ⟨rfl, Nat.zero_le m⟩

/-- R187: the first item that fails is the answer of the checks. -/
theorem Cfg.failing_iff (c : Cfg) (k n : Nat) : c.failing = some (k, n) ↔ c.FailsFirst k n := by
  have hjudged := c.failing_judged
  constructor
  · intro h
    rw [h] at hjudged
    exact ⟨hjudged.1, fun i _ m _ hfails => hjudged.2 i m hfails⟩
  · rintro ⟨hfails, hfirst⟩
    cases hres : c.failing with
    | none =>
      rw [hres] at hjudged
      exact absurd hfails (hjudged k n)
    | some x =>
      rw [hres] at hjudged
      obtain ⟨hx, hmin⟩ := hjudged
      obtain ⟨hclass, hindex⟩ := Cfg.fails_class hx
      have h1 := hfirst x.1 hclass x.2 hindex hx
      have h2 := hmin k n hfails
      rw [Option.some.injEq, Prod.ext_iff]
      dsimp only
      omega

theorem Cfg.failing_none_iff (c : Cfg) :
    c.failing = none ↔ ∀ k ∈ numbers 5, ∀ n ∈ 0 :: numbers 1024, ¬c.Fails k n := by
  have hjudged := c.failing_judged
  constructor
  · intro h k _ n _
    rw [h] at hjudged
    exact hjudged k n
  · intro h
    cases hres : c.failing with
    | none => rfl
    | some x =>
      rw [hres] at hjudged
      obtain ⟨hclass, hindex⟩ := Cfg.fails_class hjudged.1
      exact absurd hjudged.1 (h x.1 hclass x.2 hindex)

end Sys2Proof.Machine
end

section
/-! CONFIG_COMMIT and CONFIG_BEGIN (R157, R188 to R190). -/

namespace Sys2Proof.Machine

theorem exec_configCommit (u : State) : exec .configCommit u = onRequest .configCommit configCommitHandler u := rfl

theorem exec_configBegin (u : State) : exec .configBegin u = onRequest .configBegin configBeginHandler u := rfl

/-- An answer from which the continuation of R174 has gone. -/
theorem completes_cleared {c : Instr} {k : ReqKind} {f : Handler} {s t : Part} {tag : Byte} {body reply : List Byte}
    (hexec : ∀ u, exec c u = onRequest k f u) (h : s.Takes k tag body) (hf : f body s.taken = (t, reply))
    (hlif : t.lif = { s.taken.lif with continuation := none }) :
    Completes c s { t with lif := { s.answer k tag reply with continuation := none } } := by
  have hdone := completes_taken hexec h
  rw [hf] at hdone
  have heq : t.reply tag (byteOf k.code) reply = { t with lif := { s.answer k tag reply with continuation := none } } := by
    unfold Part.reply Part.modLif
    rw [hlif, replyKind_code]
    rfl
  rwa [heq] at hdone

/-! ### CONFIG_COMMIT (R188) -/

/-- R188: the part of a commit with its PHASE record, before the end of the event. -/
def Part.committing (s : Part) : Part := (s.committed.resync .commit).enterPhase .running

theorem Part.commit_close (s : Part) : s.commit = closeJournal (s.committed.resync .commit) s.committing := rfl

theorem Part.committed_rested (s : Part) : Rested s s.committed := by
  unfold Part.committed
  rw [Part.adoptStaged_eq]
  exact (restDynamic_rested (s := s) (u := { s.settleBoundaries with
    live := s.staged, rst := if s.staged.plant.jField = s.live.plant.jField then s.rst else s.rst.resize })
    rfl rfl).congr rfl rfl rfl rfl rfl rfl

theorem Part.committed_rest (s : Part) : s.committed =
    { s with
      live := s.staged, rst := if s.staged.plant.jField = s.live.plant.jField then s.rst else s.rst.resize
      points := s.committed.points, areas := s.committed.areas, groups := s.committed.groups, shelf := s.committed.shelf
      credDesk := s.committed.credDesk, desks := s.committed.desks, sessions := Vector.replicate 4 Session.idle } := by
  unfold Part.committed
  rw [Part.adoptStaged_eq]
  rfl

theorem Part.committing_rest (s : Part) : s.committing =
    { s.committed with
      phase := .running, lif := { s.committed.lif with continuation := none }, rst := s.committing.rst } := rfl

theorem Part.commit_rested (s : Part) : Rested s s.commit := by
  rw [Part.commit_close, closeJournal_rest, Part.committing_rest]
  exact s.committed_rested.congr rfl rfl rfl rfl rfl rfl

theorem Part.commit_fields (s : Part) : s.commit.lif = { s.lif with continuation := none } ∧ s.commit.phase = .running
    ∧ s.commit.live = s.staged ∧ s.commit.staged = s.staged ∧ s.commit.tset = s.tset ∧ s.commit.resetLow = s.resetLow
    ∧ s.commit.sessions = Vector.replicate 4 Session.idle := by
  rw [Part.commit_close, closeJournal_rest, Part.committing_rest, Part.committed_rest]
  exact ⟨rfl, rfl, rfl, rfl, rfl, rfl, rfl⟩

/-- R157, R166: the Record Store of a commit before the PHASE record. -/
theorem Part.committed_store (s : Part) : (s.committed.resync .commit).rst =
    { s.rst with
      journal := if s.staged.plant.jField = s.live.plant.jField then s.rst.journal else []
      unarchived := if s.staged.plant.jField = s.live.plant.jField then s.rst.unarchived else 0
      nearFull := if s.staged.plant.jField = s.live.plant.jField then s.rst.nearFull else .armed
      reports := [{ kind := .resync, subject := 0 }], dropped := 0, resyncReason := some .commit } := by
  rw [Part.committed_rest]
  by_cases hsame : s.staged.plant.jField = s.live.plant.jField
  · simp only [if_pos hsame]
    rfl
  · simp only [if_neg hsame]
    rfl

theorem Part.committed_size (s : Part) : (s.committed.resync .commit).journalSize = 256 * s.staged.plant.jField := by
  rw [Part.committed_rest]
  rfl

/-- R188: the one record of a commit, written over the staged J. -/
theorem Part.committing_recorded (s : Part) : (s.committed.resync .commit).Recorded s.committing
    [s.record 0 false 0 { kind := .phase, value := 2 }] := by
  have hrec := Part.write_recorded { s.committed.resync .commit with phase := .running } false
    { kind := .phase, value := w16 Phase.running.code }
  have hrecord : ({ s.committed.resync .commit with phase := .running } : Part).record 0 false
      (({ s.committed.resync .commit with phase := .running } : Part).generationOf 0)
      { kind := .phase, value := w16 Phase.running.code } = s.record 0 false 0 { kind := .phase, value := 2 } := by
    unfold Part.record
    show JournalRecord.mk ((s.committed.resync .commit).rst.nextSeq + _) s.committed.now _ _ _ _ _ _ _ _ _ = _
    rw [s.committed_store, s.committed_rest]
    rfl
  rw [show (RecordFields.area { kind := .phase, value := w16 Phase.running.code }) = 0 from rfl, hrecord] at hrec
  exact hrec

/-- R157, R160, R166, R188: the Record Store after a commit that passes. -/
theorem Part.commit_store {s : Part} (hpass : s.staged.failing = none) :
    let phaseRecord := s.record 0 false 0 { kind := .phase, value := 2 }
    let size := 256 * s.staged.plant.jField
    let same := s.staged.plant.jField = s.live.plant.jField
    let count := if same then s.rst.unarchived else 0
    let state := if same then s.rst.nearFull else .armed
    let fires := state = .armed ∧ count < size - size / 8 ∧ size - size / 8 ≤ count + 1
    (s.commit.rst.journal =
        if same then
          (s.rst.journal ++ [phaseRecord]).drop ((s.rst.journal ++ [phaseRecord]).length - 256 * s.live.plant.jField)
        else [phaseRecord])
      ∧ s.commit.rst.nextSeq = s.rst.nextSeq + 1 ∧ s.commit.rst.mark = s.rst.mark ∧ s.commit.rst.enabled = s.rst.enabled
      ∧ (s.commit.rst.unarchived = (if count < size then count + 1 else count)
        ∧ s.commit.rst.nearFull = (if fires then .fired else state)
        ∧ s.commit.rst.reports = { kind := .resync, subject := 0 }
            :: if fires ∧ getAt s.rst.enabled 6 = true then [{ kind := .journalNearFull, subject := 0 }] else [])
      ∧ s.commit.rst.resyncReason = some .commit ∧ s.commit.rst.dropped = 0 := by
  intro phaseRecord size same count state fires
  obtain ⟨hj4, hj15⟩ := Cfg.jField_of_passes hpass
  have hsize : 1024 ≤ size ∧ size ≤ 3840 := by
    show 1024 ≤ 256 * _ ∧ 256 * _ ≤ 3840
    omega
  have hrec := s.committing_recorded
  have hreports : s.committing.rst.reports = [{ kind := .resync, subject := 0 }] ∧ s.committing.rst.dropped = 0
      ∧ s.committing.rst.enabled = s.rst.enabled := by
    have hwrite : s.committing.rst = _ := Part.write_rst { s.committed.resync .commit with phase := .running } false
      { kind := .phase, value := w16 Phase.running.code }
    have hstart : ({ s.committed.resync .commit with phase := .running } : Part).rst = _ := s.committed_store
    rw [hwrite, hstart]
    exact ⟨rfl, rfl, rfl⟩
  obtain ⟨hreports, hdropped, henabled⟩ := hreports
  have hsizeC : s.committing.journalSize = size := s.committed_size
  obtain ⟨hclosedDropped, hclosedReports⟩ := closeJournal_reports (s := s.committed.resync .commit) (t := s.committing)
    (by rw [hreports, hsizeC]; show 1 < _; omega) (by rw [hreports]; decide)
  have hclosed := closeJournal_recorded (s := s.committed.resync .commit) hrec
  obtain ⟨_, _, _, _, _, _, hfull⟩ := hrec
  rw [← Part.commit_close] at hclosedDropped hclosedReports hclosed
  rw [s.committed_store, s.committed_size] at hfull
  unfold Part.Recorded at hclosed
  rw [s.committed_store, s.committed_size] at hclosed
  obtain ⟨hjournal, hseq, hmark, henab, hreason, hcount, hnear⟩ := hclosed
  refine ⟨?_, hseq, hmark, henab, ⟨?_, hnear, ?_⟩, hreason, hclosedDropped.trans hdropped⟩
  · rw [hjournal, if_neg (by simp)]
    by_cases hsame : s.staged.plant.jField = s.live.plant.jField
    · have hsizes : 256 * s.staged.plant.jField = 256 * s.live.plant.jField := congrArg (256 * ·) hsame
      refine Eq.trans ?_ (if_pos hsame).symm
      rw [if_pos hsame, hsizes]
    · refine Eq.trans ?_ (if_neg hsame).symm
      rw [if_neg hsame, List.nil_append, List.length_singleton,
        Nat.sub_eq_zero_of_le (by show 1 ≤ size; omega)]
      rfl
  · rw [hcount]
    show (if count < size then min size (count + 1) else count) = _
    split
    · omega
    · rfl
  · rw [hclosedReports, hreports, hfull, henabled, s.committed_store]
    show _ ++ (if state = .armed ∧ (if fires then NearFull.fired else state) = .fired ∧ _ then _ else _) = _
    have hiff : (state = .armed ∧ (if fires then NearFull.fired else state) = .fired ∧ getAt s.rst.enabled 6 = true)
        ↔ fires ∧ getAt s.rst.enabled 6 = true := by
      by_cases hf : fires
      · rw [if_pos hf]
        exact ⟨fun ⟨_, _, hon⟩ => ⟨hf, hon⟩, fun ⟨_, hon⟩ => ⟨hf.1, rfl, hon⟩⟩
      · rw [if_neg hf]
        simp only [hf, false_and, iff_false]
        rintro ⟨harmed, hfired, _⟩
        rw [harmed] at hfired
        cases hfired
    rw [if_congr hiff rfl rfl]
    rfl

theorem Rested.ofTaken {s t : Part} (h : Rested s.taken t) (x : Lif) : Rested s { t with lif := x } :=
  ⟨h.point, h.area, h.group, h.shelf, h.credDesk, h.desk⟩

/-- Settles O51: `Cfg.failing_iff` names the first item that fails; `commit_store` and `commit_rested` say what a commit leaves. -/
theorem commitMakesTheStagedCopyLive : Obligations.CommitMakesTheStagedCopyLive := by
  refine ⟨fun c => ⟨c.failing_iff, c.failing_none_iff⟩, fun s tag body h => ⟨fun k n hfail => ?_, fun hpass => ?_⟩⟩
  · refine completes_unchanged exec_configCommit h ?_
    unfold configCommitHandler
    rw [show s.taken.staged.failing = some (k, n) from hfail]
  · have hanswer : configCommitHandler body s.taken = (s.taken.commit, [0]) := by
      unfold configCommitHandler
      rw [show s.taken.staged.failing = none from hpass]
      rfl
    obtain ⟨hlif, hphase, hlive, hstaged, htset, hreset, hsessions⟩ := s.taken.commit_fields
    have hrested := s.taken.commit_rested
    obtain ⟨hjournal, hseq, hmark, henabled, hstore, hreason, hdropped⟩ := Part.commit_store (s := s.taken) hpass
    generalize s.taken.commit = t at *
    have hdone := hrested.ofTaken { s.answer .configCommit tag [0] with continuation := none }
    exact ⟨_, completes_cleared exec_configCommit h hanswer hlif, rfl, hphase, hlive, hstaged, htset, hreset, hdone.point,
      hdone.area, hdone.group, hdone.shelf, hdone.credDesk, fun n hn => by
        show getAt t.sessions n = _
        rw [hsessions]
        exact getAt_fresh _ hn, hdone.desk, hjournal, hseq, hmark, henabled, hstore, hreason, hdropped⟩

end Sys2Proof.Machine
end

section
/-! CONFIG_BEGIN in each phase (R160, R189, R190). -/

namespace Sys2Proof.Machine

/-! ### In BLANK -/

theorem Part.enterPhase_rest (s : Part) (p : Phase) : s.enterPhase p = { s with phase := p, rst := (s.enterPhase p).rst } := rfl

theorem Part.enterPhase_recorded (s : Part) (p : Phase) :
    s.Recorded (s.enterPhase p) (s.records [(false, 0, { kind := .phase, value := w16 p.code })]) :=
  ({ s with phase := p } : Part).write_recorded_plain { kind := .phase, value := w16 p.code } rfl

theorem Part.beginBlank_rest (s : Part) : s.beginBlank = { s with phase := .loading, rst := s.beginBlank.rst } := by
  unfold Part.beginBlank
  rw [closeJournal_rest, Part.enterPhase_rest]

/-- R189: the PHASE record, and no report but that of the near-full journal. -/
theorem Part.beginBlank_wrote (s : Part) (x : Lif) :
    s.Wrote { s.beginBlank with lif := x } (s.records [(false, 0, { kind := .phase, value := 1 })]) := by
  have hrec := closeJournal_recorded (s := s) (s.enterPhase_recorded .loading)
  refine ⟨hrec, ?_⟩
  have hreports : eventReports s { s.beginBlank with lif := x } [] =
      if s.rst.nearFull = .armed ∧ (s.enterPhase .loading).rst.nearFull = .fired then [nearFullEntry] else [] := by
    have hnear : s.beginBlank.rst.nearFull = (s.enterPhase .loading).rst.nearFull := by
      unfold Part.beginBlank
      rw [closeJournal_rest]
    rw [← hnear]
    refine eventReports_same ?_ ?_ ?_ ?_ ?_ <;> rw [Part.beginBlank_rest]
    exact fun h => Phase.noConfusion h
  unfold Part.Reported
  rw [hreports]
  exact Rst.queueAll_congr _ _ rfl rfl rfl

/-! ### In RUNNING (R190) -/

/-- R190: the part of a restart before its records: every session is abandoned and everything rests. -/
def Part.stopped (s : Part) : Part :=
  (s.abandonWhere abandonRestart 0 fun _ => true).settleBoundaries.restDynamic.emptyReports

theorem Part.restart_eq (s : Part) (d : Nat) : s.restart d = closeJournal s.stopped
    ((s.stopped.write false { kind := .configRestart, desk := d, credential := (s.desk d).signedOn }).enterPhase .loading) :=
  rfl

section stopped

variable {s t : Part} {l : List Nat} (h : s.Abandoning t l 6 0)
include h

theorem Part.Abandoning.stopped_rested : Rested s t.settleBoundaries.restDynamic.emptyReports := by
  refine (restDynamic_rested (s := s) (u := t.settleBoundaries) ?_ ?_).congr rfl rfl rfl rfl rfl rfl
  · rw [h.rest]
    rfl
  · rw [h.rest]
    rfl

theorem Part.Abandoning.stopped_rest : t.settleBoundaries.restDynamic.emptyReports =
    { s with
      points := t.settleBoundaries.restDynamic.points, areas := t.settleBoundaries.restDynamic.areas
      groups := t.settleBoundaries.restDynamic.groups, shelf := t.settleBoundaries.restDynamic.shelf
      credDesk := t.settleBoundaries.restDynamic.credDesk, desks := t.settleBoundaries.restDynamic.desks
      sessions := t.sessions, rst := { t.rst with reports := [], dropped := 0 }
      lif := { s.lif with continuation := none } } := by
  rw [h.rest]
  rfl

theorem Part.Abandoning.stopped_recorded : s.Recorded t.settleBoundaries.restDynamic.emptyReports (s.records (s.abandonRecords l 6 0)) :=
  h.journals.recorded

end stopped

/-- R190: the two records of a restart, after those of the sessions. -/
theorem Part.Recorded.restart {s u : Part} {l : List (Bool × W16 × RecordFields)} (h : s.Recorded u (s.records l))
    (hnow : u.now = s.now) (hsize : u.journalSize = s.journalSize) (f : RecordFields) (hf : f.area = 0) :
    s.Recorded ((u.write false f).enterPhase .loading) (s.records (l ++ [(false, 0, f), (false, 0, { kind := .phase, value := 1 })])) := by
  have hfirst := h.write hnow hsize false f 0 (by rw [hf]; rfl)
  have hsecond := Part.Recorded.write (s := s) (u := { u.write false f with phase := .loading }) hfirst hnow hsize false
    { kind := .phase, value := 1 } 0 rfl
  rw [List.append_assoc] at hsecond
  exact hsecond

/-- R160, R190: whether the near-full report fires at the two records after `n` others. -/
theorem nearFull_fires {x y z : NearFull} {count full n m : Nat}
    (hy : y = if x = .armed ∧ count < full ∧ full ≤ count + n then .fired else x)
    (hz : z = if x = .armed ∧ count < full ∧ full ≤ count + m then .fired else x) (hm : m = n + 2) :
    y = .armed ∧ z = .fired ↔ x = .armed ∧ count + n < full ∧ full ≤ count + n + 2 := by
  subst hy hz hm
  cases x with
  | fired => simp
  | armed =>
    simp only [true_and]
    split_ifs with h1 h2 h2
    all_goals simp
    all_goals omega

/-- R190: the part that a restart leaves; `u` is the part after the sessions' end, with everything at rest. -/
theorem Part.restart_done {s t : Part} {d : Nat} (h : s.Abandoning t (s.abandoned fun _ => true) 6 0)
    (hstopped : s.stopped = t.settleBoundaries.restDynamic.emptyReports) :
    (s.restart d).lif = { s.lif with continuation := none } ∧ (s.restart d).phase = .loading
    ∧ ((s.restart d).resetLow = s.resetLow ∧ (s.restart d).live = s.live ∧ (s.restart d).staged = s.staged
      ∧ (s.restart d).tset = s.tset)
    ∧ (s.restart d).sessions = t.sessions ∧ Rested s (s.restart d)
    ∧ s.Recorded (s.restart d) (s.records (s.abandonRecords (s.abandoned fun _ => true) 6 0
        ++ [(false, 0, { kind := .configRestart, desk := d, credential := (s.desk d).signedOn }),
          (false, 0, { kind := .phase, value := 1 })]))
    ∧ (s.live.plant.jField ≤ 15 → (s.restart d).rst.dropped = 0 ∧ (s.restart d).rst.reports =
        if s.rst.nearFull = .armed ∧ getAt s.rst.enabled 6 = true
            ∧ s.rst.unarchived + (s.abandoned fun _ => true).length < s.journalSize - s.journalSize / 8
            ∧ s.journalSize - s.journalSize / 8 ≤ s.rst.unarchived + (s.abandoned fun _ => true).length + 2 then
          [{ kind := .journalNearFull, subject := 0 }]
        else []) := by
  have hrecorded := h.stopped_recorded
  have hrest := h.stopped_rest
  have hrested := h.stopped_rested
  rw [Part.restart_eq, hstopped]
  generalize t.settleBoundaries.restDynamic.emptyReports = u at hrecorded hrest hrested
  have hnow : u.now = s.now := by rw [hrest]; rfl
  have hsize : u.journalSize = s.journalSize := by rw [hrest]; rfl
  have hall := hrecorded.restart hnow hsize { kind := .configRestart, desk := d, credential := (s.desk d).signedOn } rfl
  have hclosed := closeJournal_recorded (s := u) hall
  have hlen : (s.abandonRecords (s.abandoned fun _ => true) 6 0).length = (s.abandoned fun _ => true).length :=
    List.length_map _
  have hstore : ((u.write false { kind := .configRestart, desk := d, credential := (s.desk d).signedOn }).enterPhase .loading).rst
      = { u.rst with
          journal := ((u.write false { kind := .configRestart, desk := d, credential := (s.desk d).signedOn }).enterPhase .loading).rst.journal
          nextSeq := u.rst.nextSeq + 1 + 1
          unarchived := ((u.write false { kind := .configRestart, desk := d, credential := (s.desk d).signedOn }).enterPhase .loading).rst.unarchived
          nearFull := ((u.write false { kind := .configRestart, desk := d, credential := (s.desk d).signedOn }).enterPhase .loading).rst.nearFull } := rfl
  have hrest2 : (u.write false { kind := .configRestart, desk := d, credential := (s.desk d).signedOn }).enterPhase .loading
      = { u with
          phase := .loading
          rst := ((u.write false { kind := .configRestart, desk := d, credential := (s.desk d).signedOn }).enterPhase .loading).rst } :=
    rfl
  generalize (u.write false { kind := .configRestart, desk := d, credential := (s.desk d).signedOn }).enterPhase .loading = v
    at hall hclosed hstore hrest2 ⊢
  refine ⟨?_, ?_, ⟨?_, ?_, ?_, ?_⟩, ?_, ?_, hclosed, fun hj => ?_⟩
  iterate 7 rw [closeJournal_rest, hrest2, hrest]
  · rw [closeJournal_rest, hrest2]
    exact hrested.congr rfl rfl rfl rfl rfl rfl
  · have hreports : v.rst.reports = [] := by rw [hstore, hrest]
    have hdropped : v.rst.dropped = 0 := by rw [hstore, hrest]
    have henabled : v.rst.enabled = s.rst.enabled := by
      obtain ⟨_, _, _, henabled, _⟩ := hall
      exact henabled
    have hsizeV : v.journalSize = s.journalSize := by rw [hrest2]; exact hsize
    have hroom : s.journalSize ≤ 3840 := by
      show 256 * s.live.plant.jField ≤ 3840
      omega
    obtain ⟨hclosedDropped, hclosedReports⟩ := closeJournal_reports (s := u) (t := v)
      (by rw [hreports, hsizeV]; show 0 < _; omega) (by rw [hreports]; exact List.not_mem_nil)
    refine ⟨hclosedDropped.trans hdropped, hclosedReports.trans ?_⟩
    obtain ⟨_, _, _, _, _, _, hfullU⟩ := hrecorded
    obtain ⟨_, _, _, _, _, _, hfullV⟩ := hall
    have hlenU : (s.records (s.abandonRecords (s.abandoned fun _ => true) 6 0)).length = (s.abandoned fun _ => true).length := by
      rw [Part.records, List.length_mapIdx, hlen]
    have hfires := nearFull_fires hfullU hfullV (by simp [Part.records])
    rw [hlenU] at hfires
    rw [hreports, List.nil_append, henabled]
    refine if_congr ⟨fun ⟨harmed, hfired, hon⟩ => ?_, fun ⟨harmed, hon, hlow, hhigh⟩ => ?_⟩ rfl rfl
    · obtain ⟨hs, hlow, hhigh⟩ := hfires.1 ⟨harmed, hfired⟩
      exact ⟨hs, hon, hlow, hhigh⟩
    · obtain ⟨harmedU, hfiredV⟩ := hfires.2 ⟨harmed, hlow, hhigh⟩
      exact ⟨harmedU, hfiredV, hon⟩

/-- The sessions that a restart abandons are those not IDLE. -/
theorem Part.mem_abandoned_all (s : Part) {n : Nat} (hn : n ∈ numbers 4) :
    n ∈ (s.abandoned fun _ => true) ↔ (s.session n).state ≠ .idle := by
  rw [Part.abandoned, List.mem_filter, Bool.and_true, bne_iff_ne]
  exact and_iff_right hn

/-- Settles O50: the phase names the branch; `restart_done` says what a restart leaves. -/
theorem configBeginByPhase : Obligations.ConfigBeginByPhase := by
  intro s tag body h d kept
  refine ⟨fun hphase => ?loading, fun hphase => ?blank, fun hphase hdesk hon hmay => ?running⟩
  case loading =>
    refine completes_unchanged exec_configBegin h ?_
    unfold configBeginHandler
    rw [show s.taken.phase = .loading from hphase]
    rfl
  case blank =>
    have hanswer : configBeginHandler body s.taken = (s.taken.beginBlank, [0]) := by
      unfold configBeginHandler
      rw [show s.taken.phase = .blank from hphase]
      rfl
    have hrest := s.taken.beginBlank_rest
    have hwrote := s.taken.beginBlank_wrote
    generalize s.taken.beginBlank = t at hanswer hrest hwrote
    have hlif : t.lif = s.taken.lif := by rw [hrest]
    refine ⟨_, completes_answered exec_configBegin h hanswer hlif, rfl, ?_,
      Part.WroteAnd.answered (t := { t with lif := t.lif }) (hwrote t.lif) (Part.answer_link_of hlif ..)⟩
    rw [hrest]
    rfl
  case running =>
    have hcheck : s.taken.configureCheck (byteAt body 0) false = none :=
      Part.configureCheck_passes (s := s.taken) hdesk hon hmay
    have hanswer : configBeginHandler body s.taken = (s.taken.restart d, [0]) := by
      unfold configBeginHandler
      rw [show s.taken.phase = .running from hphase]
      unfold Part.beginRunning
      dsimp only
      rw [hcheck]
      rfl
    have habandon := abandonWhere_abandoning s.taken 6 0 fun _ => true
    have hdone := Part.restart_done (d := d) habandon rfl
    generalize s.taken.restart d = t at hanswer hdone
    obtain ⟨hlif, hload, hkept, hsessions, hrested, hrecorded, hreports⟩ := hdone
    have hrested := hrested.ofTaken { s.answer .configBegin tag [0] with continuation := none }
    refine ⟨_, completes_cleared exec_configBegin h hanswer hlif, rfl, hload, hkept, fun n hn => ?_, hrested.point,
      hrested.area, hrested.group, hrested.shelf, hrested.credDesk, hrested.desk, hrecorded, hreports⟩
    have hsession := habandon.session n hn
    have hiff := s.taken.mem_abandoned_all hn
    rw [Part.session, ← hsessions] at hsession
    refine Eq.trans hsession ?_
    by_cases hidle : (s.session n).state = .idle
    · rw [if_pos hidle, if_neg fun hin => hiff.1 hin hidle]
      rfl
    · rw [if_neg hidle, if_pos (hiff.2 hidle)]

end Sys2Proof.Machine
end

section
/-! OFFER, ACCEPT and HAND_OFF (R135, R136, R146, R147). -/

namespace Sys2Proof.Machine

/-! ### OFFER (R135, R136) -/

theorem exec_offer (u : State) : exec .offer u = onRequest .offer offerHandler u := rfl

theorem hasTwice_of_nodup {l : List Nat} (h : l.Nodup) : hasTwice l = false := by
  induction l with
  | nil => rfl
  | cons a l ih =>
    obtain ⟨hal, hl⟩ := List.nodup_cons.1 h
    rw [hasTwice, ih hl, Bool.or_false, ← Bool.not_eq_true, List.contains_iff_mem]
    exact hal

theorem Part.idleSession_eq {s : Part} {n : Nat} (hn : n ∈ numbers 4) (hidle : (s.session n).state = .idle)
    (hbefore : ∀ m ∈ numbers 4, m < n → (s.session m).state ≠ .idle) : s.idleSession = some n := by
  have hfirst := isFirst_find (fun n => (s.session n).state == .idle) 4
  unfold Part.idleSession
  rw [show Config.nSessions = 4 from rfl]
  cases hfind : (numbers 4).find? fun n => (s.session n).state == .idle with
  | none =>
    rw [hfind] at hfirst
    exact absurd ⟨hn, beq_iff_eq.2 hidle⟩ (hfirst n)
  | some k =>
    rw [hfind] at hfirst
    obtain ⟨⟨hk, hkidle⟩, hlow⟩ := hfirst
    have hle := hlow n ⟨hn, beq_iff_eq.2 hidle⟩
    rcases Nat.lt_or_eq_of_le hle with hlt | heq
    · exact absurd (beq_iff_eq.1 hkidle) (hbefore k hk hlt)
    · rw [heq]

theorem Part.offerCheck_passes {s : Part} {d badge c n : Nat} {l : List Nat} (hdesk : isDesk d = true)
    (hareas : ∀ a ∈ l, isArea a = true) (hl : l.Nodup) (hon : (s.desk d).signedOn ≠ 0)
    (hgive : ∀ a ∈ l, allows (s.baseLayer d) Perm.give.set a = true ∧ (s.area a).responsible = (s.desk d).signedOn)
    (hbadge : s.findBadge badge = some c) (hseat : getAt s.credDesk c ≠ 0) (hother : c ≠ (s.desk d).signedOn)
    (htake : ∀ a ∈ l, allows (s.baseLayer (getAt s.credDesk c)) (Perm.take.set ||| Perm.ack.set) a = true)
    (hfree : ∀ a ∈ l, (s.area a).session = 0) (hidle : s.idleSession = some n) : s.offerCheck d badge l = .ok (c, n) := by
  have hfields : (!isDesk d || l.any (fun a => !isArea a) || hasTwice l) = false := by
    rw [hdesk, hasTwice_of_nodup hl, List.any_eq_false.2 fun a ha => by rw [hareas a ha]; decide]
    rfl
  have hgives : l.any (fun a => !s.mayGive d a) = false := List.any_eq_false.2 fun a ha => by
    obtain ⟨hperm, hresp⟩ := hgive a ha
    rw [Part.mayGive, hperm, hresp, beq_self_eq_true]
    decide
  have htakes : l.any (fun a => !s.mayTake c a) = false := List.any_eq_false.2 fun a ha => by
    rw [Part.mayTake, permTakeAck, htake a ha]
    decide
  have hbusy : l.any (fun a => (s.area a).session != 0) = false := List.any_eq_false.2 fun a ha => by
    rw [hfree a ha]
    decide
  unfold Part.offerCheck
  rw [hfields, hgives, hbadge]
  simp only [Bool.false_eq_true, if_false, hon, hseat, hother, htakes, hbusy, hidle]

/-- R136: the created session. -/
def Part.offered (s : Part) (d c : Nat) (l : List Nat) : Session :=
  { state := .offered, outgoing := (s.desk d).signedOn, incoming := c, entries := (ascending l).map s.freshEntry
    accepted := false, handedOff := false, timer := Timer.load s.live.plant.offerTime, started := s.now }

/-- R136: a session is created, and the areas enter it. -/
def Part.enlisted (s : Part) (d c n : Nat) (l : List Nat) : Part :=
  (ascending l).foldl (fun t a => t.modArea a fun y => { y with session := n }) (s.modSession n fun _ => s.offered d c l)

/-- R136: the HANDOVER_OFFER records. -/
def offerRecord (d c n a : Nat) : RecordFields :=
  { kind := .handoverOffer, area := a, desk := d, credential := c, value := w16 n }

theorem Part.makeOffer_eq (s : Part) (d c n : Nat) (l : List Nat) : s.makeOffer d c n l =
    closeEvent s [] ((ascending l).foldl (fun t a => t.write false (offerRecord d c n a)) (s.enlisted d c n l)) := rfl

theorem ascending_nodup (l : List Nat) : (ascending l).Nodup := (numbers_nodup 16).filter _

theorem mem_ascending {l : List Nat} {a : Nat} (ha : a ∈ numbers 16) : a ∈ ascending l ↔ l.contains a = true := by
  rw [ascending, List.mem_filter]
  exact and_iff_right ha

theorem Part.enlisted_rest (s : Part) (d c n : Nat) (l : List Nat) : s.enlisted d c n l =
    { s with areas := (s.enlisted d c n l).areas, sessions := (s.modSession n fun _ => s.offered d c l).sessions } :=
  (foldl_modArea_rest (fun _ y => { y with session := n }) (ascending l) _).trans rfl

theorem Part.enlisted_area (s : Part) (d c n : Nat) (l : List Nat) {a : Nat} (ha : a ∈ numbers 16) :
    (s.enlisted d c n l).area a =
      { s.area a with session := if l.contains a then n else (s.area a).session } := by
  refine (foldl_modArea_area (fun _ y => { y with session := n }) (ascending_nodup l) _ ha).trans ?_
  by_cases hin : l.contains a = true
  · rw [if_pos ((mem_ascending ha).2 hin), if_pos hin]
    rfl
  · rw [if_neg fun h => hin ((mem_ascending ha).1 h), if_neg hin]
    rfl

theorem Part.enlisted_journals (s : Part) (d c n : Nat) (l : List Nat) :
    s.Journals ((ascending l).foldl (fun t a => t.write false (offerRecord d c n a)) (s.enlisted d c n l))
      ((ascending l).map fun a => (false, (s.area a).generation, offerRecord d c n a)) := by
  have hrest := s.enlisted_rest d c n l
  have hstart : s.Journals (s.enlisted d c n l) [] :=
    .start (by rw [hrest]) (by rw [hrest]; rfl) (by rw [hrest]; rfl)
  refine (hstart.writes false (offerRecord d c n) (ascending l)).records_eq ?_
  rw [List.nil_append]
  refine List.map_congr_left fun a ha => ?_
  have hmem : a ∈ numbers 16 := (List.mem_filter.1 ha).1
  rw [show (offerRecord d c n a).area = a from rfl,
    Part.generationOf_pos _ (Nat.one_le_iff_ne_zero.1 ((mem_numbers a).1 hmem).1), s.enlisted_area d c n l hmem]

theorem Part.makeOffer_change (s : Part) (d c n : Nat) (l : List Nat) : HandoverChange s
    ((ascending l).foldl (fun t a => t.write false (offerRecord d c n a)) (s.enlisted d c n l))
    ((ascending l).map fun a => (false, (s.area a).generation, offerRecord d c n a)) where
  rest := by
    rw [foldl_write_rest (fun _ => false) (offerRecord d c n), s.enlisted_rest]
  recorded := (s.enlisted_journals d c n l).recorded
  reports := (s.enlisted_journals d c n l).reports
  dropped := (s.enlisted_journals d c n l).dropped

/-- Settles O37: `makeOffer_change` gives what is created and written, the handover event the rest. -/
theorem offerCreatesASession : Obligations.OfferCreatesASession := by
  intro s tag body c n h d l hdesk hareas hl hon hgive hc hbadge hvalid hmine hunique hseat hother htake hfree hn hidle hbefore
  have hcheck : s.taken.offerCheck d (field32 body 1) l = .ok (c, n) :=
    Part.offerCheck_passes (s := s.taken) hdesk hareas hl hon hgive
      (Part.findBadge_eq (s := s.taken) hc hbadge hvalid hmine hunique) hseat hother htake hfree
      (Part.idleSession_eq (s := s.taken) hn hidle hbefore)
  have hanswer : offerHandler body s.taken = (s.taken.makeOffer d c n l, [0, byteOf n]) := by
    unfold offerHandler
    simp only [show s.taken.offerCheck (byteAt body 0) (field32 body 1) (byteList body 5) = .ok (c, n) from hcheck]
    rfl
  have hchange := s.taken.makeOffer_change d c n l
  have harea := fun a ha => s.taken.enlisted_area d c n l (a := a) ha
  have hrest := s.taken.enlisted_rest d c n l
  rw [Part.makeOffer_eq] at hanswer
  have hkept : ((ascending l).foldl (fun t a => t.write false (offerRecord d c n a)) (s.taken.enlisted d c n l)) = _ :=
    foldl_write_rest (fun _ => false) (offerRecord d c n) (ascending l) (s.taken.enlisted d c n l)
  generalize (ascending l).foldl (fun t a => t.write false (offerRecord d c n a)) (s.taken.enlisted d c n l) = u
    at hanswer hchange hkept
  have hsessions : u.sessions = (s.modSession n fun _ => s.taken.offered d c l).sessions := by
    rw [hkept, hrest]
    rfl
  have hareasU : u.areas = (s.taken.enlisted d c n l).areas := by rw [hkept]
  have hsession : ∀ m ∈ numbers 4, u.session m = if m = n then s.taken.offered d c l else s.session m := fun m hm => by
    rw [Part.session, hsessions]
    exact Part.modSession_becomes s n (fun _ => s.taken.offered d c l) hm
  obtain ⟨t, hdone, hlif, hevent⟩ := completes_handover exec_offer h hanswer hchange
  refine ⟨t, hdone, hlif, fun m hm => ?_, fun a ha => ?_, hevent.wrote, hevent.fixed, hevent.people, hevent.points,
    hevent.shelf, hevent.desks, hevent.told n hn ?_⟩
  · rw [Part.session, hevent.sessions]
    exact hsession m hm
  · rw [Part.area, hevent.areas, hareasU]
    exact harea a ha
  · rw [hsession n hn, if_pos rfl, sessionReported, hidle]
    rfl

/-! ### ACCEPT and HAND_OFF (R146) -/

/-- The request kind of a party. -/
def Party.request (q : Party) : ReqKind := if q = .incoming then .accept else .handOff

theorem exec_ready (q : Party) (u : State) : exec q.request.command u = onRequest q.request (Part.readyRequest q) u := by
  cases q <;> rfl

theorem readyRequest_party {s : Part} {q : Party} {body : List Byte} (h : s.PartyAt (byteAt body 0) (byteAt body 1) q) :
    Part.readyRequest q body s =
      if (s.session (byteAt body 1)).state ≠ .ready then (s, [ResultCode.notReady.byte])
      else if (s.session (byteAt body 1)).flag q = true then (s, [ResultCode.repeated.byte])
      else match s.completionTests (byteAt body 1) q with
        | some a => (s.refuse (byteAt body 0) a 0 0 .denied, [ResultCode.denied.byte])
        | none => (s.partyReady (byteAt body 0) (byteAt body 1) q, [0, flagByte ((s.session (byteAt body 1)).flag q.other)]) := by
  have hcheck := h.sessionCheck
  unfold Part.readyRequest Part.readyCheck
  by_cases hready : (s.session (byteAt body 1)).state ≠ .ready
  · simp only [hcheck, if_pos hready, Part.refuse_unjournaled (r := .notReady) rfl]
    rfl
  by_cases hflag : (s.session (byteAt body 1)).flag q = true
  · simp only [hcheck, if_neg hready, if_pos hflag, Part.refuse_unjournaled (r := .repeated) rfl]
    rfl
  · simp only [hcheck, if_neg hready, if_neg hflag]
    cases s.completionTests (byteAt body 1) q <;> rfl

theorem Part.completionTests_none {s : Part} {n : Nat} {q : Party} (hmine : ∀ a ∈ (s.session n).areas, s.partyPasses n q a = true)
    (hother : (s.session n).flag q.other = true → ∀ a ∈ (s.session n).areas, s.partyPasses n q.other a = true) :
    s.completionTests n q = none := by
  unfold Part.completionTests
  have hfirst : ((s.session n).areas.any fun a => !s.partyPasses n q a) = false :=
    List.any_eq_false.2 fun a ha => by rw [hmine a ha]; decide
  have hsecond : ((s.session n).flag q.other && (s.session n).areas.any fun a => !s.partyPasses n q.other a) = false := by
    cases hflag : (s.session n).flag q.other with
    | false => rfl
    | true => exact List.any_eq_false.2 fun a ha => by rw [hother hflag a ha]; decide
  simp only [hfirst, hsecond, Bool.false_eq_true, if_false]

/-! ### The first of the two (R146) -/

theorem Part.modSession_change (s : Part) (n : Nat) (f : Session → Session) : HandoverChange s (s.modSession n f) [] :=
  ⟨rfl, s.recorded_self, rfl, rfl⟩

theorem Session.setFlag_reported {x : Session} {q : Party} (h : x.flag q = false) : sessionReported x (x.setFlag q) = true := by
  rw [sessionReported_iff]
  cases q with
  | outgoing =>
    have hoff : x.handedOff = false := h
    rintro ⟨_, _, hsame, _⟩
    rw [hoff] at hsame
    exact Bool.noConfusion hsame
  | incoming =>
    have hoff : x.accepted = false := h
    rintro ⟨_, hsame, _⟩
    rw [hoff] at hsame
    exact Bool.noConfusion hsame

/-! ### The second: completion (R147) -/

/-- R147, step 2: the record of an area that passes. -/
def passedArea (d n c a : Nat) : RecordFields := { kind := .handoverDone, area := a, desk := d, credential := c, value := w16 n }

/-- R147, step 1: the session's timer is cancelled and its areas leave it. -/
def Part.concluded (s : Part) (n : Nat) : Part :=
  (s.modSession n fun y => { y with timer := Timer.idle }).clearSessionField (s.session n).areas

/-- R147, steps 1 and 2. -/
def Part.handedOver (s : Part) (d n : Nat) : Part :=
  (s.session n).areas.foldl (Part.passArea (s.session n).incoming (passedArea d n (s.session n).incoming)) (s.concluded n)

theorem Part.complete_eq (s : Part) (d n : Nat) :
    s.complete d n = (s.handedOver d n).recompute.modSession n fun _ => Session.idle := rfl

theorem Part.concluded_rest (s : Part) (n : Nat) : s.concluded n =
    { s with
      areas := (s.concluded n).areas, sessions := (s.modSession n fun y => { y with timer := Timer.idle }).sessions } :=
  clearSessionField_rest (s.modSession n fun y => { y with timer := Timer.idle }) (s.session n).areas

theorem Part.concluded_area (s : Part) (n : Nat) {a : Nat} (ha : a ∈ numbers 16) : (s.concluded n).area a =
    { s.area a with session := if a ∈ (s.session n).areas then 0 else (s.area a).session } := by
  refine (clearSessionField_area (s.modSession n fun y => { y with timer := Timer.idle }) (s.session n).areas ha).trans ?_
  simp only [List.contains_iff_mem]
  rfl

theorem Part.concluded_alike (s : Part) (n : Nat) : s.Alike (s.concluded n) :=
  (Part.Alike.modSession s n _).trans
    (.keepFold (fun u a => u.modArea a fun x => { x with session := 0 }) (fun u a => .keepArea u a _ fun x => .refl x) _ _)

section handedOver

variable {s : Part} (d : Nat) {n : Nat}

theorem Part.handedOver_rest : s.handedOver d n =
    { s with
      areas := (s.handedOver d n).areas, rst := (s.handedOver d n).rst
      sessions := (s.modSession n fun y => { y with timer := Timer.idle }).sessions } := by
  have h := passAreas_rest (s.session n).incoming (passedArea d n (s.session n).incoming) (s.concluded n) (s.session n).areas
  have heq : s.handedOver d n =
      { s.concluded n with areas := (s.handedOver d n).areas, rst := (s.handedOver d n).rst } := h
  exact heq.trans (by rw [s.concluded_rest n])

theorem Part.handedOver_alike : s.Alike (s.handedOver d n) := (s.concluded_alike n).trans (passAreas_alike ..)

theorem Part.handedOver_area (hl : (s.session n).areas.Nodup) {a : Nat} (ha : a ∈ numbers 16) : (s.handedOver d n).area a =
    { s.area a with
      responsible := if a ∈ (s.session n).areas then (s.session n).incoming else (s.area a).responsible
      session := if a ∈ (s.session n).areas then 0 else (s.area a).session
      generation := if a ∈ (s.session n).areas then (s.area a).generation + 1 else (s.area a).generation } := by
  refine (passAreas_area _ _ (s.concluded n) hl ha).trans ?_
  rw [s.concluded_area n ha]
  by_cases hin : a ∈ (s.session n).areas
  · simp only [if_pos hin]
    rfl
  · simp only [if_neg hin]

theorem Part.handedOver_journals (hl : (s.session n).areas.Nodup) (hmem : ∀ a ∈ (s.session n).areas, a ∈ numbers 16) :
    s.Journals (s.handedOver d n) ((s.session n).areas.map fun a =>
      (true, (s.area a).generation + 1, passedArea d n (s.session n).incoming a)) := by
  have hrest := s.concluded_rest n
  have hstart : s.Journals (s.concluded n) [] := .start (by rw [hrest]) (by rw [hrest]; rfl) (by rw [hrest]; rfl)
  refine (hstart.passAreas (c := (s.session n).incoming) (f := passedArea d n (s.session n).incoming)
    (fun _ => rfl) hl hmem).records_eq ?_
  rw [List.nil_append]
  exact List.map_congr_left fun a ha => by rw [s.concluded_area n (hmem a ha)]

/-- R147: a session that is completed. -/
theorem Part.complete_completed (hn : n ∈ numbers 4) (hstate : (s.session n).state ≠ .idle) (hl : (s.session n).areas.Nodup)
    (hmem : ∀ a ∈ (s.session n).areas, a ∈ numbers 16) : s.Completed (closeEvent s [] (s.complete d n)) d n := by
  have hpresents := recompute_presents (s.handedOver d n)
  have hrest := Part.handedOver_rest (s := s) d (n := n)
  have hsessions : ∀ m ∈ numbers 4, (s.complete d n).session m = if m = n then Session.idle else s.session m := fun m hm => by
    rw [Part.complete_eq, Part.modSession_becomes _ _ _ hm]
    split
    · rfl
    · next hne =>
      rw [Part.session, hpresents.rest, hrest]
      exact (s.modSession_becomes n _ hm).trans (if_neg hne)
  have hreseating : Reseating s (s.handedOver d n) (closeEvent s [] (s.complete d n)) := closeEvent_reseating s [] rfl
  have hjournal : s.Journals (s.complete d n) ((s.session n).areas.map fun a =>
      (true, (s.area a).generation + 1, passedArea d n (s.session n).incoming a)) :=
    (Part.handedOver_journals d hl hmem).recompute.quiet rfl rfl rfl
  unfold Part.Completed
  dsimp only
  refine ⟨hreseating.frame (fun q _ => ?_) (fun a ha => ?_) ?_, fun m hm => ?_, fun e he => hreseating.deskMoved he ?_,
    hreseating.board.congr (Part.handedOver_alike d).symm (.refl _), ?_, ?_, ?_, hjournal.close [], ?_⟩
  · rw [hrest]
    rfl
  · rw [Part.handedOver_area d hl ha]
  · rw [hrest]
    exact ⟨rfl, rfl, rfl, rfl, rfl⟩
  · rw [← hsessions m hm, Part.session, closeEvent_sessions]
    rfl
  · rw [hrest]
    rfl
  · rw [hreseating.credDesk, hrest]
  · rw [hreseating.live, hrest]
  · rw [hreseating.staged, hrest]
  · refine closeEvent_tells_session hn ?_
    rw [hsessions n hn, if_pos rfl, sessionReported, show Session.idle.state = .idle from rfl, bne_iff_ne.2 hstate]
    rfl

end handedOver

theorem Part.Completed.answered {s t : Part} {d n : Nat} (h : s.taken.Completed t d n) {x : Lif} (hlink : x.link = t.lif.link) :
    s.Completed { t with lif := x } d n := by
  obtain ⟨hframe, hsessions, hdesks, hboard, hcred, hlive, hstaged, hwrote, htold⟩ := h
  exact ⟨hframe, hsessions, hdesks, hboard.answered x, hcred, hlive, hstaged, hwrote.answered hlink, htold⟩

/-- Settles O42: `readyRequest_party` gives the answers, `complete_completed` the completion. -/
theorem acceptAndHandOffComplete : Obligations.AcceptAndHandOffComplete := by
  intro s q tag body k d n h hparty
  have hn := hparty.session_mem
  have hhandler := readyRequest_party (s := s.taken) hparty
  refine ⟨fun hnot => ?_, fun hready hflag => ?_, fun hready hflag hother hpass => ?_, fun hready hflag hother hpass hl => ?_⟩
  · rw [if_pos (show (s.taken.session (byteAt body 1)).state ≠ .ready from hnot)] at hhandler
    exact completes_unchanged (exec_ready q) h hhandler
  · rw [if_neg (not_not.2 (show (s.taken.session (byteAt body 1)).state = .ready from hready)),
      if_pos (show (s.taken.session (byteAt body 1)).flag q = true from hflag)] at hhandler
    exact completes_unchanged (exec_ready q) h hhandler
  · have htests : s.taken.completionTests (byteAt body 1) q = none :=
      Part.completionTests_none (s := s.taken) hpass fun hon => absurd (hother.symm.trans hon) (by decide)
    rw [if_neg (not_not.2 (show (s.taken.session (byteAt body 1)).state = .ready from hready)),
      if_neg (by rw [show (s.taken.session (byteAt body 1)).flag q = false from hflag]; decide), htests] at hhandler
    have hready : s.taken.partyReady d n q = closeEvent s.taken [] (s.taken.modSession n fun x => x.setFlag q) := by
      unfold Part.partyReady
      rw [if_neg (by rw [show (s.taken.session n).flag q.other = false from hother]; decide)]
    have hanswer : Part.readyRequest q body s.taken =
        (closeEvent s.taken [] (s.taken.modSession n fun x => x.setFlag q), [0, 0]) := by
      rw [hhandler, ← hready]
      dsimp only
      rw [show (s.taken.session (byteAt body 1)).flag q.other = false from hother]
      rfl
    obtain ⟨t, hdone, hlif, hevent⟩ := completes_handover (exec_ready q) h hanswer (s.taken.modSession_change n _)
    have hsession : ∀ m ∈ numbers 4, (s.taken.modSession n fun x => x.setFlag q).session m =
        if m = n then (s.session n).setFlag q else s.session m := fun m hm => s.modSession_becomes n _ hm
    have hsetFlag : (s.session n).setFlag q =
        if q = .incoming then { s.session n with accepted := true } else { s.session n with handedOff := true } := by
      cases q <;> rfl
    refine ⟨t, hdone, hlif, ⟨fun m hm => ?_, hevent.wrote, hevent.fixed, hevent.people, hevent.points, ?_, hevent.shelf,
      hevent.desks⟩, hevent.told n hn ?_⟩
    · rw [Part.session, hevent.sessions, ← hsetFlag]
      exact hsession m hm
    · rw [hevent.areas]
      rfl
    · rw [hsession n hn, if_pos rfl]
      exact Session.setFlag_reported hflag
  · have htests : s.taken.completionTests (byteAt body 1) q = none :=
      Part.completionTests_none (s := s.taken) (fun a ha => (hpass a ha).2.1) fun _ a ha => (hpass a ha).2.2
    rw [if_neg (not_not.2 (show (s.taken.session (byteAt body 1)).state = .ready from hready)),
      if_neg (by rw [show (s.taken.session (byteAt body 1)).flag q = false from hflag]; decide), htests] at hhandler
    have hcompletes : s.taken.partyReady d n q = closeEvent s.taken [] (s.taken.complete d n) := by
      unfold Part.partyReady
      rw [if_pos (show (s.taken.session n).flag q.other = true from hother)]
    have hanswer : Part.readyRequest q body s.taken = (closeEvent s.taken [] (s.taken.complete d n), [0, 1]) := by
      rw [hhandler, ← hcompletes]
      dsimp only
      rw [show (s.taken.session (byteAt body 1)).flag q.other = true from hother]
      rfl
    have hcompleted := Part.complete_completed (s := s.taken) d hn (by
      rw [show (s.taken.session n).state = .ready from hready]
      exact fun h => SessionState.noConfusion h) hl fun a ha => (isArea_iff a).1 (hpass a ha).1
    have hlif : (closeEvent s.taken [] (s.taken.complete d n)).lif = s.taken.lif := by
      rw [closeEvent_lif, Part.complete_eq, Part.modSession_lif, (recompute_presents _).rest, Part.handedOver_rest]
    generalize closeEvent s.taken [] (s.taken.complete d n) = t at hanswer hcompleted hlif
    exact ⟨_, completes_answered (exec_ready q) h hanswer hlif, rfl, hcompleted.answered (Part.answer_link_of hlif ..)⟩

end Sys2Proof.Machine
end

section
/-! The deferred counts beside the board, the returns, the placements of a fill and the releases as withdrawals followed by a
step, and the deferral of a whole queue. -/

namespace Sys2Proof.Machine

/-! ### Deferred counts (R9) -/

/-- The number of points in four queues. -/
def queueTotal (v : Vector (List Nat) 4) : Nat := ([1, 2, 3, 4].map fun pr => (getAt v pr).length).sum

theorem Area.deferredTotal_eq (x : Area) : x.deferredTotal = queueTotal x.defer := rfl

theorem mem_numbers_four {pr : Nat} (h : pr ∈ numbers 4) : pr = 1 ∨ pr = 2 ∨ pr = 3 ∨ pr = 4 := by
  have := (mem_numbers pr).1 h
  omega

theorem queueTotal_modAt (v : Vector (List Nat) 4) {pr : Nat} (hpr : pr ∈ numbers 4) (f : List Nat → List Nat) :
    queueTotal (modAt v pr f) + (getAt v pr).length = queueTotal v + (f (getAt v pr)).length := by
  rcases mem_numbers_four hpr with rfl | rfl | rfl | rfl <;> simp [queueTotal, getAt_modAt] <;> omega

/-- A change of one queue's contents and of the deferred count by as much. -/
theorem Part.DeferOk.modQueue {s t : Part} (h : s.DeferOk) (a : Nat) (hother : ∀ b ∈ numbers 16, b ≠ a → t.area b = s.area b)
    (hmine : a ∈ numbers 16 → s.DeferOk → (t.area a).counts.deferred = (t.area a).deferredTotal) : t.DeferOk := fun b hb => by
  by_cases hba : b = a
  · subst hba
    exact hmine hb h
  · rw [hother b hb hba]
    exact h b hb

theorem Part.Withdrew.deferOk {s t : Part} {p : Nat} (h : s.Withdrew t p) (hs : s.BoardOk) (hd : s.DeferOk)
    (hp : p ∈ numbers 1024) : t.DeferOk := by
  obtain ⟨_, _, harea, _⟩ := h
  refine hd.modQueue (s.pointS p).area (fun b hb hne => by rw [harea b hb, if_neg hne]) fun ha _ => ?_
  rw [harea _ ha, if_pos rfl]
  dsimp only [Area.deferredTotal_eq]
  split
  · next hq =>
    obtain ⟨_, _, _, hpr, hpr'⟩ := hs.placed p hp (by rw [hq]; decide)
    have hprm : (s.pointS p).priority ∈ numbers 4 := (mem_numbers _).2 ⟨hpr, hpr'⟩
    have hmem : p ∈ getAt (s.area (s.pointS p).area).defer (s.pointS p).priority :=
      ((hs.defer _ ha _ hprm).2 p).2 ⟨⟨hp, rfl, rfl⟩, hq⟩
    have htotal := queueTotal_modAt (s.area (s.pointS p).area).defer hprm (·.erase p)
    have hlen := List.length_erase_of_mem hmem
    have hpos := List.length_pos_of_mem hmem
    have hcount := hd _ ha
    rw [Area.deferredTotal_eq] at hcount
    omega
  · exact hd _ ha

/-! ### The returns, the placements and the releases -/

theorem withdraw_pointS (s : Part) (p q : Nat) : (s.withdraw p).pointS q = s.pointS q := by
  have h := (withdraw_places s p).rest
  rw [Part.pointS, h]
  rfl

theorem withdraw_inPlant (s : Part) (p q : Nat) : (s.withdraw p).InPlant q ↔ s.InPlant q := by
  refine Part.InPlant.congr ?_ q
  rw [(withdraw_places s p).rest]

theorem withdraw_free {s : Part} {p : Nat} (hp : p ∈ numbers 1024) : ((s.withdraw p).point p).placement = .none :=
  withdraw_none s p ((mem_numbers p).1 hp).1 ((mem_numbers p).1 hp).2

theorem withdraw_presented {s : Part} {p d k : Nat} (h : (s.point p).placement = .presented d k) :
    s.withdraw p = (s.emptySlot d k).modPoint p fun x => { x with placement := .none } := by
  unfold Part.withdraw
  rw [h]

/-- R103, R108, R110: an occupant that returns is withdrawn and joins the head of its queue. -/
theorem returnSlot_eq {s : Part} (hs : s.BoardOk) {d k : Nat} (hd : d ∈ numbers 6) (hk : k ∈ numbers 4) {x : Slot}
    (hx : getAt (s.desk d).slots k = some x) : s.returnSlot d k = (s.withdraw x.point).returnHead x.point := by
  unfold Part.returnSlot
  rw [hx, withdraw_presented (hs.slot d hd k hk x hx).2]
  simp only [Part.returnHead, Part.modPoint, Part.modArea, modAt_modAt]
  rfl

/-- R102: a point placed in a slot is withdrawn from the head of its queue and takes the slot. -/
theorem placeInSlot_eq {s : Part} (hs : s.BoardOk) {a pr p : Nat} (ha : a ∈ numbers 16) (hpr : pr ∈ numbers 4)
    {rest : List Nat} (hhead : getAt (s.area a).pend pr = p :: rest) (d k : Nat) :
    s.placeInSlot d k a pr p = (s.withdraw p).present d k a p := by
  obtain ⟨hat, hq⟩ := ((hs.pend a ha pr hpr).2 p).1 (by rw [hhead]; exact List.mem_cons_self ..)
  have hview : ((s.withdraw p).point p).view = (s.point p).view := by rw [(withdraw_places s p).point]
  have hnow : (s.withdraw p).now = s.now := by rw [(withdraw_places s p).rest]; rfl
  have hpend : modAt (s.area a).pend pr (·.erase p) = modAt (s.area a).pend pr List.tail :=
    modAt_congr _ _ (by rw [hhead]; simp)
  unfold Part.present
  rw [hview, hnow]
  unfold Part.withdraw
  rw [hq]
  simp only [Part.placeInSlot, Part.modDesk, Part.modPoint, Part.modArea, modAt_modAt, hat.area, hat.priority]
  rw [modAt_congr (f := fun x : Area => { x with pend := modAt x.pend pr List.tail })
    (g := fun x : Area => { x with pend := modAt x.pend pr (·.erase p) })]
  exact congrArg (fun v => { s.area a with pend := v }) hpend.symm

/-- R86: a released point is withdrawn from the head of its deferred queue and joins its pending queue. -/
theorem releaseOne_eq {s t : Part} (hs : s.BoardOk) {a : Nat} (ha : a ∈ numbers 16) (h : s.releaseOne a = some t) :
    ∃ p ∈ numbers 1024, (s.point p).placement = .deferred ∧ t = (s.withdraw p).joinPending p := by
  unfold Part.releaseOne at h
  split at h
  · cases h
  next pr hpr =>
  split at h
  · cases h
  next p rest hhead =>
  have hprm : pr ∈ numbers 4 := List.mem_of_find?_eq_some hpr
  obtain ⟨hat, hq⟩ := ((hs.defer a ha pr hprm).2 p).1 (by rw [hhead]; exact List.mem_cons_self ..)
  refine ⟨p, hat.point, hq, ?_⟩
  have hdefer : setAt (s.area a).defer pr rest = modAt (s.area a).defer pr (·.erase p) := by
    unfold modAt
    rw [hhead]
    simp
  injection h with h
  rw [← h]
  unfold Part.joinPending
  rw [withdraw_pointS, hat.area, hat.priority]
  unfold Part.withdraw
  rw [hq]
  simp only [Part.modPoint, Part.modArea, modAt_modAt, hat.area, hat.priority]
  have harea : modAt s.areas a (fun x =>
      { x with
        defer := setAt x.defer pr rest, pend := modAt x.pend pr (· ++ [p])
        counts := { x.counts with deferred := x.counts.deferred - 1 } }) =
      modAt s.areas a (fun x =>
        { x with
          defer := modAt x.defer pr (·.erase p), pend := modAt x.pend pr (· ++ [p])
          counts := { x.counts with deferred := x.counts.deferred - 1 } }) :=
    modAt_congr _ _ (congrArg (fun v => { s.area a with
      defer := v, pend := modAt (s.area a).pend pr (· ++ [p])
      counts := { (s.area a).counts with deferred := (s.area a).counts.deferred - 1 } }) hdefer)
  rw [harea]

/-! ### Deferring a queue (R84) -/

theorem Part.BoardOk.deferQueue {s : Part} (hs : s.BoardOk) {a pr : Nat} (ha : a ∈ numbers 16) (hpr : pr ∈ numbers 4) :
    (s.deferQueue a pr).BoardOk := by
  have hlive : (s.deferQueue a pr).live = s.live := by rw [deferQueue_rest]
  have hpl := fun q hq => deferQueue_placement s a pr q hq
  have harea := fun b => deferQueue_area s a pr b ha
  have hdesk := fun d => deferQueue_desk s a pr d
  generalize s.deferQueue a pr = t at hlive hpl harea hdesk
  obtain ⟨hnodup, hmem⟩ := hs.pend a ha pr hpr
  generalize hM : getAt (s.area a).pend pr = moved at hpl harea hnodup hmem
  have hkeep : ∀ {q : Nat} {x : Placement}, q ∈ numbers 1024 → x ≠ .queued → x ≠ .deferred →
      ((t.point q).placement = x ↔ (s.point q).placement = x) := fun {q x} hq hx hx' => by
    rw [hpl q hq]
    split
    · next h => exact ⟨fun he => absurd he.symm hx', fun he => absurd (he.symm.trans ((hmem q).1 h).2) hx⟩
    · rfl
  have hpend : ∀ b ∈ numbers 16, ∀ k ∈ numbers 4,
      getAt (t.area b).pend k = if b = a ∧ k = pr then [] else getAt (s.area b).pend k := fun b _ k hk => by
    rw [harea]
    by_cases hba : a = b
    · rw [if_pos hba]
      simp only [hba.symm, true_and, getAt_setAt]
      exact if_congr ⟨fun h => h.1.symm, fun h => ⟨h.symm, (mem_numbers pr).1 hpr⟩⟩ rfl rfl
    · rw [if_neg hba, if_neg fun h => hba h.1.symm]
  have hdefer : ∀ b ∈ numbers 16, ∀ k ∈ numbers 4,
      getAt (t.area b).defer k = getAt (s.area b).defer k ++ if b = a ∧ k = pr then moved else [] := fun b _ k hk => by
    rw [harea]
    by_cases hba : a = b
    · rw [if_pos hba]
      simp only [hba.symm, true_and, getAt_modAt]
      by_cases hkp : pr = k
      · rw [if_pos ⟨hkp, (mem_numbers pr).1 hpr⟩, if_pos hkp.symm]
      · rw [if_neg fun h => hkp h.1, if_neg fun h => hkp h.symm, List.append_nil]
    · rw [if_neg hba, if_neg fun h => hba h.1.symm, List.append_nil]
  have hhere : ∀ {q b k : Nat}, q ∈ moved → (s.At q b k ↔ b = a ∧ k = pr) := fun {q b k} hq => by
    have hat := ((hmem q).1 hq).1
    exact ⟨fun h => ⟨h.area.symm.trans hat.area, h.priority.symm.trans hat.priority⟩, fun h => h.1 ▸ h.2 ▸ hat⟩
  refine ⟨fun q hq hq0 => ?_, fun q hq => ?_, fun b hb k hk => ?_, fun b hb k hk => ?_, fun d hd k hk y hy => ?_,
    fun q hq d k hq0 => ?_, fun d hd => ?_, fun d hd => ?_⟩
  · rw [Part.InPlant.congr hlive]
    exact hs.placed q hq fun he => hq0 ((hkeep hq (by decide) (by decide)).2 he)
  · rw [hpl q hq]
    split
    exacts [trivial, hs.inRange q hq]
  · rw [hpend b hb k hk]
    split
    · next h =>
      refine ⟨List.nodup_nil, fun q => ⟨fun hq => (List.not_mem_nil hq).elim, fun ⟨hat, hq⟩ => ?_⟩⟩
      rw [Part.At.congr hlive, h.1, h.2] at hat
      rw [hpl q hat.point] at hq
      split at hq
      · cases hq
      · next hnot => exact absurd ((hmem q).2 ⟨hat, hq⟩) hnot
    · next h =>
      refine ⟨(hs.pend b hb k hk).1, fun q => ?_⟩
      rw [(hs.pend b hb k hk).2, Part.At.congr hlive]
      refine and_congr_right fun hat => ?_
      rw [hpl q hat.point, if_neg fun hq => h ((hhere hq).1 hat)]
  · rw [hdefer b hb k hk]
    obtain ⟨hnd, hold⟩ := hs.defer b hb k hk
    have hdisjoint : ∀ q ∈ moved, (s.point q).placement ≠ .deferred := fun q hq h => by
      rw [((hmem q).1 hq).2] at h
      cases h
    split
    · next h =>
      refine ⟨List.nodup_append.2 ⟨hnd, hnodup, fun x hx y hy he => ?_⟩, fun q => ?_⟩
      · exact hdisjoint y hy (he ▸ ((hold x).1 hx).2)
      · rw [List.mem_append, hold, Part.At.congr hlive]
        constructor
        · rintro (⟨hat, hq⟩ | hq)
          · exact ⟨hat, by rw [hpl q hat.point, hq, ite_self]⟩
          · exact ⟨(hhere hq).2 h, by rw [hpl q ((hmem q).1 hq).1.point, if_pos hq]⟩
        · rintro ⟨hat, hq⟩
          rw [hpl q hat.point] at hq
          split at hq
          · next hin => exact .inr hin
          · exact .inl ⟨hat, hq⟩
    · next h =>
      rw [List.append_nil]
      refine ⟨hnd, fun q => ?_⟩
      rw [hold, Part.At.congr hlive]
      refine and_congr_right fun hat => ?_
      rw [hpl q hat.point, if_neg fun hq => h ((hhere hq).1 hat)]
  · rw [hdesk] at hy
    obtain ⟨h1, h2⟩ := hs.slot d hd k hk y hy
    exact ⟨h1, (hkeep h1 (by simp) (by simp)).2 h2⟩
  · rw [hdesk]
    exact hs.shown q hq d k ((hkeep hq (by simp) (by simp)).1 hq0)
  · rw [hdesk]
    exact hs.order d hd
  · rw [hdesk]
    exact hs.rotation d hd

/-- R9: a queue that is deferred counts in its area's deferred count. -/
theorem Part.DeferOk.deferQueue {s : Part} (hs : s.DeferOk) {a pr : Nat} (ha : a ∈ numbers 16) (hpr : pr ∈ numbers 4) :
    (s.deferQueue a pr).DeferOk :=
  hs.modQueue a (fun b _ hne => (deferQueue_area s a pr b ha).trans (if_neg (Ne.symm hne))) fun _ _ => by
    rw [deferQueue_area s a pr a ha, if_pos rfl]
    have htotal := queueTotal_modAt (s.area a).defer hpr (· ++ getAt (s.area a).pend pr)
    have hcount := hs a ha
    rw [Area.deferredTotal_eq] at hcount ⊢
    rw [List.length_append] at htotal
    dsimp only
    omega

end Sys2Proof.Machine
end

section
/-! The moves of presentation and flood control keep the board in order: returns, placements in slots, fills, releases, deferrals
and the recomputation of the presentation desks. None of them takes a point off the board or puts one on it. -/

namespace Sys2Proof.Machine

/-- Points on the board have changed places among queues and slots, and the board is in order. -/
structure Part.Rearranged (s t : Part) : Prop where
  live : t.live = s.live
  boardOk : t.BoardOk
  deferOk : s.DeferOk → t.DeferOk
  held : ∀ q ∈ numbers 1024, (t.point q).placement = .none ↔ (s.point q).placement = .none

namespace Part.Rearranged

variable {s t u : Part}

theorem refl (hs : s.BoardOk) : s.Rearranged s := ⟨rfl, hs, id, fun _ _ => Iff.rfl⟩

theorem trans (h : s.Rearranged t) (k : t.Rearranged u) : s.Rearranged u :=
  ⟨k.live.trans h.live, k.boardOk, fun hd => k.deferOk (h.deferOk hd), fun q hq => (k.held q hq).trans (h.held q hq)⟩

/-- A point leaves its place and takes another. -/
theorem replaced (hs : s.BoardOk) {p : Nat} (hp : p ∈ numbers 1024) (hheld : (s.point p).placement ≠ .none)
    (hlive : t.live = s.live) (hboard : t.BoardOk) (hdefer : (s.withdraw p).DeferOk → t.DeferOk)
    (hother : ∀ q, q ≠ p → (t.point q).placement = ((s.withdraw p).point q).placement)
    (hplaced : (t.point p).placement ≠ .none) : s.Rearranged t where
  live := hlive
  boardOk := hboard
  deferOk hd := hdefer ((withdraw_withdrew s p ((isPoint_iff p).2 hp)).deferOk hs hd hp)
  held q hq := by
    by_cases hqp : q = p
    · subst hqp
      exact ⟨fun h => absurd h hplaced, fun h => absurd h hheld⟩
    · rw [hother q hqp, (withdraw_withdrew s p ((isPoint_iff p).2 hp)).placement hq, if_neg hqp]

end Part.Rearranged

/-! ### Boards that agree -/

theorem Part.BoardOk.congr {s t : Part} (hs : s.BoardOk) (h : s.SameBoard t) (hstatic : ∀ p, t.pointS p = s.pointS p) :
    t.BoardOk := by
  obtain ⟨hpl, hqueue, hdesk⟩ := h
  have hat : ∀ {p a pr : Nat}, t.At p a pr ↔ s.At p a pr := fun {p a pr} =>
    ⟨fun ⟨h1, h2, h3⟩ => ⟨h1, hstatic p ▸ h2, hstatic p ▸ h3⟩,
      fun ⟨h1, h2, h3⟩ => ⟨h1, (hstatic p).symm ▸ h2, (hstatic p).symm ▸ h3⟩⟩
  refine ⟨fun q hq h => ?_, fun q hq => ?_, fun a ha pr hpr => ?_, fun a ha pr hpr => ?_, fun d hd k hk x hx => ?_,
    fun q hq d k h => ?_, fun d hd => ?_, fun d hd => ?_⟩
  · unfold Part.InPlant
    rw [hstatic]
    exact hs.placed q hq (hpl q hq ▸ h)
  · rw [hpl q hq]
    exact hs.inRange q hq
  · rw [(hqueue a ha).1]
    refine ⟨(hs.pend a ha pr hpr).1, fun q => ((hs.pend a ha pr hpr).2 q).trans ?_⟩
    rw [hat]
    exact and_congr_right fun h => by rw [hpl q h.point]
  · rw [(hqueue a ha).2.1]
    refine ⟨(hs.defer a ha pr hpr).1, fun q => ((hs.defer a ha pr hpr).2 q).trans ?_⟩
    rw [hat]
    exact and_congr_right fun h => by rw [hpl q h.point]
  · rw [(hdesk d hd).1] at hx
    obtain ⟨h1, h2⟩ := hs.slot d hd k hk x hx
    exact ⟨h1, (hpl _ h1).trans h2⟩
  · rw [hpl q hq] at h
    have hrange := hs.inRange q hq
    rw [h] at hrange
    rw [(hdesk d hrange.1).1]
    exact hs.shown q hq d k h
  · rw [(hdesk d hd).1, (hdesk d hd).2.1]
    exact hs.order d hd
  · rw [(hdesk d hd).2.2]
    exact hs.rotation d hd

theorem Part.DeferOk.congr {s t : Part} (hs : s.DeferOk) (h : s.SameBoard t) : t.DeferOk := fun a ha => by
  obtain ⟨_, hdefer, hcount⟩ := h.2.1 a ha
  rw [hcount, hs a ha, Area.deferredTotal_eq, Area.deferredTotal_eq, hdefer]

/-- A part whose board is the same has it in order. -/
theorem Part.Rearranged.same {s t : Part} (hs : s.BoardOk) (h : s.SameBoard t) (hlive : t.live = s.live) :
    s.Rearranged t :=
  ⟨hlive, hs.congr h fun p => by rw [Part.pointS, hlive]; rfl, fun hd => hd.congr h, fun q hq => by rw [h.1 q hq]⟩

/-! ### One move -/

theorem joinPending_deferOk {s : Part} (h : s.DeferOk) (p : Nat) : (s.joinPending p).DeferOk := fun a ha => by
  show ((s.modArea _ _).area a).counts.deferred = ((s.modArea _ _).area a).deferredTotal
  rw [Part.modArea_area]
  split <;> exact h a ha

theorem returnHead_deferOk {s : Part} (h : s.DeferOk) (p : Nat) : (s.returnHead p).DeferOk := fun a ha => by
  show ((s.modArea _ _).area a).counts.deferred = ((s.modArea _ _).area a).deferredTotal
  rw [Part.modArea_area]
  split <;> exact h a ha

theorem joinDeferred_deferOk {s : Part} (h : s.DeferOk) {p : Nat} (hp : s.InPlant p) : (s.joinDeferred p).DeferOk :=
  h.modQueue (s.pointS p).area
    (fun b hb hne => (Part.modArea_area_of s _ _ hb).trans (if_neg hne)) fun ha _ => by
      show ((s.modArea _ _).area _).counts.deferred = ((s.modArea _ _).area _).deferredTotal
      rw [Part.modArea_area_of s _ _ ha, if_pos rfl]
      have htotal := queueTotal_modAt (s.area (s.pointS p).area).defer hp.priority_mem (· ++ [p])
      have hcount := h _ ha
      rw [Area.deferredTotal_eq] at hcount ⊢
      rw [List.length_append] at htotal
      simp only [List.length_singleton] at htotal ⊢
      omega

theorem place_deferOk {s : Part} (h : s.DeferOk) {p : Nat} (hp : s.InPlant p) : (s.place p).DeferOk := by
  unfold Part.place
  dsimp only
  split
  exacts [joinDeferred_deferOk h hp, joinPending_deferOk h p]

theorem present_deferOk {s : Part} (h : s.DeferOk) (d k a p : Nat) : (s.present d k a p).DeferOk := fun b hb => h b hb

theorem Part.setPlacement_other (s : Part) (p : Nat) (x : Placement) {q : Nat} (h : q ≠ p) :
    (s.modPoint p fun y => { y with placement := x }).point q = s.point q := by
  rw [Part.modPoint_point]
  exact if_neg fun he => h he.1.symm

theorem returnSlot_rearranged {s : Part} (hs : s.BoardOk) {d k : Nat} (hd : d ∈ numbers 6) (hk : k ∈ numbers 4) :
    s.Rearranged (s.returnSlot d k) := by
  cases hx : getAt (s.desk d).slots k with
  | none => rw [returnSlot_none hx]; exact .refl hs
  | some x =>
    obtain ⟨hp, hshown⟩ := hs.slot d hd k hk x hx
    have hheld : (s.point x.point).placement ≠ .none := by rw [hshown]; simp
    have hin := (withdraw_inPlant s x.point x.point).2 (hs.placed _ hp hheld)
    rw [returnSlot_eq hs hd hk hx]
    refine .replaced hs hp hheld (by rw [Part.returnHead, (withdraw_places s x.point).rest]; rfl)
      ((hs.withdraw hp).returnHead hin (withdraw_free hp)) (fun h => returnHead_deferOk h _)
      (fun q hq => congrArg Point.placement (Part.setPlacement_other _ _ _ hq)) ?_
    refine ne_of_eq_of_ne (congrArg Point.placement ((Part.setPlacement_point _ hp _ _).trans (if_pos rfl))) ?_
    simp

theorem placeInSlot_rearranged {s : Part} (hs : s.BoardOk) {d k a pr p : Nat} (hd : d ∈ numbers 6) (hk : k ∈ numbers 4)
    (ha : a ∈ numbers 16) (hpr : pr ∈ numbers 4) {rest : List Nat} (hhead : getAt (s.area a).pend pr = p :: rest)
    (hempty : getAt (s.desk d).slots k = none) : s.Rearranged (s.placeInSlot d k a pr p) := by
  obtain ⟨hat, hq⟩ := ((hs.pend a ha pr hpr).2 p).1 (by rw [hhead]; exact List.mem_cons_self ..)
  have hp := hat.point
  have hheld : (s.point p).placement ≠ .none := by rw [hq]; decide
  have hin := (withdraw_inPlant s p p).2 (hs.placed _ hp hheld)
  have hsame : getAt ((s.withdraw p).desk d).slots k = none := by
    obtain ⟨h, _⟩ | ⟨j, _, h, _⟩ := (withdraw_withdrew s p ((isPoint_iff p).2 hp)).desk hs hp hd
    · rw [h, hempty]
    · rw [hq] at h
      cases h
  rw [placeInSlot_eq hs ha hpr hhead]
  refine .replaced hs hp hheld (by rw [Part.present, (withdraw_places s p).rest]; rfl)
    ((hs.withdraw hp).present hd hk ha hin (withdraw_free hp) hsame) (fun h => present_deferOk h d k a p)
    (fun q hq => congrArg Point.placement (Part.setPlacement_other _ _ _ hq)) ?_
  refine ne_of_eq_of_ne (congrArg Point.placement ((Part.setPlacement_point _ hp _ _).trans (if_pos rfl))) ?_
  simp

theorem releaseOne_rearranged {s t : Part} (hs : s.BoardOk) {a : Nat} (ha : a ∈ numbers 16) (h : s.releaseOne a = some t) :
    s.Rearranged t := by
  obtain ⟨p, hp, hq, rfl⟩ := releaseOne_eq hs ha h
  have hheld : (s.point p).placement ≠ .none := by rw [hq]; decide
  have hin := (withdraw_inPlant s p p).2 (hs.placed _ hp hheld)
  refine .replaced hs hp hheld (by rw [Part.joinPending, (withdraw_places s p).rest]; rfl)
    ((hs.withdraw hp).joinPending hin (withdraw_free hp)) (fun h => joinPending_deferOk h _)
    (fun q hq => congrArg Point.placement (Part.setPlacement_other _ _ _ hq)) ?_
  refine ne_of_eq_of_ne (congrArg Point.placement ((Part.setPlacement_point _ hp _ _).trans (if_pos rfl))) ?_
  simp

theorem deferQueue_rearranged {s : Part} (hs : s.BoardOk) {a pr : Nat} (ha : a ∈ numbers 16) (hpr : pr ∈ numbers 4) :
    s.Rearranged (s.deferQueue a pr) where
  live := by rw [deferQueue_rest]
  boardOk := hs.deferQueue ha hpr
  deferOk hd := hd.deferQueue ha hpr
  held q hq := by
    rw [deferQueue_placement s a pr q hq]
    split
    · next h =>
      rw [(((hs.pend a ha pr hpr).2 q).1 h).2]
      simp
    · rfl

end Sys2Proof.Machine
end

section
/-! What a fill selects (R101, R103, R119): the candidate, the lowest empty slot, and the least and the most urgent occupant. -/

namespace Sys2Proof.Machine

/-! ### The first of a list that answers -/

theorem findSome?_first {α : Type} {f : Nat → Option α} {l : List Nat} {x : α} (h : l.findSome? f = some x) :
    ∃ a ∈ l, f a = some x ∧ ∀ b ∈ l, f b ≠ none → l.idxOf a ≤ l.idxOf b := by
  obtain ⟨l₁, a, l₂, rfl, ha, hbefore⟩ := List.findSome?_eq_some_iff.1 h
  have hout : ∀ b, f b ≠ none → b ∉ l₁ := fun b hb hmem => hb (hbefore b hmem)
  refine ⟨a, by simp, ha, fun b _ hb => ?_⟩
  rw [List.idxOf_append_of_notMem (hout a (by simp [ha])), List.idxOf_append_of_notMem (hout b hb), List.idxOf_cons_self]
  omega

theorem idxOf_four {k : Nat} (hk : k ∈ numbers 4) : [1, 2, 3, 4].idxOf k = k - 1 := by
  rcases mem_numbers_four hk with rfl | rfl | rfl | rfl <;> rfl

/-! ### The candidate (R101) -/

/-- The head of the queue of priority `pr` of area `a`, where that is presented at the desk. -/
def Part.waiting (s : Part) (d pr a : Nat) : Option (Nat × Nat × Nat) :=
  if (s.area a).pdesk = d then
    match getAt (s.area a).pend pr with
    | [] => none
    | p :: _ => some (a, pr, p)
  else none

theorem Part.candidate_eq (s : Part) (d : Nat) :
    s.candidate d = [1, 2, 3, 4].findSome? fun pr => (s.desk d).rotation.findSome? (s.waiting d pr) := rfl

theorem Part.waiting_eq_some {s : Part} {d pr a : Nat} {x : Nat × Nat × Nat} (h : s.waiting d pr a = some x) :
    (s.area a).pdesk = d ∧ x.1 = a ∧ x.2.1 = pr ∧ (getAt (s.area a).pend pr).head? = some x.2.2 := by
  unfold Part.waiting at h
  split at h
  · next hd =>
    split at h
    · cases h
    · next p rest hq =>
      cases h
      exact ⟨hd, rfl, rfl, by rw [hq]; rfl⟩
  · cases h

theorem Part.waiting_ne_none {s : Part} {d pr a : Nat} (hd : (s.area a).pdesk = d) (hq : getAt (s.area a).pend pr ≠ []) :
    s.waiting d pr a ≠ none := by
  unfold Part.waiting
  rw [if_pos hd]
  split
  · next h => exact absurd h hq
  · simp

/-- R101: what a fill selects. -/
theorem candidate_isCandidate {s : Part} {d a pr p : Nat} (h : s.candidate d = some (a, pr, p)) :
    s.IsCandidate d a pr p := by
  rw [Part.candidate_eq] at h
  obtain ⟨k, hk, hfound, hleast⟩ := findSome?_first h
  obtain ⟨b, hb, hwait, hearly⟩ := findSome?_first hfound
  obtain ⟨hdesk, hba, hkpr, hhead⟩ := Part.waiting_eq_some hwait
  dsimp only at hba hkpr hhead
  subst hba hkpr
  refine ⟨hb, hk, hdesk, hhead, fun c hc j hj hcd hne => ?_⟩
  have hwaits : s.waiting d j c ≠ none := Part.waiting_ne_none hcd hne
  have hle := hleast j hj fun hnone => hwaits (List.findSome?_eq_none_iff.1 hnone c hc)
  replace hk : pr ∈ numbers 4 := hk
  rw [idxOf_four hk, idxOf_four hj] at hle
  have hk1 := (mem_numbers pr).1 hk
  have hj1 := (mem_numbers j).1 hj
  by_cases hjk : pr = j
  · subst hjk
    exact .inr ⟨rfl, hearly c hc hwaits⟩
  · exact .inl (by omega)

theorem candidate_eq_none_iff (s : Part) (d : Nat) : s.candidate d = none ↔
    ∀ b ∈ (s.desk d).rotation, ∀ k ∈ numbers 4, (s.area b).pdesk = d → getAt (s.area b).pend k = [] := by
  constructor
  · intro h b hb k hk hbd
    by_contra hne
    rw [Part.candidate_eq, List.findSome?_eq_none_iff] at h
    exact Part.waiting_ne_none hbd hne (List.findSome?_eq_none_iff.1 (h k hk) b hb)
  · intro h
    cases hc : s.candidate d with
    | none => rfl
    | some x =>
      obtain ⟨ha, hpr, hd, hhead, _⟩ := candidate_isCandidate (a := x.1) (pr := x.2.1) (p := x.2.2) hc
      rw [h _ ha _ hpr hd] at hhead
      cases hhead

/-- R101: the candidate is determined. -/
theorem Part.IsCandidate.candidate {s : Part} {d a pr p : Nat} (h : s.IsCandidate d a pr p) :
    s.candidate d = some (a, pr, p) := by
  obtain ⟨ha, hpr, hd, hhead, hleast⟩ := h
  have hwaits : getAt (s.area a).pend pr ≠ [] := fun he => by rw [he] at hhead; cases hhead
  cases hc : s.candidate d with
  | none => exact absurd ((candidate_eq_none_iff s d).1 hc a ha pr hpr hd) hwaits
  | some x =>
    obtain ⟨b, k, q⟩ := x
    obtain ⟨hb, hk, hbd, hbhead, hbleast⟩ := candidate_isCandidate hc
    have hbwaits : getAt (s.area b).pend k ≠ [] := fun he => by rw [he] at hbhead; cases hbhead
    have h1 := hleast b hb k hk hbd hbwaits
    have h2 := hbleast a ha pr hpr hd hwaits
    have hkpr : k = pr := by omega
    have hidx : (s.desk d).rotation.idxOf b = (s.desk d).rotation.idxOf a := by omega
    have hba : b = a := (List.idxOf_inj hb).1 hidx
    subst hkpr hba
    rw [hhead] at hbhead
    rw [Option.some.inj hbhead]

/-! ### The lowest empty slot (R102) -/

theorem emptySlotNo_isFirst (x : Desk) : IsFirst (fun k => k ∈ numbers 4 ∧ getAt x.slots k = none) x.emptySlotNo := by
  have h := isFirst_find (fun k => (getAt x.slots k).isNone) 4
  simp only [Option.isNone_iff_eq_none] at h
  exact h

/-! ### The foremost of a list (R103, R119) -/

/-- The better of the number held and the next one. -/
def foremost (better : Nat → Nat → Bool) (best : Option Nat) (k : Nat) : Option Nat :=
  match best with
  | none => some k
  | some b => if better b k then some k else some b

theorem leastUrgent_eq (s : Part) (d : Nat) : s.leastUrgent d =
    (s.desk d).order.foldl (foremost fun b k => decide (s.slotPriority d b ≤ s.slotPriority d k)) none := by
  unfold Part.leastUrgent
  congr 1
  funext best k
  cases best with
  | none => rfl
  | some b => simp only [foremost, decide_eq_true_eq]

theorem mostUrgent_eq (s : Part) (d : Nat) : s.mostUrgent d =
    (s.desk d).order.foldl (foremost fun b k => decide (s.slotPriority d k < s.slotPriority d b)) none := by
  unfold Part.mostUrgent
  congr 1
  funext best k
  cases best with
  | none => rfl
  | some b => simp only [foremost, decide_eq_true_eq]

theorem foldl_foremost_mem (better : Nat → Nat → Bool) (l : List Nat) :
    match l.foldl (foremost better) none with
    | none => l = []
    | some k => k ∈ l := by
  induction l using List.reverseRecOn with
  | nil => rfl
  | append_singleton l x ih =>
    rw [List.foldl_append]
    generalize l.foldl (foremost better) none = o at ih
    cases o with
    | none => simp [foremost]
    | some k =>
      by_cases hbetter : better k x = true <;> simp [foremost, hbetter, ih]

/-- The last of the greatest. -/
theorem foldl_foremost_last (f : Nat → Nat) {l : List Nat} (hl : l.Nodup) {k : Nat}
    (h : l.foldl (foremost fun b j => decide (f b ≤ f j)) none = some k) :
    k ∈ l ∧ ∀ j ∈ l, f j < f k ∨ f j = f k ∧ l.idxOf j ≤ l.idxOf k := by
  induction l using List.reverseRecOn generalizing k with
  | nil => cases h
  | append_singleton l x ih =>
    have hx : x ∉ l := fun hx => (List.nodup_append.1 hl).2.2 x hx x (by simp) rfl
    have hidx : ∀ j ∈ l, (l ++ [x]).idxOf j = l.idxOf j := fun j hj => List.idxOf_append_of_mem hj
    have hlast : (l ++ [x]).idxOf x = l.length := by rw [List.idxOf_append_of_notMem hx]; simp
    rw [List.foldl_append] at h
    have hmem := foldl_foremost_mem (fun b j => decide (f b ≤ f j)) l
    cases hb : l.foldl (foremost fun b j => decide (f b ≤ f j)) none with
    | none =>
      rw [hb] at h hmem
      cases h
      subst hmem
      simp
    | some b =>
      obtain ⟨hbl, hmost⟩ := ih (List.nodup_append.1 hl).1 hb
      rw [hb] at h
      simp only [List.foldl_cons, List.foldl_nil, foremost, decide_eq_true_eq] at h
      split at h
      · next hle =>
        cases h
        refine ⟨by simp, fun j hj => ?_⟩
        rcases List.mem_append.1 hj with hj | hj
        · have := List.idxOf_lt_length_of_mem hj
          rw [hidx j hj, hlast]
          have := hmost j hj
          omega
        · cases List.mem_singleton.1 hj
          exact .inr ⟨rfl, Nat.le_refl _⟩
      · next hlt =>
        cases h
        refine ⟨by simp [hbl], fun j hj => ?_⟩
        rcases List.mem_append.1 hj with hj | hj
        · rw [hidx j hj, hidx _ hbl]
          exact hmost j hj
        · cases List.mem_singleton.1 hj
          exact .inl (by omega)

/-- The first of the least. -/
theorem foldl_foremost_first (f : Nat → Nat) {l : List Nat} {k : Nat}
    (h : l.foldl (foremost fun b j => decide (f j < f b)) none = some k) :
    k ∈ l ∧ ∀ j ∈ l, f k < f j ∨ f k = f j ∧ l.idxOf k ≤ l.idxOf j := by
  induction l using List.reverseRecOn generalizing k with
  | nil => cases h
  | append_singleton l x ih =>
    have hidx : ∀ j ∈ l, (l ++ [x]).idxOf j = l.idxOf j := fun j hj => List.idxOf_append_of_mem hj
    rw [List.foldl_append] at h
    have hmem := foldl_foremost_mem (fun b j => decide (f j < f b)) l
    cases hb : l.foldl (foremost fun b j => decide (f j < f b)) none with
    | none =>
      rw [hb] at h hmem
      cases h
      subst hmem
      simp
    | some b =>
      obtain ⟨hbl, hleast⟩ := ih hb
      rw [hb] at h
      simp only [List.foldl_cons, List.foldl_nil, foremost, decide_eq_true_eq] at h
      split at h
      · next hlt =>
        cases h
        refine ⟨by simp, fun j hj => ?_⟩
        rcases List.mem_append.1 hj with hj | hj
        · exact .inl (by have := hleast j hj; omega)
        · cases List.mem_singleton.1 hj
          exact .inr ⟨rfl, Nat.le_refl _⟩
      · next hge =>
        cases h
        refine ⟨by simp [hbl], fun j hj => ?_⟩
        by_cases hjl : j ∈ l
        · rw [hidx j hjl, hidx _ hbl]
          exact hleast j hjl
        · obtain rfl : j = x := by simpa [hjl] using hj
          have := List.idxOf_lt_length_of_mem hbl
          rw [hidx _ hbl, List.idxOf_append_of_notMem hjl]
          omega

/-- The foremost of a list is determined by an order that the indices complete. -/
theorem foremost_unique {f : Nat → Nat} {l : List Nat} {j k : Nat} (hj : j ∈ l)
    (hjk : f k < f j ∨ f k = f j ∧ l.idxOf k ≤ l.idxOf j) (hkj : f j < f k ∨ f j = f k ∧ l.idxOf j ≤ l.idxOf k) : j = k :=
  (List.idxOf_inj hj).1 (by omega)

/-- R103: the slot of the least urgent occupant. -/
theorem Part.LeastUrgentAt.leastUrgent {s : Part} {d k : Nat} (h : s.LeastUrgentAt d k) (hnd : (s.desk d).order.Nodup) :
    s.leastUrgent d = some k := by
  obtain ⟨hk, hmost⟩ := h
  have hmem := foldl_foremost_mem (fun b k => decide (s.slotPriority d b ≤ s.slotPriority d k)) (s.desk d).order
  rw [leastUrgent_eq]
  cases hb : (s.desk d).order.foldl (foremost fun b k => decide (s.slotPriority d b ≤ s.slotPriority d k)) none with
  | none => rw [hb] at hmem; rw [hmem] at hk; cases hk
  | some b =>
    obtain ⟨hbl, hbmost⟩ := foldl_foremost_last (s.slotPriority d) hnd hb
    rw [foremost_unique hbl (hbmost k hk) (hmost b hbl)]

theorem leastUrgent_mem {s : Part} {d k : Nat} (h : s.leastUrgent d = some k) : k ∈ (s.desk d).order := by
  have hmem := foldl_foremost_mem (fun b k => decide (s.slotPriority d b ≤ s.slotPriority d k)) (s.desk d).order
  rw [leastUrgent_eq] at h
  rw [h] at hmem
  exact hmem

/-- R119: the slot of the most urgent occupant. -/
theorem mostUrgent_of {s : Part} {d k : Nat} (hk : k ∈ (s.desk d).order)
    (hmost : ∀ j ∈ (s.desk d).order, s.slotPriority d k < s.slotPriority d j
      ∨ s.slotPriority d k = s.slotPriority d j ∧ (s.desk d).order.idxOf k ≤ (s.desk d).order.idxOf j) :
    s.mostUrgent d = some k := by
  have hmem := foldl_foremost_mem (fun b k => decide (s.slotPriority d k < s.slotPriority d b)) (s.desk d).order
  rw [mostUrgent_eq]
  cases hb : (s.desk d).order.foldl (foremost fun b k => decide (s.slotPriority d k < s.slotPriority d b)) none with
  | none => rw [hb] at hmem; rw [hmem] at hk; cases hk
  | some b =>
    obtain ⟨hbl, hbleast⟩ := foldl_foremost_first (s.slotPriority d) hb
    rw [foremost_unique hbl (hmost b hbl) (hbleast k hk)]

end Sys2Proof.Machine
end

section
/-! The fill (R101 to R104): what one selection does to a board in order, that the bound on selections is never reached, and that a
fill keeps the board in order. -/

namespace Sys2Proof.Machine

/-! ### One selection -/

/-- The candidate's queue is as it was after an occupant of another priority has gone back. -/
theorem returnSlot_pend (s : Part) (d k a : Nat) {pr : Nat} (h : s.slotPriority d k ≠ pr) :
    getAt ((s.returnSlot d k).area a).pend pr = getAt (s.area a).pend pr := by
  cases hx : getAt (s.desk d).slots k with
  | none => rw [returnSlot_none hx]
  | some x =>
    have hprio : s.slotPriority d k = (s.pointS x.point).priority := by rw [Part.slotPriority, hx]
    rw [returnSlot_some hx]
    show getAt (((s.emptySlot d k).modArea _ _).area a).pend pr = _
    rw [Part.modArea_area]
    split
    · exact getAt_modAt_ne _ _ _ _ fun he => h (hprio.trans he)
    · rfl

theorem returnSlot_empties {s : Part} {d k : Nat} (hd : d ∈ numbers 6) (hk : k ∈ numbers 4) :
    getAt ((s.returnSlot d k).desk d).slots k = none := by
  cases hx : getAt (s.desk d).slots k with
  | none => rw [returnSlot_none hx, hx]
  | some x =>
    obtain ⟨_, _, _, hdesk⟩ := returnSlot_gaveBack hx
    rw [hdesk d hd, if_pos rfl]
    exact (getAt_setAt _ _ _ _).trans (if_pos ⟨rfl, (mem_numbers k).1 hk⟩)

/-- The slot that a selection empties or finds empty, and the point that takes it. -/
structure Selects (s : Part) (d k a pr p : Nat) (t : Part) : Prop where
  slot : k ∈ numbers 4
  candidate : s.IsCandidate d a pr p
  room : getAt (s.desk d).slots k = none ∨ pr < s.slotPriority d k
  result : t = (s.returnSlot d k).placeInSlot d k a pr p

theorem fillStep_selects {s t : Part} {d : Nat} (horder : ∀ k ∈ (s.desk d).order, k ∈ numbers 4)
    (h : s.fillStep d = some t) : ∃ k a pr p, Selects s d k a pr p t := by
  unfold Part.fillStep at h
  split at h
  · cases h
  next a pr p hcand =>
  split at h
  · next k hslot =>
    have hfirst := emptySlotNo_isFirst (s.desk d)
    rw [hslot] at hfirst
    injection h with h
    exact ⟨k, a, pr, p, hfirst.1.1, candidate_isCandidate hcand, .inl hfirst.1.2, by rw [returnSlot_none hfirst.1.2, h]⟩
  · split at h
    · cases h
    next k hleast =>
    split at h
    · next hlt =>
      injection h with h
      exact ⟨k, a, pr, p, horder k (leastUrgent_mem hleast), candidate_isCandidate hcand, .inr hlt, h.symm⟩
    · cases h

namespace Selects

variable {s t : Part} {d k a pr p : Nat}

theorem area_mem (h : Selects s d k a pr p t) (hs : s.BoardOk) (hd : d ∈ numbers 6) : a ∈ numbers 16 :=
  ((hs.rotation d hd).2 a).1 h.candidate.1

/-- The candidate still heads its queue when the slot has been emptied. -/
theorem head (h : Selects s d k a pr p t) : ∃ rest, getAt ((s.returnSlot d k).area a).pend pr = p :: rest := by
  have hne : s.slotPriority d k ≠ pr := by
    rcases h.room with hempty | hlt
    · intro he
      have hpr := (mem_numbers pr).1 h.candidate.2.1
      have hzero : s.slotPriority d k = 0 := by rw [Part.slotPriority, hempty]
      omega
    · omega
  rw [returnSlot_pend s d k a hne]
  exact List.head?_eq_some_iff.1 h.candidate.2.2.2.1

theorem rearranged (h : Selects s d k a pr p t) (hs : s.BoardOk) (hd : d ∈ numbers 6) : s.Rearranged t := by
  obtain ⟨rest, hhead⟩ := h.head
  have hback := returnSlot_rearranged hs hd h.slot
  rw [h.result]
  exact hback.trans (placeInSlot_rearranged hback.boardOk hd h.slot (h.area_mem hs hd) h.candidate.2.1 hhead
    (returnSlot_empties hd h.slot))

end Selects

theorem fillStep_rearranged {s t : Part} (hs : s.BoardOk) {d : Nat} (hd : d ∈ numbers 6) (h : s.fillStep d = some t) :
    s.Rearranged t := by
  obtain ⟨k, a, pr, p, hsel⟩ := fillStep_selects (hs.order d hd).2.1 h
  exact hsel.rearranged hs hd

theorem fillLoop_rearranged (n : Nat) {s : Part} (hs : s.BoardOk) {d : Nat} (hd : d ∈ numbers 6) :
    s.Rearranged (Part.fillLoop n s d) := by
  induction n generalizing s with
  | zero => exact .refl hs
  | succ n ih =>
    unfold Part.fillLoop
    split
    · exact .refl hs
    · next t h =>
      have hstep := fillStep_rearranged hs hd h
      exact hstep.trans (ih hstep.boardOk)

/-! ### The bound on selections (R104) -/

/-- The room that a slot leaves to more urgent points: 5 for an empty one, the occupant's priority for another. -/
def Part.roomAt (s : Part) (d k : Nat) : Nat :=
  if getAt (s.desk d).slots k = none then 5 else s.slotPriority d k

/-- The room at a desk. -/
def Part.room (s : Part) (d : Nat) : Nat := s.roomAt d 1 + s.roomAt d 2 + s.roomAt d 3 + s.roomAt d 4

theorem Part.BoardOk.roomAt_le {s : Part} (hs : s.BoardOk) {d : Nat} (hd : d ∈ numbers 6) {k : Nat} (hk : k ∈ numbers 4) :
    s.roomAt d k ≤ 5 := by
  unfold Part.roomAt Part.slotPriority
  cases hx : getAt (s.desk d).slots k with
  | none => simp
  | some x =>
    obtain ⟨hp, hshown⟩ := hs.slot d hd k hk x hx
    obtain ⟨_, _, _, _, hle⟩ := hs.placed _ hp (by rw [hshown]; simp)
    simp only [reduceCtorEq, if_false]
    omega

theorem Part.BoardOk.room_le {s : Part} (hs : s.BoardOk) {d : Nat} (hd : d ∈ numbers 6) : s.room d ≤ 20 := by
  have h1 := hs.roomAt_le hd (k := 1) (by decide)
  have h2 := hs.roomAt_le hd (k := 2) (by decide)
  have h3 := hs.roomAt_le hd (k := 3) (by decide)
  have h4 := hs.roomAt_le hd (k := 4) (by decide)
  unfold Part.room
  omega

/-- The slots of the desk after a selection. -/
theorem Selects.slots {s t : Part} {d k a pr p : Nat} (h : Selects s d k a pr p t) (hd : d ∈ numbers 6) :
    ∀ j, getAt (t.desk d).slots j = if j = k then
        some { point := p, view := ((s.returnSlot d k).point p).view, presentedAt := (s.returnSlot d k).now, silenced := false }
      else getAt (s.desk d).slots j := by
  intro j
  have hback : ∀ j, j ≠ k → getAt ((s.returnSlot d k).desk d).slots j = getAt (s.desk d).slots j := fun j hjk => by
    cases hx : getAt (s.desk d).slots k with
    | none => rw [returnSlot_none hx]
    | some x =>
      obtain ⟨_, _, _, hdesk⟩ := returnSlot_gaveBack hx
      rw [hdesk d hd, if_pos rfl]
      exact (getAt_setAt _ _ _ _).trans (if_neg fun he => hjk he.1.symm)
  rw [h.result]
  show getAt ((((s.returnSlot d k).modArea a _).modDesk d _).desk d).slots j = _
  rw [Part.modDesk_desk_of _ _ _ hd, if_pos rfl]
  refine (getAt_setAt _ _ _ _).trans ?_
  by_cases hjk : j = k
  · rw [if_pos ⟨hjk.symm, (mem_numbers k).1 h.slot⟩, if_pos hjk]
  · rw [if_neg fun he => hjk he.1.symm, if_neg hjk]
    exact hback j hjk

/-- Every selection takes room away. -/
theorem Selects.room_lt {s t : Part} {d k a pr p : Nat} (h : Selects s d k a pr p t) (hs : s.BoardOk) (hd : d ∈ numbers 6) :
    t.room d < s.room d := by
  have hlive := (h.rearranged hs hd).live
  have hstatic : ∀ q, t.pointS q = s.pointS q := fun q => by rw [Part.pointS, hlive]; rfl
  have hprio : (s.pointS p).priority = pr := by
    obtain ⟨rest, hhead⟩ := List.head?_eq_some_iff.1 h.candidate.2.2.2.1
    exact ((((hs.pend a (h.area_mem hs hd) pr h.candidate.2.1).2 p).1 (by rw [hhead]; exact List.mem_cons_self ..)).1).priority
  have hother : ∀ j, j ≠ k → t.roomAt d j = s.roomAt d j := fun j hjk => by
    unfold Part.roomAt Part.slotPriority
    rw [h.slots hd j, if_neg hjk]
    simp only [hstatic]
  have hmine : t.roomAt d k < s.roomAt d k := by
    have hpr := (mem_numbers pr).1 h.candidate.2.1
    have hnow : t.roomAt d k = pr := by
      unfold Part.roomAt Part.slotPriority
      rw [h.slots hd k, if_pos rfl]
      simp only [reduceCtorEq, if_false, hstatic, hprio]
    rw [hnow]
    rcases h.room with hempty | hlt
    · rw [Part.roomAt, if_pos hempty]
      omega
    · unfold Part.roomAt
      split
      · omega
      · exact hlt
  have h1 := hother 1
  have h2 := hother 2
  have h3 := hother 3
  have h4 := hother 4
  unfold Part.room
  rcases mem_numbers_four h.slot with rfl | rfl | rfl | rfl
  all_goals simp at h1 h2 h3 h4; omega

/-- One selection more than there is room for changes nothing. -/
theorem fillLoop_settled (n : Nat) {s : Part} (hs : s.BoardOk) {d : Nat} (hd : d ∈ numbers 6) (hroom : s.room d ≤ n) :
    Part.fillLoop (n + 1) s d = Part.fillLoop n s d := by
  induction n generalizing s with
  | zero =>
    unfold Part.fillLoop
    cases h : s.fillStep d with
    | none => rfl
    | some t =>
      obtain ⟨k, a, pr, p, hsel⟩ := fillStep_selects (hs.order d hd).2.1 h
      have := hsel.room_lt hs hd
      omega
  | succ n ih =>
    rw [Part.fillLoop]
    conv => rhs; unfold Part.fillLoop
    cases h : s.fillStep d with
    | none => rfl
    | some t =>
      obtain ⟨k, a, pr, p, hsel⟩ := fillStep_selects (hs.order d hd).2.1 h
      have := hsel.room_lt hs hd
      exact ih (hsel.rearranged hs hd).boardOk (by omega)

/-- R101: a fill goes on from the part that its selection left. -/
theorem fill_fillStep {s t : Part} (hs : s.BoardOk) {d : Nat} (hd : d ∈ numbers 6) (h : s.fillStep d = some t) :
    s.fill d = t.fill d := by
  obtain ⟨k, a, pr, p, hsel⟩ := fillStep_selects (hs.order d hd).2.1 h
  have hlt := hsel.room_lt hs hd
  have hle := hs.room_le hd
  have hd0 : d ≠ 0 := fun h0 => by simp [h0] at hd
  have hstep : Part.fillLoop (19 + 1) s d = Part.fillLoop 19 t d := by
    rw [Part.fillLoop, h]
  unfold Part.fill
  rw [if_neg hd0, if_neg hd0]
  exact hstep.trans (fillLoop_settled 19 (hsel.rearranged hs hd).boardOk hd (by omega)).symm

/-! ### The fill -/

theorem fill_rearranged {s : Part} (hs : s.BoardOk) {d : Nat} (hd : d = 0 ∨ d ∈ numbers 6) : s.Rearranged (s.fill d) := by
  unfold Part.fill
  split
  · exact .refl hs
  · next h => exact fillLoop_rearranged _ hs (hd.resolve_left h)

theorem fills_rearranged {s : Part} (hs : s.BoardOk) {l : List Nat} (hl : ∀ d ∈ l, d ∈ numbers 6) :
    s.Rearranged (l.foldl Part.fill s) := by
  induction l generalizing s with
  | nil => exact .refl hs
  | cons d l ih =>
    have hd := fill_rearranged hs (.inr (hl d List.mem_cons_self))
    exact hd.trans (ih hd.boardOk fun e he => hl e (List.mem_cons_of_mem _ he))

theorem fillWhere_rearranged {s : Part} (hs : s.BoardOk) (f : Nat → Bool) : s.Rearranged (s.fillWhere f) :=
  fills_rearranged hs fun _ hd => (List.mem_filter.1 hd).1

end Sys2Proof.Machine
end

section
/-! `PointsInPlace` taken apart: the plant, the states of the points, the board and the shelf. -/

namespace Sys2Proof.Machine

/-- The state of every point goes with its configuration, its placement and its shelf slot. -/
def Part.StatesOk (s : Part) : Prop :=
  ∀ p ∈ numbers 1024,
    ((s.pointS p).configured = false → (s.point p).state = .normal)
    ∧ ((s.point p).placement = .none ↔ (s.point p).state.unacked = false)
    ∧ ((s.point p).shelfSlot = none ↔ (s.point p).state ≠ .shelved)

/-- The shelf slots and the points name each other. -/
structure Part.ShelfOk (s : Part) : Prop where
  named : ∀ p ∈ numbers 1024, ∀ k, (s.point p).shelfSlot = some k →
    k ∈ numbers 96 ∧ ∃ x ∈ getAt s.shelf k, x.point = p
  held : ∀ k ∈ numbers 96, ∀ x ∈ getAt s.shelf k, x.point ∈ numbers 1024 ∧ (s.point x.point).shelfSlot = some k

theorem Part.StatesOk.configured {s : Part} (h : s.StatesOk) {p : Nat} (hp : p ∈ numbers 1024)
    (hst : (s.point p).state ≠ .normal) : (s.pointS p).configured = true := by
  by_contra hc
  exact hst ((h p hp).1 (by simpa using hc))

theorem Part.PlantOk.inPlant {s : Part} (h : s.PlantOk) {p : Nat} (hp : p ∈ numbers 1024)
    (hc : (s.pointS p).configured = true) : s.InPlant p := by
  obtain ⟨ha, h1, h4⟩ := h p hp hc
  exact ⟨(isPoint_iff p).2 hp, hc, ha, h1, h4⟩

theorem Part.PointsInPlace.statesOk {s : Part} (h : s.PointsInPlace) : s.StatesOk := fun p hp =>
  ⟨(h.2.1 p hp).1, (h.2.1 p hp).2.1, (h.2.1 p hp).2.2.1⟩

theorem Part.PointsInPlace.shelfOk {s : Part} (h : s.PointsInPlace) : s.ShelfOk := by
  obtain ⟨_, hpoint, hrange, _, _, hshelf⟩ := h
  refine ⟨fun p hp k hk => ?_, fun k hk x hx => ?_⟩
  · obtain ⟨_, _, _, _, _, _, hnamed⟩ := hpoint p hp
    have hmem := (hrange p hp).1 k hk
    exact ⟨hmem, hnamed k hmem hk⟩
  · obtain ⟨hp, _, hslot⟩ := hshelf k hk x hx
    exact ⟨(isPoint_iff _).1 hp, hslot⟩

theorem Part.PointsInPlace.boardOk {s : Part} (h : s.PointsInPlace) : s.BoardOk := by
  have hstates := h.statesOk
  obtain ⟨hplant, hpoint, hrange, hqueue, hdesk, _⟩ := h
  have hplaced : ∀ p ∈ numbers 1024, (s.point p).placement ≠ .none → s.InPlant p := fun p hp hpl =>
    hplant.inPlant hp (hstates.configured hp fun hst => hpl ((hstates p hp).2.1.2 (by rw [hst]; rfl)))
  refine ⟨hplaced, fun p hp => (hrange p hp).2, fun a ha pr hpr => ?_, fun a ha pr hpr => ?_, fun d hd k hk x hx => ?_,
    fun p hp d k hpl => ?_, fun d hd => ?_, fun d hd => ?_⟩
  · obtain ⟨hnd, _, hmem, _⟩ := hqueue a ha pr hpr
    refine ⟨hnd, fun p => ⟨fun hp => ?_, fun ⟨hat, hq⟩ => ?_⟩⟩
    · obtain ⟨h1, _, h2, h3, h4⟩ := hmem p hp
      exact ⟨⟨(isPoint_iff p).1 h1, h2, h3⟩, h4⟩
    · obtain ⟨_, _, _, hin, _⟩ := hpoint p hat.point
      have := hin hq
      rwa [hat.area, hat.priority] at this
  · obtain ⟨_, hnd, _, hmem⟩ := hqueue a ha pr hpr
    refine ⟨hnd, fun p => ⟨fun hp => ?_, fun ⟨hat, hq⟩ => ?_⟩⟩
    · obtain ⟨h1, _, h2, h3, h4⟩ := hmem p hp
      exact ⟨⟨(isPoint_iff p).1 h1, h2, h3⟩, h4⟩
    · obtain ⟨_, _, _, _, hin, _⟩ := hpoint p hat.point
      have := hin hq
      rwa [hat.area, hat.priority] at this
  · obtain ⟨_, hslots, _⟩ := hdesk d hd
    obtain ⟨h1, _, h2⟩ := (hslots k hk).2 x hx
    exact ⟨(isPoint_iff _).1 h1, h2⟩
  · obtain ⟨_, _, _, _, _, hshown, _⟩ := hpoint p hp
    have hin := (hrange p hp).2
    rw [hpl] at hin
    exact hshown d hin.1 k hin.2 hpl
  · obtain ⟨hnd, hslots, hmem, _⟩ := hdesk d hd
    exact ⟨hnd, hmem, fun k hk => (hslots k hk).1⟩
  · obtain ⟨_, _, _, hnd, hmem, hall⟩ := hdesk d hd
    exact ⟨hnd, fun a => ⟨hmem a, hall a⟩⟩

theorem Part.pointsInPlace_iff (s : Part) : s.PointsInPlace ↔ s.PlantOk ∧ s.StatesOk ∧ s.BoardOk ∧ s.ShelfOk := by
  refine ⟨fun h => ⟨h.1, h.statesOk, h.boardOk, h.shelfOk⟩, fun ⟨hplant, hstates, hboard, hshelf⟩ => ?_⟩
  have hmember : ∀ {p a pr : Nat}, s.At p a pr → (s.point p).placement ≠ .none →
      isPoint p = true ∧ (s.pointS p).configured = true ∧ (s.pointS p).area = a ∧ (s.pointS p).priority = pr :=
    fun {p _ _} hat hpl => ⟨(isPoint_iff p).2 hat.point, (hboard.placed p hat.point hpl).2.1, hat.area, hat.priority⟩
  refine ⟨hplant, fun p hp => ?_, fun p hp => ⟨fun k hk => (hshelf.named p hp k hk).1, hboard.inRange p hp⟩,
    fun a ha pr hpr => ?_, fun d hd => ?_, fun k hk x hx => ?_⟩
  · obtain ⟨h1, h2, h3⟩ := hstates p hp
    refine ⟨h1, h2, h3, fun hq => ?_, fun hq => ?_, fun d _ k _ => hboard.shown p hp d k,
      fun k _ hk => (hshelf.named p hp k hk).2⟩
    · have hin := hboard.placed p hp (by rw [hq]; decide)
      exact ((hboard.pend _ hin.area_mem _ hin.priority_mem).2 p).2 ⟨.mem hin, hq⟩
    · have hin := hboard.placed p hp (by rw [hq]; decide)
      exact ((hboard.defer _ hin.area_mem _ hin.priority_mem).2 p).2 ⟨.mem hin, hq⟩
  · obtain ⟨hnd, hmem⟩ := hboard.pend a ha pr hpr
    obtain ⟨hnd', hmem'⟩ := hboard.defer a ha pr hpr
    refine ⟨hnd, hnd', fun p hp => ?_, fun p hp => ?_⟩
    · obtain ⟨hat, hq⟩ := (hmem p).1 hp
      obtain ⟨h1, h2, h3, h4⟩ := hmember hat (by rw [hq]; decide)
      exact ⟨h1, h2, h3, h4, hq⟩
    · obtain ⟨hat, hq⟩ := (hmem' p).1 hp
      obtain ⟨h1, h2, h3, h4⟩ := hmember hat (by rw [hq]; decide)
      exact ⟨h1, h2, h3, h4, hq⟩
  · obtain ⟨hnd, hmem, hiff⟩ := hboard.order d hd
    obtain ⟨hrnd, hrot⟩ := hboard.rotation d hd
    refine ⟨hnd, fun k hk => ⟨hiff k hk, fun x hx => ?_⟩, hmem, hrnd, fun a => (hrot a).1, fun a => (hrot a).2⟩
    obtain ⟨hp, hshown⟩ := hboard.slot d hd k hk x hx
    exact ⟨(isPoint_iff _).2 hp, (hboard.placed _ hp (by rw [hshown]; simp)).2.1, hshown⟩
  · obtain ⟨hp, hslot⟩ := hshelf.held k hk x hx
    have hst : (s.point x.point).state = .shelved := by
      by_contra hne
      rw [(hstates _ hp).2.2.2 hne] at hslot
      cases hslot
    exact ⟨(isPoint_iff _).2 hp, hstates.configured hp (by rw [hst]; decide), hslot⟩

end Sys2Proof.Machine
end

section
/-! The end of an event that moves points: a fill, the notice of a significant change, the horns and the reports. -/

namespace Sys2Proof.Machine

/-- A desk at which only presentation has moved. -/
theorem closeEvent_deskMoved {s w : Part} (extra : List ReportEntry) {d : Nat} (hd : d ∈ numbers 6)
    (h : w.desk d =
      { s.desk d with slots := (w.desk d).slots, order := (w.desk d).order, rotation := (w.desk d).rotation }) :
    s.DeskMoved (closeEvent s extra w) d := by
  refine ⟨?_, closeEvent_hornMoved extra d hd (by rw [h]) (by rw [h])⟩
  rw [closeEvent_desk_rest s w extra hd, h]

/-- A fill of desk `e`, the notice for area `a`, and the end of the event that found `s`. -/
def Part.finish (s w : Part) (e a : Nat) (sig : Bool) : Part := closeEvent s [] ((w.fill e).notifyIf sig a)

/-- What an event has made of `s` before it is finished: the records `l` are written, and only slots and orders have changed at
desk `e`, and nothing at the others. -/
structure Unfinished (s w : Part) (e a : Nat) (l : List (Bool × W16 × RecordFields)) : Prop where
  rest : w = { s with points := w.points, areas := w.areas, desks := w.desks, shelf := w.shelf, rst := w.rst }
  desk : ∀ d ∈ numbers 6, w.desk d = { s.desk d with slots := (w.desk d).slots, order := (w.desk d).order }
  otherDesks : ∀ d ∈ numbers 6, d ≠ e → w.desk d = s.desk d
  session : (w.area a).session = (s.area a).session
  journals : s.Journals w l

/-- The end of an event. -/
structure Finished (s w t : Part) (e a : Nat) (sig : Bool) (l : List (Bool × W16 × RecordFields)) : Prop where
  point : ∀ q, t.point q = { w.point q with placement := (t.point q).placement }
  area : ∀ b, t.area b = { w.area b with pend := (t.area b).pend }
  unmoved : e = 0 → (∀ q, t.point q = w.point q) ∧ ∀ b, t.area b = w.area b
  board : (w.fill e).SameBoard t
  shelf : t.shelf = w.shelf
  fixed : s.Fixed t
  people : s.PeopleKept t
  moved : ∀ d ∈ numbers 6, s.DeskMoved t d
  kept : ∀ d ∈ numbers 6, d ≠ e → s.DeskKept t d
  noticed : s.Noticed t a sig
  wrote : s.Wrote t (s.records l)
  tellsPoint : ∀ p ∈ numbers 1024, pointReported (s.point p) (t.point p) = true → t.Told (pointEntry p)
  tellsArea : ∀ b ∈ numbers 16, areaReported (s.area b) (t.area b) = true → t.Told (areaEntry b)

theorem Part.fill_zero (s : Part) : s.fill 0 = s := if_pos rfl

theorem Part.finish_lif {s w : Part} {e a : Nat} {l : List (Bool × W16 × RecordFields)} (h : Unfinished s w e a l)
    (sig : Bool) : (s.finish w e a sig).lif = s.lif := by
  rw [Part.finish, closeEvent_lif, Part.notifyIf_rest, (fill_moves w e).rest, h.rest]

theorem Unfinished.finish {s w : Part} {e a : Nat} {l : List (Bool × W16 × RecordFields)} (h : Unfinished s w e a l)
    (sig : Bool) : Finished s w (s.finish w e a sig) e a sig l := by
  have hmoves := fill_moves w e
  have hzero : e = 0 → w.fill e = w := fun he => by rw [he, Part.fill_zero]
  have hother := fill_otherDesks w e
  have hboard : (w.fill e).Alike (s.finish w e a sig) := by
    refine Part.Alike.trans ?_ (.closeEvent s _ [])
    cases sig
    exacts [.refl _, .notify ..]
  have hnotice := fun n hn => Part.notifyIf_session (w.fill e) sig a n hn
  have hnotify := Part.notifyIf_rest (w.fill e) sig a
  unfold Part.finish at hboard ⊢
  generalize hf : w.fill e = f at hmoves hzero hother hboard hnotice hnotify ⊢
  generalize f.notifyIf sig a = v at hboard hnotice hnotify ⊢
  have hpoint : ∀ q, v.point q = f.point q := fun q => by rw [hnotify]; rfl
  have harea : ∀ b, v.area b = f.area b := fun b => by rw [hnotify]; rfl
  have hdesk : ∀ d, v.desk d = f.desk d := fun d => by rw [hnotify]; rfl
  constructor
  case point => exact fun q => by rw [closeEvent_point, hpoint]; exact hmoves.point q
  case area => exact fun b => by rw [closeEvent_area, harea]; exact hmoves.area b
  case unmoved =>
    exact fun he => ⟨fun q => by rw [closeEvent_point, hpoint, hzero he], fun b => by rw [closeEvent_area, harea, hzero he]⟩
  case board => rw [hf]; exact hboard.sameBoard
  case shelf => rw [closeEvent_shelf, hnotify, hmoves.rest]
  case fixed =>
    refine ⟨?_, ?_, ?_, ?_, ?_⟩
    · rw [closeEvent_resetLow, hnotify, hmoves.rest, h.rest]
    · rw [closeEvent_phase, hnotify, hmoves.rest, h.rest]
    · rw [closeEvent_staged, hnotify, hmoves.rest, h.rest]
    · rw [closeEvent_live, hnotify, hmoves.rest, h.rest]
    · rw [closeEvent_tset, hnotify, hmoves.rest, h.rest]
  case people =>
    refine ⟨?_, ?_⟩
    · rw [closeEvent_credDesk, hnotify, hmoves.rest, h.rest]
    · rw [closeEvent_groups, hnotify, hmoves.rest, h.rest]
  case moved =>
    intro d hd
    refine closeEvent_deskMoved [] hd ?_
    rw [hdesk, hmoves.desk, h.desk d hd]
  case kept =>
    intro d hd hde
    refine closeEvent_deskKept [] hd ?_
    rw [hdesk, hother d hde, h.otherDesks d hd hde]
  case noticed =>
    intro n hn
    have hsession : ∀ m, f.session m = s.session m := fun m => by rw [hmoves.rest, h.rest]; rfl
    rw [closeEvent_session, hnotice n hn, hmoves.area, hsession]
    dsimp only
    rw [h.session]
  case wrote =>
    refine (h.journals.quiet ?_ ?_ ?_).close []
    · rw [hnotify, hmoves.rest]
    · rw [hnotify, hmoves.rest]; rfl
    · rw [hnotify, hmoves.rest]; rfl
  case tellsPoint =>
    intro p hp hrep
    rw [closeEvent_point] at hrep
    exact closeEvent_tells_point hp hrep
  case tellsArea =>
    intro b hb hrep
    rw [closeEvent_area] at hrep
    exact closeEvent_tells_area [] hb hrep

theorem Finished.answered {s w t : Part} {e a : Nat} {sig : Bool} {l : List (Bool × W16 × RecordFields)}
    (h : Finished s.taken w t e a sig l) {x : Lif} (hlink : x.link = t.lif.link) :
    Finished s w { t with lif := x } e a sig l :=
  ⟨h.point, h.area, h.unmoved, h.board, h.shelf, h.fixed, h.people, h.moved, h.kept, h.noticed,
    Part.Wrote.answered h.wrote hlink, h.tellsPoint, h.tellsArea⟩

end Sys2Proof.Machine
end

section
/-! An event in which a point leaves its place on the board for a state that needs no acknowledgement: an acknowledgement, a
SHELVE and a REMOVE (R57, R71, R77), with the CALM that this may bring its area (R87). -/

namespace Sys2Proof.Machine

/-- Point `p` of `s` has left its place for the state of `x`, and nothing else has changed but the shelf. -/
structure Leaving (s u : Part) (p : Nat) (x : Point) : Prop where
  rest : u = { s with points := u.points, areas := u.areas, desks := u.desks, shelf := u.shelf }
  board : (s.withdraw p).Alike u
  point : u.point p = { x with placement := .none }
  otherPoints : ∀ q ∈ numbers 1024, q ≠ p → u.point q = s.point q
  area : u.area (s.pointS p).area =
    { s.area (s.pointS p).area with
      counts :=
        (({ (s.area (s.pointS p).area).counts with
            deferred := if decide ((s.point p).placement = .deferred) then (s.area (s.pointS p).area).counts.deferred - 1
              else (s.area (s.pointS p).area).counts.deferred } : Counts).dec (s.point p).state).inc x.state
      pend := (u.area (s.pointS p).area).pend
      defer := if decide ((s.point p).placement = .deferred) then
          modAt (s.area (s.pointS p).area).defer (s.pointS p).priority (·.erase p)
        else (s.area (s.pointS p).area).defer }
  pend : (s.point p).placement = .queued → (u.area (s.pointS p).area).pend =
    modAt (s.area (s.pointS p).area).pend (s.pointS p).priority (·.erase p)
  otherAreas : ∀ b ∈ numbers 16, b ≠ (s.pointS p).area → u.area b = s.area b
  desk : ∀ d ∈ numbers 6, u.desk d = { s.desk d with slots := (u.desk d).slots, order := (u.desk d).order }
  otherDesks : ∀ d ∈ numbers 6, d ≠ s.shownAt p → u.desk d = s.desk d

/-! ### The withdrawal and the change of state -/

theorem changeState_point_of (s : Part) (p : Nat) (st : PointState) {q : Nat} (hq : q ∈ numbers 1024) :
    (s.changeState p st).point q =
      if q = p then { s.point q with state := st, lastChange := s.now } else s.point q :=
  Part.modPoint_point_of s p _ hq

theorem changeState_area_of (s : Part) (p : Nat) (st : PointState) {b : Nat} (hb : b ∈ numbers 16) :
    (s.changeState p st).area b =
      if b = (s.pointS p).area then { s.area b with counts := ((s.area b).counts.dec (s.point p).state).inc st }
      else s.area b :=
  Part.modArea_area_of _ _ _ hb

/-- A withdrawal changes no more of a desk than slots and presentation order. -/
theorem withdraw_desk (s : Part) (p d : Nat) : (s.withdraw p).desk d =
    { s.desk d with slots := ((s.withdraw p).desk d).slots, order := ((s.withdraw p).desk d).order } := by
  unfold Part.withdraw
  cases (s.point p).placement with
  | none => rfl
  | queued => rfl
  | deferred => rfl
  | presented e k =>
    have hslot : ∀ t : Part, t.desk d = (s.emptySlot e k).desk d →
        t.desk d = { s.desk d with slots := (t.desk d).slots, order := (t.desk d).order } := fun t ht => by
      rw [ht, Part.emptySlot, Part.modDesk_desk]
      split <;> rfl
    exact hslot _ rfl

/-- The changes that take a point out of annunciation: `g₀` before and `g` after its withdrawal and change of state leave its
placement and its state alone. -/
theorem leaving_of {s v : Part} {p : Nat} (hp : s.InPlant p) {g₀ g : Point → Point} {st : PointState} {x : Point}
    (hv : v = { s.modPoint p g₀ with shelf := v.shelf })
    (hg₀ : ∀ y, (g₀ y).placement = y.placement ∧ (g₀ y).state = y.state ∧ (g₀ y).view = y.view)
    (hg : ∀ y, (g y).placement = y.placement ∧ (g y).view = y.view)
    (hx : g { g₀ (s.point p) with placement := .none, state := st, lastChange := s.now } = { x with placement := .none })
    (hst : x.state = st) : Leaving s (((v.withdraw p).changeState p st).modPoint p g) p x := by
  have hpoint₀ : ∀ q ∈ numbers 1024, v.point q = if q = p then g₀ (s.point q) else s.point q := fun q hq => by
    rw [hv]
    exact Part.modPoint_point_of s p g₀ hq
  have harea₀ : ∀ b, v.area b = s.area b := fun b => by rw [hv]; rfl
  have hdesk₀ : ∀ d, v.desk d = s.desk d := fun d => by rw [hv]; rfl
  have hstatic₀ : ∀ q, v.pointS q = s.pointS q := fun q => by rw [hv]; rfl
  have hnow₀ : v.now = s.now := by rw [hv]; rfl
  have hpl : (v.point p).placement = (s.point p).placement := by
    rw [hpoint₀ p hp.point_mem, if_pos rfl, (hg₀ _).1]
  have hstate : (v.point p).state = (s.point p).state := by
    rw [hpoint₀ p hp.point_mem, if_pos rfl, (hg₀ _).2.1]
  have halike₀ : s.Alike v := by
    rw [hv]
    exact (Part.Alike.keepPoint s p g₀ fun y => ⟨(hg₀ y).1.symm, (hg₀ y).2.2.symm⟩).trans
      (.rest rfl rfl rfl rfl rfl rfl)
  have hshown : v.shownAt p = s.shownAt p := by
    unfold Part.shownAt
    rw [hpl]
  obtain ⟨hrest, hpoint, harea, hdesk⟩ := withdraw_withdrew v p hp.1
  simp only [hpl, hstatic₀, harea₀, hdesk₀, hshown] at harea hdesk
  have hlastpoint : (v.withdraw p).point p = { g₀ (s.point p) with placement := .none } := by
    rw [hpoint p hp.point_mem, if_pos rfl, hpoint₀ p hp.point_mem, if_pos rfl]
  have hstaticw : ∀ q, (v.withdraw p).pointS q = s.pointS q := fun q => (withdraw_pointS v p q).trans (hstatic₀ q)
  have hnoww : (v.withdraw p).now = s.now := by rw [hrest]; exact hnow₀
  have hareau : ∀ b ∈ numbers 16, (((v.withdraw p).changeState p st).modPoint p g).area b =
      if b = (s.pointS p).area then
        { (v.withdraw p).area b with counts := (((v.withdraw p).area b).counts.dec (s.point p).state).inc st }
      else (v.withdraw p).area b := fun b hb => by
    refine (changeState_area_of _ _ _ hb).trans ?_
    rw [hstaticw, hlastpoint]
    simp only [(hg₀ _).2.1]
  have hmine := hareau _ hp.area_mem
  rw [if_pos rfl, harea _ hp.area_mem, if_pos rfl] at hmine
  constructor
  case rest =>
    rw [Part.changeState]
    show _ = _
    rw [hrest, hv]
    rfl
  case board =>
    exact ((halike₀.withdraw p).trans (.changeState _ p st)).trans
      (.keepPoint _ p g fun y => ⟨(hg y).1.symm, (hg y).2.symm⟩)
  case point =>
    rw [Part.modPoint_point_of _ _ _ hp.point_mem, if_pos rfl, changeState_point_of _ _ _ hp.point_mem, if_pos rfl,
      hlastpoint, hnoww, hx]
  case otherPoints =>
    intro q hq hqp
    rw [Part.modPoint_point_of _ _ _ hq, if_neg hqp, changeState_point_of _ _ _ hq, if_neg hqp, hpoint q hq, if_neg hqp,
      hpoint₀ q hq, if_neg hqp]
  case area =>
    rw [hmine, hst]
    by_cases hq : (s.point p).placement = .deferred
    · simp [hq]
    · simp [hq]
  case pend =>
    intro hq
    rw [hmine]
    simp [hq]
  case otherAreas =>
    intro b hb hba
    rw [hareau b hb, if_neg hba, harea b hb, if_neg hba]
  case desk =>
    intro d _
    show (v.withdraw p).desk d = _
    rw [← hdesk₀ d]
    exact withdraw_desk v p d
  case otherDesks =>
    intro d hd hne
    exact (hdesk d hd).1 hne

end Sys2Proof.Machine
end

section
/-! What an event comes to in which a point leaves its place: the record, the CALM of its area, the fill of the desk that showed it
and the notice (R87, R107). -/

namespace Sys2Proof.Machine

/-- The generation of area `a` after an event, significant or not. -/
def Part.genAfter (s : Part) (a : Nat) (sig : Bool) : W16 :=
  if sig then (s.area a).generation + 1 else (s.area a).generation

/-- The records of an event in which point `p` leaves its place: its own, and RELEASE when its area becomes CALM. -/
def Part.leavingRecords (s t : Part) (p : Nat) (sig : Bool) (f : RecordFields) : List (Bool × W16 × RecordFields) :=
  let a := (s.pointS p).area
  [(sig, s.genAfter a sig, f)]
    ++ if (s.area a).flood = .releasing ∧ (t.area a).nothingDeferred = true then
        [releaseOfWithdrawal a sig (s.genAfter a sig)] else []

/-- The part before the fill: the record, and the CALM. -/
def Part.noted (u : Part) (a : Nat) (sig : Bool) (f : RecordFields) : Part :=
  ((u.bumpIf sig a).write sig f).calmIfEmpty a sig

/-- An event in which point `p` leaves its place; `u` is the part without it. -/
def Part.leave (s u : Part) (p : Nat) (sig : Bool) (f : RecordFields) : Part :=
  s.finish (u.noted (s.pointS p).area sig f) (s.shownAt p) (s.pointS p).area sig

theorem calmIfEmpty_rest (s : Part) (a : Nat) (sig : Bool) :
    s.calmIfEmpty a sig = { s with areas := (s.calmIfEmpty a sig).areas, rst := (s.calmIfEmpty a sig).rst } := by
  unfold Part.calmIfEmpty
  split <;> rfl

theorem calmIfEmpty_area (s : Part) {a : Nat} (sig : Bool) {b : Nat} (hb : b ∈ numbers 16) :
    (s.calmIfEmpty a sig).area b =
      if b = a then
        { s.area b with
          flood := if (s.area b).flood = .releasing ∧ (s.area b).nothingDeferred = true then .calm else (s.area b).flood }
      else s.area b := by
  unfold Part.calmIfEmpty
  split
  · next h =>
    rw [Part.write_area_other, Part.modArea_area_of _ _ _ hb]
    split
    · next hba => rw [hba, if_pos h]
    · rfl
  · next h =>
    split
    · next hba => rw [hba, if_neg h]
    · rfl

/-- The RELEASE record of R87. -/
theorem Part.Journals.calmIfEmpty {s u : Part} {l : List (Bool × W16 × RecordFields)} (h : s.Journals u l) {a : Nat}
    (ha : a ∈ numbers 16) (sig : Bool) :
    s.Journals (u.calmIfEmpty a sig)
      (l ++ if (u.area a).flood = .releasing ∧ (u.area a).nothingDeferred = true then
        [releaseOfWithdrawal a sig (u.area a).generation] else []) := by
  unfold Part.calmIfEmpty
  split
  · next hcalm =>
    have hgen : (u.modArea a fun x => { x with flood := .calm }).generationOf a = (u.area a).generation := by
      rw [Part.generationOf_pos _ (Nat.ne_zero_of_lt ((mem_numbers a).1 ha).1), Part.modArea_area_of _ _ _ ha, if_pos rfl]
    have := Part.Journals.write (h.quiet (v := u.modArea a fun x => { x with flood := .calm }) rfl rfl rfl) sig
      { kind := .release, flags := flagCalmReached, area := a }
    rw [hgen] at this
    exact this
  · rw [List.append_nil]
    exact h

section
variable {s u : Part} {p : Nat} {x : Point} {sig : Bool} {f : RecordFields}

theorem Leaving.bumped_area (h : Leaving s u p x) (hp : s.InPlant p) :
    (u.bumpIf sig (s.pointS p).area).area (s.pointS p).area =
      { u.area (s.pointS p).area with generation := s.genAfter (s.pointS p).area sig } := by
  rw [Part.bumpIf_area _ _ _ _ hp.area_mem, if_pos rfl, Part.genAfter, h.area]

theorem Part.noted_area (u : Part) {a : Nat} (ha : a ∈ numbers 16) (sig : Bool) (f : RecordFields) {b : Nat}
    (hb : b ∈ numbers 16) : (u.noted a sig f).area b =
      if b = a then
        { (u.bumpIf sig a).area b with
          flood := if (u.area b).flood = .releasing ∧ (u.area b).nothingDeferred = true then .calm else (u.area b).flood }
      else u.area b := by
  have hbump := Part.bumpIf_area u sig a b ha
  unfold Part.noted
  rw [calmIfEmpty_area _ _ hb, Part.write_area_other]
  by_cases hba : b = a
  · rw [if_pos hba, if_pos hba, hbump, if_pos hba.symm]
    rfl
  · rw [if_neg hba, if_neg hba, hbump, if_neg (Ne.symm hba)]

theorem Part.noted_rest (u : Part) (a : Nat) (sig : Bool) (f : RecordFields) :
    u.noted a sig f = { u with areas := (u.noted a sig f).areas, rst := (u.noted a sig f).rst } := by
  unfold Part.noted
  rw [calmIfEmpty_rest, Part.write_rest, Part.bumpIf_rest]

theorem Part.noted_alike (u : Part) (a : Nat) (sig : Bool) (f : RecordFields) : u.Alike (u.noted a sig f) := by
  refine Part.Alike.trans ?_ ((Part.Alike.write _ sig f).trans (.calmIfEmpty _ a sig))
  cases sig
  exacts [.refl _, .bump ..]

theorem Leaving.unfinished (h : Leaving s u p x) (hp : s.InPlant p) (hf : f.area = (s.pointS p).area) :
    Unfinished s (u.noted (s.pointS p).area sig f) (s.shownAt p) (s.pointS p).area (s.leavingRecords u p sig f) := by
  have hrest := u.noted_rest (s.pointS p).area sig f
  have hdesk : ∀ d, (u.noted (s.pointS p).area sig f).desk d = u.desk d := fun d => by rw [hrest]; rfl
  refine ⟨?_, fun d hd => ?_, fun d hd hne => ?_, ?_, ?_⟩
  · rw [hrest, h.rest]
  · rw [hdesk]
    exact h.desk d hd
  · rw [hdesk]
    exact h.otherDesks d hd hne
  · rw [Part.noted_area u hp.area_mem sig f hp.area_mem, if_pos rfl, h.bumped_area hp, h.area]
  · have hstart : s.Journals (u.bumpIf sig (s.pointS p).area) [] :=
      .start (by rw [Part.bumpIf_rest, h.rest]) (by rw [Part.bumpIf_rest, h.rest]; rfl)
        (by rw [Part.bumpIf_rest, h.rest]; rfl)
    have hcalm := (hstart.write sig f).calmIfEmpty hp.area_mem sig
    have hpos : (s.pointS p).area ≠ 0 := Nat.ne_zero_of_lt ((mem_numbers _).1 hp.area_mem).1
    have hbumped := h.bumped_area (sig := sig) hp
    rw [Part.write_area_other, hf, Part.generationOf_pos _ hpos, hbumped] at hcalm
    dsimp only at hcalm
    have hflood : (u.area (s.pointS p).area).flood = (s.area (s.pointS p).area).flood := by rw [h.area]
    rw [hflood] at hcalm
    exact hcalm

/-- What such an event has made of the part. -/
structure Left (s u t : Part) (p : Nat) (x : Point) (sig : Bool) (f : RecordFields) : Prop where
  point : t.point p = { x with placement := (t.point p).placement }
  unplaced : s.shownAt p = 0 ∨ s.PointsInPlace → (t.point p).placement = .none
  board : ((s.withdraw p).fill (s.shownAt p)).SameBoard t
  area : s.AreaAfterLeaving t p x.state (s.genAfter (s.pointS p).area sig)
  wrote : s.Wrote t (s.records (s.leavingRecords t p sig f))
  noticed : s.Noticed t (s.pointS p).area sig
  shelf : t.shelf = u.shelf
  frame : s.MoveFrame t p (s.pointS p).area (s.shownAt p)
  tellsPoint : x.state ≠ (s.point p).state → t.Told (pointEntry p)
  tellsArea : areaReported (s.area (s.pointS p).area) (t.area (s.pointS p).area) = true →
    t.Told (areaEntry (s.pointS p).area)

theorem Part.shownAt_inRange {s : Part} (hs : s.BoardOk) {p : Nat} (hp : p ∈ numbers 1024) :
    s.shownAt p = 0 ∨ s.shownAt p ∈ numbers 6 := by
  have hrange := hs.inRange p hp
  unfold Part.shownAt
  cases hpl : (s.point p).placement with
  | presented d k => rw [hpl] at hrange; exact .inr hrange.1
  | none => exact .inl rfl
  | queued => exact .inl rfl
  | deferred => exact .inl rfl

theorem Leaving.left (h : Leaving s u p x) (hp : s.InPlant p) (hf : f.area = (s.pointS p).area) :
    Left s u (s.leave u p sig f) p x sig f := by
  have hdone := (h.unfinished (sig := sig) (f := f) hp hf).finish sig
  have hpoint : ∀ q, (u.noted (s.pointS p).area sig f).point q = u.point q := fun q => by
    rw [u.noted_rest]
    rfl
  have harea := fun b hb => u.noted_area hp.area_mem sig f (b := b) hb
  have halike := h.board.trans (u.noted_alike (s.pointS p).area sig f)
  have hshelf : (u.noted (s.pointS p).area sig f).shelf = u.shelf := by rw [u.noted_rest]
  change Finished s _ (s.leave u p sig f) _ _ _ _ at hdone
  generalize s.leave u p sig f = t at hdone
  generalize u.noted (s.pointS p).area sig f = w at hdone hpoint harea halike hshelf
  have hboard : ((s.withdraw p).fill (s.shownAt p)).SameBoard t := (halike.fill (s.shownAt p)).sameBoard.trans hdone.board
  have hmine := harea _ hp.area_mem
  rw [if_pos rfl, h.bumped_area hp] at hmine
  have htarea : t.area (s.pointS p).area = { w.area (s.pointS p).area with pend := (t.area (s.pointS p).area).pend } :=
    hdone.area _
  have hdefer : (t.area (s.pointS p).area).nothingDeferred = (u.area (s.pointS p).area).nothingDeferred := by
    rw [htarea, hmine]
    rfl
  have htpoint : t.point p = { x with placement := (t.point p).placement } := by
    have := hdone.point p
    rw [hpoint, h.point] at this
    exact this
  constructor
  case point => exact htpoint
  case unplaced =>
    rintro (hshown | hplace)
    · rw [(hdone.unmoved hshown).1, hpoint, h.point]
    · have hs := hplace.boardOk
      have hgone := hs.withdraw hp.point_mem
      have hheld := (fill_rearranged hgone (Part.shownAt_inRange hs hp.point_mem)).held p hp.point_mem
      rw [hboard.1 p hp.point_mem]
      exact hheld.2 (withdraw_free hp.point_mem)
  case board => exact hboard
  case area =>
    refine ⟨?_, fun hq => ?_⟩
    · refine htarea.trans ?_
      rw [hmine, ← hdefer, h.area]
    · have hshown : s.shownAt p = 0 := by unfold Part.shownAt; rw [hq]
      rw [(hdone.unmoved hshown).2, hmine]
      exact h.pend hq
  case wrote =>
    have hrecords : s.leavingRecords t p sig f = s.leavingRecords u p sig f := by
      unfold Part.leavingRecords
      dsimp only
      rw [hdefer]
    rw [hrecords]
    exact hdone.wrote
  case noticed => exact hdone.noticed
  case shelf => exact hdone.shelf.trans hshelf
  case frame =>
    refine ⟨hdone.fixed, hdone.people, ⟨fun q hq hqp => ?_, fun b hb hba => ?_⟩, hdone.moved, hdone.kept⟩
    · rw [hdone.point, hpoint, h.otherPoints q hq hqp]
    · rw [hdone.area, harea b hb, if_neg hba, h.otherAreas b hb hba]
  case tellsPoint =>
    intro hne
    refine hdone.tellsPoint p hp.point_mem ?_
    have hstate : (t.point p).state = x.state := by rw [htpoint]
    unfold pointReported
    rw [hstate]
    simp [Ne.symm hne]
  case tellsArea => exact hdone.tellsArea _ hp.area_mem

theorem Part.leave_lif (h : Leaving s u p x) (hp : s.InPlant p) (hf : f.area = (s.pointS p).area) :
    (s.leave u p sig f).lif = s.lif := Part.finish_lif (h.unfinished (sig := sig) hp hf) sig

theorem Left.answered {t : Part} (h : Left s.taken u t p x sig f) {y : Lif} (hlink : y.link = t.lif.link) :
    Left s u { t with lif := y } p x sig f where
  point := h.point
  unplaced := h.unplaced
  board := (Part.Alike.fill ((Part.Alike.taken s).withdraw p) _).sameBoard.trans h.board
  area := h.area
  wrote := Part.Wrote.answered h.wrote hlink
  noticed := h.noticed
  shelf := h.shelf
  frame := h.frame
  tellsPoint := h.tellsPoint
  tellsArea := h.tellsArea

end

end Sys2Proof.Machine
end

section
/-! The acknowledgement of a point by a request (R55 to R59). -/

namespace Sys2Proof.Machine

theorem exec_ack (u : State) : exec .ack u = onRequest .ack ackHandler u := rfl

/-! ### The acknowledgement -/

/-- R59: the fields of the ACK record. -/
def Part.ackRecord (s : Part) (d p : Nat) (button : Bool) : RecordFields :=
  { kind := .ack, area := (s.pointS p).area, desk := d, credential := (s.desk d).signedOn, point := p
    priority := (s.pointS p).priority
    value := w16 ((if button then 256 else 0) + (ackTarget (s.point p).state).code) }

/-- R57: the point after its acknowledgement, apart from its placement. -/
def Point.acked (x : Point) (now : W32) : Point :=
  { x with
    state := ackTarget x.state, occurrences := 0, lastChange := now
    firstActive := if ackTarget x.state = .normal then none else x.firstActive }

theorem ackPoint_leaving {s : Part} {p : Nat} (hp : s.InPlant p) :
    Leaving s (s.ackPoint p) p ((s.point p).acked s.now) :=
  leaving_of (g₀ := id) hp (by
    show s = { s.modPoint p id with shelf := s.shelf }
    have hid : modAt s.points p id = s.points := table_ext _ _ fun j _ _ => by rw [getAt_modAt]; split <;> rfl
    rw [Part.modPoint, hid]) (fun _ => ⟨rfl, rfl, rfl⟩) (fun _ => ⟨rfl, rfl⟩) rfl rfl

theorem Part.acknowledge_eq {s : Part} {p : Nat} (hp : s.InPlant p) (d : Nat) (button : Bool) :
    s.acknowledge d p button = s.leave (s.ackPoint p) p (s.reviewed p) (s.ackRecord d p button) := by
  have hstate : (((s.ackPoint p).bumpIf (s.reviewed p) (s.pointS p).area).point p).state = ackTarget (s.point p).state := by
    have hkeeps : ((s.ackPoint p).bumpIf (s.reviewed p) (s.pointS p).area).point p = (s.ackPoint p).point p := by
      rw [Part.bumpIf_rest]
      rfl
    rw [hkeeps, (ackPoint_leaving hp).point]
    rfl
  have hvalue : 256 * (if button then 1 else 0) = if button then 256 else 0 := by cases button <;> rfl
  have hrecord : ({ s.pointRecord .ack p with
      desk := d, credential := (s.desk d).signedOn
      value := w16 (256 * (if button then 1 else 0)
        + (((s.ackPoint p).bumpIf (s.reviewed p) (s.pointS p).area).point p).state.code) } : RecordFields) =
      s.ackRecord d p button := by
    rw [hstate, hvalue]
    rfl
  unfold Part.leave Part.noted
  rw [← hrecord]
  rfl

theorem Part.acknowledge_left {s : Part} {p : Nat} (hp : s.InPlant p) (d : Nat) (button : Bool) :
    Left s (s.ackPoint p) (s.acknowledge d p button) p ((s.point p).acked s.now) (s.reviewed p)
      (s.ackRecord d p button) := by
  rw [Part.acknowledge_eq hp]
  exact (ackPoint_leaving hp).left hp rfl

theorem Part.acknowledge_lif {s : Part} {p : Nat} (hp : s.InPlant p) (d : Nat) (button : Bool) :
    (s.acknowledge d p button).lif = s.lif := by
  rw [Part.acknowledge_eq hp]
  exact Part.leave_lif (ackPoint_leaving hp) hp rfl

theorem ackTarget_ne {st : PointState} (h : st.unacked = true) : ackTarget st ≠ st := by
  cases st <;> simp_all [ackTarget, PointState.unacked]

/-- R9: an acknowledgement that finds its point counted lowers the count of those that need one. -/
theorem Counts.unack_acked {c : Counts} (h : c.unack ≠ 0) {st : PointState} (hst : st.unacked = true) (n : Nat) :
    ((({ c with deferred := n } : Counts).dec st).inc (ackTarget st)).unack ≠ c.unack := by
  cases st <;> simp_all [ackTarget, PointState.unacked, Counts.dec, Counts.inc] <;> omega

theorem areaReported_of_unack {x y : Area} (h : y.counts.unack ≠ x.counts.unack) : areaReported x y = true := by
  have hcounts : x.counts ≠ y.counts := fun he => h (by rw [he])
  simp [areaReported, hcounts]

theorem Left.acknowledged {s u t : Part} {d p : Nat} {button : Bool}
    (h : Left s u t p ((s.point p).acked s.now) (s.reviewed p) (s.ackRecord d p button)) (hshelf : u.shelf = s.shelf)
    (hst : (s.point p).state.unacked = true) : s.Acknowledged t d p button := by
  refine ⟨h.point, h.unplaced, h.board, h.area, h.wrote, h.noticed, h.shelf.trans hshelf, h.frame,
    h.tellsPoint (ackTarget_ne hst), fun hcount => h.tellsArea (areaReported_of_unack ?_)⟩
  obtain ⟨harea, _⟩ := h.area
  rw [harea]
  exact Counts.unack_acked hcount hst _

theorem ackPoint_shelf (s : Part) (p : Nat) : (s.ackPoint p).shelf = s.shelf := by
  show (s.withdraw p).shelf = s.shelf
  rw [(withdraw_places s p).rest]

/-! ### One item of a request -/

theorem ackHandler_one {body : List Byte} (hlen : body.length = 5) {s : Part} (hdesk : isDesk (byteAt body 0) = true) :
    ackHandler body s =
      ((s.ackItem (byteAt body 0) (field16 body 1) (word16 body 3)).1,
        0 :: (s.ackItem (byteAt body 0) (field16 body 1) (word16 body 3)).2) := by
  have hi : itemOffsets 1 4 body.length = [1] := by rw [hlen]; rfl
  simp only [ackHandler, takeItemsInOrder, hi, List.foldl_cons, List.foldl_nil, hdesk, if_true, List.nil_append]
  rfl

/-- R56: the result of an ACK item. -/
def Part.ackCode (s : Part) (d p : Nat) (view : W16) : ResultCode :=
  if isPoint p = false then .badField
  else if (s.pointS p).configured = false then .badPoint
  else if (s.desk d).signedOn = 0 then .notSignedOn
  else if allows (s.topLayer d) Perm.ack.set (s.pointS p).area = false then .denied
  else if (s.area (s.pointS p).area).pdesk ≠ d then .notYourArea
  else if (s.point p).state ≠ .unack ∧ (s.point p).state ≠ .rtnUnack then .nothingToAck
  else if view ≠ (s.point p).view then .staleView
  else .ok

theorem PointState.unacked_iff (st : PointState) : st.unacked = true ↔ st = .unack ∨ st = .rtnUnack := by
  cases st <;> simp [PointState.unacked]

theorem PointState.not_unacked_iff (st : PointState) : st.unacked = false ↔ st ≠ .unack ∧ st ≠ .rtnUnack := by
  cases st <;> simp [PointState.unacked]

theorem Part.ackCheck_eq (s : Part) (d p : Nat) (view : W16) : s.ackCheck d p view = (s.ackCode d p view).failing := by
  unfold Part.ackCheck Part.ackCode
  simp only [Bool.not_eq_true', apply_ite ResultCode.failing, ← PointState.not_unacked_iff]
  rfl

/-- R55, R59: an item that is refused. -/
theorem Part.ackItem_refused {s : Part} {d p : Nat} {view : W16} {r : ResultCode} (h : s.ackCheck d p view = some r) :
    s.ackItem d p view = (s.refusePoint d p r,
      r.byte :: be16 (if r = .badField ∨ r = .badPoint then 0 else (s.point p).view.toNat)) := by
  unfold Part.ackItem
  rw [h]
  cases r <;> rfl

theorem Part.ackItem_passes {s : Part} {d p : Nat} {view : W16} (h : s.ackCheck d p view = none) :
    s.ackItem d p view =
      (s.acknowledge d p false, 0 :: be16 ((s.acknowledge d p false).point p).view.toNat) := by
  unfold Part.ackItem
  rw [h]
  rfl

/-- The codes of an ACK item that write no record. -/
theorem Part.ackCode_plain {s : Part} {d p : Nat} {view : W16} {r : ResultCode} (h : s.ackCode d p view = r)
    (h1 : r ≠ .ok) (h2 : r ≠ .denied) (h3 : r ≠ .notYourArea) (h4 : r ≠ .staleView) : r.journaled = false := by
  cases r <;> simp_all [ResultCode.journaled]

theorem Part.ackCode_unacked {s : Part} {d p : Nat} {view : W16} (h : s.ackCode d p view = .ok) :
    (s.point p).state.unacked = true := by
  by_contra hno
  rw [Bool.not_eq_true, PointState.not_unacked_iff] at hno
  unfold Part.ackCode at h
  simp only [hno, not_false_eq_true, and_self, if_true, ne_eq] at h
  split_ifs at h

/-- Settles O21: `withdraw_withdrew` for a withdrawal; `Part.acknowledge_left` says what an acknowledgement changes. -/
theorem ackItemIsCheckedAndAcknowledged : Obligations.AckItemIsCheckedAndAcknowledged := by
  refine ⟨withdraw_withdrew, ?_⟩
  intro s tag body h hlen hdesk d p code
  have hanswer := ackHandler_one hlen (s := s.taken) hdesk
  have hcheck : s.taken.ackCheck d p (word16 body 3) = code.failing := s.taken.ackCheck_eq d p (word16 body 3)
  refine ⟨fun hok hdenied harea hstale => ?_, fun hjournaled => ?_, fun hok hp => ?_⟩
  · rw [ResultCode.failing_some hok] at hcheck
    have hplain := Part.ackCode_plain (s := s) (d := d) (p := p) (view := word16 body 3) (r := code) rfl hok hdenied
      harea hstale
    refine completes_unchanged exec_ack h (hanswer.trans ?_)
    rw [Part.ackItem_refused hcheck]
    simp only [Part.refusePoint, Part.refuse_unjournaled hplain]
    rfl
  · have hne : code ≠ .ok := by rcases hjournaled with h' | h' | h' <;> rw [h'] <;> decide
    have hjournal : code.journaled = true := by rcases hjournaled with h' | h' | h' <;> rw [h'] <;> rfl
    have hview : ¬(code = .badField ∨ code = .badPoint) := by
      rcases hjournaled with h' | h' | h' <;> rw [h'] <;> decide
    rw [ResultCode.failing_some hne] at hcheck
    rw [Part.ackItem_refused hcheck, if_neg hview] at hanswer
    have hlif := s.taken.refuse_lif d (s.pointS p).area p (s.pointS p).priority code
    have honly := s.taken.refuse_onlyWrote hjournal d (s.pointS p).area p (s.pointS p).priority
    exact ⟨_, completes_answered exec_ack h hanswer hlif, rfl, honly.answered (Part.answer_link_of hlif ..)⟩
  · rw [ResultCode.failing_ok hok] at hcheck
    rw [Part.ackItem_passes hcheck] at hanswer
    have hleft := Part.acknowledge_left (s := s.taken) hp d false
    have hlif := Part.acknowledge_lif (s := s.taken) hp d false
    have hview : ((s.taken.acknowledge d p false).point p).view = (s.point p).view := by
      rw [hleft.point]
      rfl
    rw [hview] at hanswer
    exact ⟨_, completes_answered exec_ack h hanswer hlif, rfl,
      (hleft.answered (Part.answer_link_of hlif ..)).acknowledged (ackPoint_shelf ..) (Part.ackCode_unacked hok)⟩

end Sys2Proof.Machine
end

section
/-! The ACKNOWLEDGE press (R118 to R120). -/

namespace Sys2Proof.Machine

theorem mem_occupants {x : Desk} {y : Slot} : y ∈ x.occupants ↔ ∃ k ∈ numbers 4, getAt x.slots k = some y := by
  unfold Desk.occupants
  simp only [List.mem_filterMap, id_eq, exists_eq_right]
  rw [Vector.mem_toList_iff, Vector.mem_iff_getElem]
  constructor
  · rintro ⟨i, hi, hy⟩
    exact ⟨i + 1, (mem_numbers _).2 (by omega), by rw [getAt_eq _ _ (by omega)]; exact hy⟩
  · rintro ⟨k, hk, hy⟩
    have hk := (mem_numbers k).1 hk
    exact ⟨k - 1, by omega, by rw [← hy, getAt_eq _ _ hk]⟩

/-- R118: desk `d` once a press has been taken. -/
def Part.ackTaken (s : Part) (d : Nat) : Part := s.modDesk d fun x => { x with ackPresses := x.ackPresses - 1 }

theorem completes_acknowledgePress {s t : Part} {d : Nat} (hreset : s.resetLow = false) (hdesk : isDesk d = true)
    (hdue : (s.desk d).ackPresses ≠ 0) (h : (s.ackTaken d).inRunning (fun q => q.acknowledgePress d) = t) :
    Completes (.acknowledgePress d) s t :=
  completes_due (c := fun p => isDesk d && decide (0 < (p.desk d).ackPresses))
    (f := fun p => (p.ackTaken d).inRunning fun q => q.acknowledgePress d) (fun _ => rfl) hreset
    (by simp [hdesk, Nat.pos_of_ne_zero hdue]) h

/-! ### What a press finds -/

theorem acknowledgePress_idle {s : Part} {d : Nat} (h : (s.desk d).order = []) : s.acknowledgePress d = s.buttonIdle d 1 := by
  have hnone : s.mostUrgent d = none := by unfold Part.mostUrgent; rw [h]; rfl
  unfold Part.acknowledgePress
  rw [hnone]

/-- R119, R120: a press at a desk whose most urgent slot is `k`. -/
theorem acknowledgePress_slot {s : Part} {d k : Nat} {x : Slot} (hmost : s.mostUrgent d = some k)
    (hx : getAt (s.desk d).slots k = some x) : s.acknowledgePress d =
      if allows (s.topLayer d) Perm.ack.set (s.pointS x.point).area = false then s.refusePoint d x.point .denied
      else if x.view = (s.point x.point).view then s.acknowledge d x.point true
      else s.stalePress d k x.point := by
  unfold Part.acknowledgePress
  simp only [hmost, hx, Bool.not_eq_true']

/-! ### A stale press (R106, R120) -/

/-- R106: the slot refreshed. -/
def Slot.refreshed (x : Slot) (view : W16) : Slot := { x with view := view, silenced := false }

theorem refreshSlot_desk {s : Part} {d k : Nat} {x : Slot} (hd : d ∈ numbers 6) (hx : getAt (s.desk d).slots k = some x) :
    (s.refreshSlot d k).desk d =
      { s.desk d with slots := setAt (s.desk d).slots k (some (x.refreshed (s.point x.point).view)) } := by
  unfold Part.refreshSlot
  rw [Part.modDesk_desk_same _ _ hd, modAt, hx]
  rfl

theorem refreshSlot_sounding {s : Part} {d k : Nat} {x : Slot} (hd : d ∈ numbers 6)
    (hx : getAt (s.desk d).slots k = some x) : ((s.refreshSlot d k).desk d).hornFromSlots = .sounding := by
  have hk : k ∈ numbers 4 := by
    by_contra hno
    rw [getAt_outside _ hno] at hx
    cases hx
  rw [refreshSlot_desk hd hx]
  refine (Desk.hornFromSlots_sounding _).2 ⟨x.refreshed (s.point x.point).view, mem_occupants.2 ⟨k, hk, ?_⟩, rfl⟩
  exact (getAt_setAt ..).trans (if_pos ⟨rfl, (mem_numbers k).1 hk⟩)

/-- R120: what a stale press has made of the part. -/
structure StalePressed (s t : Part) (d k : Nat) (x : Slot) : Prop where
  desk : t.desk d =
    { s.desk d with
      slots := setAt (s.desk d).slots k (some (x.refreshed (s.point x.point).view)), horn := .sounding
      hornPattern := (t.desk d).hornPattern }
  moved : s.HornMoved t d
  event : DeskEvent s t d
    (s.records [(false, s.generationOf (s.pointS x.point).area,
      { kind := .stalePress, area := (s.pointS x.point).area, desk := d, credential := (s.desk d).signedOn
        point := x.point, priority := (s.pointS x.point).priority, value := (s.point x.point).view })]) []
  told : t.Told (deskEntry d)

theorem stalePress_pressed {s : Part} {d k : Nat} {x : Slot} (hd : d ∈ numbers 6) (hx : getAt (s.desk d).slots k = some x)
    (hstale : x.view ≠ (s.point x.point).view) : StalePressed s (s.stalePress d k x.point) d k x := by
  have hdesk := refreshSlot_desk hd hx
  have hsounding := refreshSlot_sounding hd hx
  have hk : k ∈ numbers 4 := by
    by_contra hno
    rw [getAt_outside _ hno] at hx
    cases hx
  have hjournal := Part.Journals.write (Part.Journals.start (s := s) (v := s.refreshSlot d k) rfl rfl rfl) false
    { s.pointRecord .stalePress x.point with
      desk := d, credential := (s.desk d).signedOn, value := (s.point x.point).view }
  have hother : ∀ e, e ≠ d → (s.refreshSlot d k).desk e = s.desk e := fun e he => s.modDesk_desk_ne _ he
  have hrest : s.refreshSlot d k = { s with desks := (s.refreshSlot d k).desks } := rfl
  have hgen : (s.refreshSlot d k).generationOf (s.pointS x.point).area = s.generationOf (s.pointS x.point).area := rfl
  unfold Part.stalePress
  generalize s.refreshSlot d k = u at hdesk hsounding hjournal hother hrest hgen
  have hdeskw : ∀ e, (u.write false { s.pointRecord .stalePress x.point with
      desk := d, credential := (s.desk d).signedOn, value := (s.point x.point).view }).desk e = u.desk e := fun _ => rfl
  have hwrest := Part.write_rest u false { s.pointRecord .stalePress x.point with
    desk := d, credential := (s.desk d).signedOn, value := (s.point x.point).view }
  generalize u.write false { s.pointRecord .stalePress x.point with
    desk := d, credential := (s.desk d).signedOn, value := (s.point x.point).view } = w at hjournal hdeskw hwrest
  have hwdesk := hdesk
  rw [← hdeskw] at hwdesk hsounding
  constructor
  case desk => rw [closeEvent_desk_horn s w [] hd, Part.hornAfter_sounding hsounding, hwdesk]
  case moved => exact closeEvent_hornMoved [] d hd (by rw [hwdesk]) (by rw [hwdesk])
  case event =>
    refine closeEvent_deskEvent [] (by rw [hwrest, hrest]) (fun e he => (hdeskw e).trans (hother e he)) ?_
      hjournal.reports hjournal.dropped
    have := hjournal.recorded
    rw [show ({ s.pointRecord .stalePress x.point with
      desk := d, credential := (s.desk d).signedOn, value := (s.point x.point).view } : RecordFields).area =
        (s.pointS x.point).area from rfl, hgen] at this
    exact this
  case told =>
    refine closeEvent_tells_desk hd (.inl ?_)
    obtain ⟨h1, h2⟩ := (mem_numbers d).1 hd
    have hslots : (s.desk d).slots ≠ ((w.refreshHorns).desk d).slots := by
      rw [w.refreshHorns_desk d h1 h2, hwdesk]
      intro heq
      have hget := congrArg (getAt · k) heq
      dsimp only at hget
      rw [hx, getAt_setAt, if_pos ⟨rfl, (mem_numbers k).1 hk⟩] at hget
      exact hstale (congrArg Slot.view (Option.some.inj hget))
    simp [deskReported, hslots]

/-! ### The press -/

theorem ackTaken_desk (s : Part) {d : Nat} (hd : d ∈ numbers 6) :
    (s.ackTaken d).desk d = { s.desk d with ackPresses := (s.desk d).ackPresses - 1 } := s.modDesk_desk_same _ hd

/-- Taking a press moves nothing at the desk. -/
theorem ackTaken_alike (s : Part) (d : Nat) : s.Alike (s.ackTaken d) := .keepDesk s d _ fun _ => ⟨rfl, rfl, rfl⟩

theorem ackTaken_mostUrgent {s : Part} {d k : Nat} (hd : d ∈ numbers 6) (hk : k ∈ (s.desk d).order)
    (hmost : ∀ j ∈ (s.desk d).order, s.slotPriority d k < s.slotPriority d j
      ∨ s.slotPriority d k = s.slotPriority d j ∧ (s.desk d).order.idxOf k ≤ (s.desk d).order.idxOf j) :
    (s.ackTaken d).mostUrgent d = some k := by
  have horder : ((s.ackTaken d).desk d).order = (s.desk d).order := by rw [ackTaken_desk s hd]
  refine mostUrgent_of (by rw [horder]; exact hk) fun j hj => ?_
  rw [horder] at hj ⊢
  rw [← (ackTaken_alike s d).slotPriority, ← (ackTaken_alike s d).slotPriority]
  exact hmost j hj

/-- Settles O22: `acknowledgePress_slot` with what each of its three outcomes changes. -/
theorem acknowledgePressActsOnTheMostUrgentSlot : Obligations.AcknowledgePressActsOnTheMostUrgentSlot := by
  intro s d hreset hdesk hdue u c
  have hd := (isDesk_iff d).1 hdesk
  have hdeskU : u.desk d = { s.desk d with ackPresses := (s.desk d).ackPresses - 1 } := ackTaken_desk s hd
  have htake : ∀ {t : Part}, s.phase = .running → u.acknowledgePress d = t → Completes (.acknowledgePress d) s t :=
    fun hrun ht => completes_acknowledgePress hreset hdesk hdue (by rw [Part.inRunning_eq]; exact (if_pos hrun).trans ht)
  refine ⟨fun hrun => ?_, fun hrun hempty => ?_, ?_⟩
  · exact completes_acknowledgePress hreset hdesk hdue (by rw [Part.inRunning_eq]; exact if_neg hrun)
  · have hidle := acknowledgePress_idle (s := u) (d := d) (by rw [hdeskU]; exact hempty)
    have honly := u.buttonIdle_onlyWrote d 1
    rw [hdeskU] at honly
    exact ⟨_, htake hrun hidle, u.buttonIdle_lif d 1, honly⟩
  · intro k x hrun hk hx hmost hp a named
    have hxU : getAt (u.desk d).slots k = some x := by rw [hdeskU]; exact hx
    have hslot := acknowledgePress_slot (s := u) (ackTaken_mostUrgent hd hk hmost) hxU
    have hpU : u.InPlant x.point := hp
    have htop : u.topLayer d = s.topLayer d := by unfold Part.topLayer; rw [hdeskU]
    have hcred : (u.desk d).signedOn = c := by rw [hdeskU]
    have ha : a ≠ 0 := Nat.ne_zero_of_lt ((mem_numbers _).1 hp.area_mem).1
    have hgen : u.generationOf a = (s.area a).generation := Part.generationOf_pos u ha
    rw [htop] at hslot
    refine ⟨fun hdenied => ?_, fun hmay hview hst => ?_, fun hmay hview => ?_⟩
    · have honly := u.refuse_onlyWrote (r := .denied) rfl d a x.point (s.pointS x.point).priority
      rw [hgen, hcred] at honly
      exact ⟨_, htake hrun (hslot.trans (if_pos hdenied)), u.refuse_lif .., honly⟩
    · refine ⟨_, htake hrun (hslot.trans ((if_neg (ne_false_of_eq_true hmay)).trans (if_pos hview))),
        Part.acknowledge_lif hpU d true, ?_⟩
      exact (Part.acknowledge_left hpU d true).acknowledged (ackPoint_shelf ..) ((PointState.unacked_iff _).2 hst)
    · obtain ⟨hdeskT, hmoved, hevent, htold⟩ := stalePress_pressed (s := u) hd hxU hview
      refine ⟨_, htake hrun (hslot.trans ((if_neg (ne_false_of_eq_true hmay)).trans (if_neg hview))), closeEvent_lif .., ?_,
        ?_, hmoved, hevent.fixed, hevent.people, hevent.points, hevent.areas, hevent.shelf, hevent.sessions,
        fun e he hne => (hevent.others e he hne).congr (s.modDesk_desk_ne _ hne), htold⟩
      · have hwrote := hevent.wrote
        rw [hcred, show u.generationOf (u.pointS x.point).area = _ from hgen] at hwrote
        exact hwrote
      · rw [hdeskT, hdeskU]
        rfl

end Sys2Proof.Machine
end

section
/-! The checks of SHELVE, UNSHELVE, REMOVE and RESTORE (R70, R74, R77, R78). -/

namespace Sys2Proof.Machine

theorem exec_shelve (u : State) : exec .shelve u = onRequest .shelve shelveHandler u := rfl
theorem exec_unshelve (u : State) :
    exec .unshelve u = onRequest .unshelve (Part.returnRequest .unshelve .shelved .unshelve) u := rfl
theorem exec_remove (u : State) : exec .remove u = onRequest .remove removeHandler u := rfl
theorem exec_restore (u : State) :
    exec .restore u = onRequest .restore (Part.returnRequest .restore .removed .restore) u := rfl

/-! ### The result codes -/

/-- R70, R74, R77, R78: the result of a request of one of the four kinds. -/
def Part.outCode (s : Part) (k : ReqKind) (d p minutes : Nat) : ResultCode :=
  let perm : Perm := if k = .shelve then .shelve else if k = .unshelve then .unshelve
    else if k = .remove then .remove else .restore
  let st := (s.point p).state
  if isDesk d = false ∨ isPoint p = false ∨ (k = .shelve ∧ minutes = 0) then .badField
  else if (s.pointS p).configured = false then .badPoint
  else if (s.desk d).signedOn = 0 then .notSignedOn
  else if allows (s.topLayer d) perm.set (s.pointS p).area = false then .denied
  else if (s.area (s.pointS p).area).pdesk ≠ d then .notYourArea
  else if k = .shelve ∧ (s.pointS p).shelfLimit = 0 then .notShelvable
  else if k = .shelve ∧ st = .removed then .wrongState
  else if k = .shelve ∧ st ≠ .shelved ∧ (∀ n ∈ numbers 96, getAt s.shelf n ≠ none) then .noShelfSlot
  else if k = .unshelve ∧ st ≠ .shelved then .wrongState
  else if k = .restore ∧ st ≠ .removed then .wrongState
  else if k = .remove ∧ st = .removed then .repeated
  else .ok

theorem ite_some_or (c : Prop) [Decidable c] (r : ResultCode) (x y : Option ResultCode) :
    (if c then some r else x).or y = if c then some r else x.or y := by
  split <;> rfl

theorem freeShelf_eq_none (s : Part) : s.freeShelf = none ↔ ∀ n ∈ numbers 96, getAt s.shelf n ≠ none := by
  unfold Part.freeShelf
  rw [List.find?_eq_none]
  simp only [Option.isNone_iff_eq_none]

theorem Part.actCheck_or (s : Part) (d p : Nat) (perm : Perm) (badMinutes : Bool) (x : Option ResultCode) :
    (s.actCheck d p perm badMinutes).or x =
      if isDesk d = false ∨ isPoint p = false ∨ badMinutes = true then some .badField
      else if (s.pointS p).configured = false then some .badPoint
      else if (s.desk d).signedOn = 0 then some .notSignedOn
      else if allows (s.topLayer d) perm.set (s.pointS p).area = false then some .denied
      else if (s.area (s.pointS p).area).pdesk ≠ d then some .notYourArea
      else x := by
  unfold Part.actCheck
  simp only [ite_some_or, Option.none_or, Bool.or_eq_true, Bool.not_eq_true', or_assoc]

theorem Part.shelveCheck_eq (s : Part) (d p minutes : Nat) :
    s.shelveCheck d p minutes = (s.outCode .shelve d p minutes).failing := by
  have hor : s.shelveCheck d p minutes = (s.actCheck d p .shelve (minutes == 0)).or
      (if (s.pointS p).shelfLimit = 0 then some .notShelvable
      else if (s.point p).state = .removed then some .wrongState
      else if (s.point p).state ≠ .shelved ∧ s.freeShelf = none then some .noShelfSlot
      else none) := by
    unfold Part.shelveCheck
    cases s.actCheck d p .shelve (minutes == 0) <;> rfl
  rw [hor, Part.actCheck_or]
  unfold Part.outCode
  simp only [apply_ite ResultCode.failing, if_true, true_and, beq_iff_eq, freeShelf_eq_none, reduceCtorEq, false_and,
    if_false]
  rfl

theorem Part.returnCheck_or (s : Part) (d p : Nat) (perm : Perm) (st : PointState) :
    s.returnCheck d p perm st = (s.actCheck d p perm false).or
      (if (s.point p).state ≠ st then some .wrongState else none) := by
  unfold Part.returnCheck
  rw [ite_not]
  cases s.actCheck d p perm false <;> rfl

theorem Part.unshelveCheck_eq (s : Part) (d p minutes : Nat) :
    s.returnCheck d p .unshelve .shelved = (s.outCode .unshelve d p minutes).failing := by
  rw [Part.returnCheck_or, Part.actCheck_or]
  unfold Part.outCode
  simp only [apply_ite ResultCode.failing, if_true, true_and, reduceCtorEq, false_and, if_false, or_false,
    Bool.false_eq_true]
  rfl

theorem Part.restoreCheck_eq (s : Part) (d p minutes : Nat) :
    s.returnCheck d p .restore .removed = (s.outCode .restore d p minutes).failing := by
  rw [Part.returnCheck_or, Part.actCheck_or]
  unfold Part.outCode
  simp only [apply_ite ResultCode.failing, true_and, reduceCtorEq, false_and, if_false, or_false,
    Bool.false_eq_true]
  rfl

theorem Part.removeCheck_eq (s : Part) (d p minutes : Nat) :
    s.removeCheck d p = (s.outCode .remove d p minutes).failing := by
  have hor : s.removeCheck d p = (s.actCheck d p .remove false).or
      (if (s.point p).state = .removed then some .repeated else none) := by
    unfold Part.removeCheck
    cases s.actCheck d p .remove false <;> rfl
  rw [hor, Part.actCheck_or]
  unfold Part.outCode
  simp only [apply_ite ResultCode.failing, if_true, true_and, reduceCtorEq, false_and, if_false, or_false,
    Bool.false_eq_true]
  rfl

/-! ### The answers -/

/-- R79: what a request that acts upon a point answers, by its check. -/
theorem completes_checked {c : Instr} {k : ReqKind} {f : Handler} {s : Part} {tag : Byte} {body : List Byte} {d p : Nat}
    {code : ResultCode} (hexec : ∀ u, exec c u = onRequest k f u) (h : s.Takes k tag body)
    (hfails : ∀ r, code.failing = some r → f body s.taken = (s.taken.refusePoint d p r, [r.byte]))
    (hpasses : code.failing = none → (f body s.taken).1.lif = s.taken.lif ∧ ∃ reply, (f body s.taken).2 = 0 :: reply) :
    (∃ (t : Part) (reply : List Byte), Completes c s t ∧ t.lif = s.answer k tag (code.byte :: reply))
    ∧ (code.journaled = true →
      ∃ t : Part, Completes c s t ∧ t.lif = s.answer k tag [code.byte]
        ∧ s.OnlyWrote t (s.records [(false, s.generationOf (s.pointS p).area,
            { kind := .refusal, area := (s.pointS p).area, desk := d, credential := (s.desk d).signedOn, point := p
              priority := (s.pointS p).priority, value := w16 code.code })]))
    ∧ (code ≠ .ok → code.journaled = false → Completes c s { s with lif := s.answer k tag [code.byte] }) := by
  refine ⟨?_, fun hjournal => ?_, fun hne hplain => ?_⟩
  · by_cases hok : code = .ok
    · obtain ⟨hlif, reply, hreply⟩ := hpasses (ResultCode.failing_ok hok)
      rw [hok]
      have hanswer : f body s.taken = ((f body s.taken).1, 0 :: reply) := by rw [← hreply]
      exact ⟨_, reply, completes_answered hexec h hanswer hlif, rfl⟩
    · have hanswer := hfails code (ResultCode.failing_some hok)
      exact ⟨_, [], completes_answered hexec h hanswer (s.taken.refuse_lif ..), rfl⟩
  · have hne : code ≠ .ok := fun he => by rw [he] at hjournal; cases hjournal
    have hanswer := hfails code (ResultCode.failing_some hne)
    have hlif := s.taken.refuse_lif d (s.pointS p).area p (s.pointS p).priority code
    have honly := s.taken.refuse_onlyWrote hjournal d (s.pointS p).area p (s.pointS p).priority
    exact ⟨_, completes_answered hexec h hanswer hlif, rfl, honly.answered (Part.answer_link_of hlif ..)⟩
  · refine completes_unchanged hexec h ((hfails code (ResultCode.failing_some hne)).trans ?_)
    simp only [Part.refusePoint, Part.refuse_unjournaled hplain]

theorem shelveHandler_fails {s : Part} {body : List Byte} {r : ResultCode}
    (h : s.shelveCheck (byteAt body 0) (field16 body 1) (field16 body 3) = some r) :
    shelveHandler body s = (s.refusePoint (byteAt body 0) (field16 body 1) r, [r.byte]) := by
  unfold shelveHandler
  simp only [h]
  rfl

theorem shelveHandler_passes {s : Part} {body : List Byte}
    (h : s.shelveCheck (byteAt body 0) (field16 body 1) (field16 body 3) = none) :
    shelveHandler body s =
      (s.shelve (byteAt body 0) (field16 body 1) (min (field16 body 3) (s.pointS (field16 body 1)).shelfLimit),
        0 :: be16 (min (field16 body 3) (s.pointS (field16 body 1)).shelfLimit)
          ++ [byteOf (s.shelfFor (field16 body 1))]) := by
  unfold shelveHandler
  simp only [h]
  rfl

theorem returnRequest_fails {s : Part} {perm : Perm} {st : PointState} {k : JKind} {body : List Byte} {r : ResultCode}
    (h : s.returnCheck (byteAt body 0) (field16 body 1) perm st = some r) :
    Part.returnRequest perm st k body s = (s.refusePoint (byteAt body 0) (field16 body 1) r, [r.byte]) := by
  unfold Part.returnRequest
  simp only [h]
  rfl

theorem returnRequest_passes {s : Part} {perm : Perm} {st : PointState} {k : JKind} {body : List Byte}
    (h : s.returnCheck (byteAt body 0) (field16 body 1) perm st = none) :
    Part.returnRequest perm st k body s =
      (s.returnEvent k (byteAt body 0) (s.desk (byteAt body 0)).signedOn (field16 body 1),
        (s.returnEvent k (byteAt body 0) (s.desk (byteAt body 0)).signedOn (field16 body 1)).returnReply
          (field16 body 1)) := by
  unfold Part.returnRequest
  simp only [h]

theorem removeHandler_fails {s : Part} {body : List Byte} {r : ResultCode}
    (h : s.removeCheck (byteAt body 0) (field16 body 1) = some r) :
    removeHandler body s = (s.refusePoint (byteAt body 0) (field16 body 1) r, [r.byte]) := by
  unfold removeHandler
  simp only [h]
  rfl

theorem removeHandler_passes {s : Part} {body : List Byte}
    (h : s.removeCheck (byteAt body 0) (field16 body 1) = none) :
    removeHandler body s = (s.removePoint (byteAt body 0) (field16 body 1), [0]) := by
  unfold removeHandler
  simp only [h]
  rfl

theorem ite_ne_staleView {c : Prop} [Decidable c] {x y : ResultCode} (hx : x ≠ .staleView) (hy : y ≠ .staleView) :
    (if c then x else y) ≠ .staleView := by
  split
  exacts [hx, hy]

/-- The codes of these requests that write no record. -/
theorem Part.outCode_plain {s : Part} {k : ReqKind} {d p minutes : Nat} {r : ResultCode}
    (h : s.outCode k d p minutes = r) (h1 : r ≠ .denied) (h2 : r ≠ .notYourArea) : r.journaled = false := by
  have hstale : r ≠ .staleView := by
    rw [← h]
    unfold Part.outCode
    dsimp only
    repeat' refine ite_ne_staleView ?_ ?_
    all_goals decide
  cases r <;> simp_all [ResultCode.journaled]

/-- Settles O25: the four checks as one code, and `completes_checked` for each kind. -/
theorem shelvingRequestsAreCheckedInOrder : Obligations.ShelvingRequestsAreCheckedInOrder := by
  intro s k tag body h hk d p perm st code
  suffices hdone : (∃ (t : Part) (reply : List Byte), Completes k.command s t ∧ t.lif = s.answer k tag (code.byte :: reply))
      ∧ (code.journaled = true →
        ∃ t : Part, Completes k.command s t ∧ t.lif = s.answer k tag [code.byte]
          ∧ s.OnlyWrote t (s.records [(false, s.generationOf (s.pointS p).area,
              { kind := .refusal, area := (s.pointS p).area, desk := d, credential := (s.desk d).signedOn, point := p
                priority := (s.pointS p).priority, value := w16 code.code })]))
      ∧ (code ≠ .ok → code.journaled = false → Completes k.command s { s with lif := s.answer k tag [code.byte] }) by
    obtain ⟨hany, hjournaled, hplain⟩ := hdone
    refine ⟨hany, fun hcode => hjournaled ?_, fun h1 h2 h3 => hplain h1 ?_⟩
    · rcases hcode with h' | h' <;> rw [h'] <;> rfl
    · exact Part.outCode_plain (s := s) (k := k) (d := d) (p := p) (minutes := field16 body 3) rfl h2 h3
  obtain rfl | rfl | rfl | rfl : k = .shelve ∨ k = .unshelve ∨ k = .remove ∨ k = .restore := by simpa using hk
  · have hcheck := s.taken.shelveCheck_eq d p (field16 body 3)
    exact completes_checked exec_shelve h (fun r hr => shelveHandler_fails (hcheck.trans hr)) fun hok =>
      ⟨(event_shelve (auth := true) body s.taken).lif, _, congrArg Prod.snd (shelveHandler_passes (hcheck.trans hok))⟩
  · have hcheck := s.taken.unshelveCheck_eq d p (field16 body 3)
    exact completes_checked exec_unshelve h (fun r hr => returnRequest_fails (hcheck.trans hr)) fun hok =>
      ⟨(event_return (auth := true) _ _ _ body s.taken).lif, _,
        congrArg Prod.snd (returnRequest_passes (hcheck.trans hok))⟩
  · have hcheck := s.taken.removeCheck_eq d p (field16 body 3)
    exact completes_checked exec_remove h (fun r hr => removeHandler_fails (hcheck.trans hr)) fun hok =>
      ⟨(event_remove (auth := true) body s.taken).lif, _, congrArg Prod.snd (removeHandler_passes (hcheck.trans hok))⟩
  · have hcheck := s.taken.restoreCheck_eq d p (field16 body 3)
    exact completes_checked exec_restore h (fun r hr => returnRequest_fails (hcheck.trans hr)) fun hok =>
      ⟨(event_return (auth := true) _ _ _ body s.taken).lif, _,
        congrArg Prod.snd (returnRequest_passes (hcheck.trans hok))⟩

end Sys2Proof.Machine
end

section
/-! SHELVE and REMOVE (R70 to R72, R77): a point that goes out of annunciation, and an extension of its shelving. -/

namespace Sys2Proof.Machine

theorem Part.modPoint_id (s : Part) (p : Nat) : s.modPoint p id = s := by
  have hid : modAt s.points p id = s.points := table_ext _ _ fun j _ _ => by
    rw [getAt_modAt]
    split <;> rfl
  rw [Part.modPoint, hid]

/-! ### Into a shelf slot (R71) -/

/-- R69: slot `k` of the shelf taken for point `p`. -/
def Part.shelfTaken (s : Part) (d p granted k : Nat) : Part :=
  { s with shelf := setAt s.shelf k (some { point := p, desk := d, timer := { remaining := granted * 60, due := false } }) }

/-- R79: the fields of the SHELVE record. -/
def Part.shelveRecord (s : Part) (d p granted : Nat) (flags : Byte) : RecordFields :=
  { s.pointRecord .shelve p with
    desk := d, credential := (s.desk d).signedOn, value := w16 granted, flags := flags }

/-- R71: the part without point `p`, which is SHELVED. -/
def Part.shelvedAway (s : Part) (d p granted k : Nat) : Part :=
  (((s.shelfTaken d p granted k).withdraw p).changeState p .shelved).modPoint p fun x => { x with shelfSlot := some k }

theorem Part.shelveIn_eq (s : Part) (d p granted k : Nat) : s.shelveIn d p granted k =
    s.leave (s.shelvedAway d p granted k) p true
      (s.shelveRecord d p granted (if (s.point p).state.unacked then flagAckDropped else 0)) := rfl

theorem Part.shelvedAway_leaving {s : Part} {p : Nat} (hp : s.InPlant p) (d granted k : Nat) :
    Leaving s (s.shelvedAway d p granted k) p
      { s.point p with state := .shelved, lastChange := s.now, shelfSlot := some k } :=
  leaving_of (g₀ := id) hp (by rw [Part.modPoint_id]; rfl) (fun _ => ⟨rfl, rfl, rfl⟩) (fun _ => ⟨rfl, rfl⟩) rfl rfl

theorem Part.shelvedAway_shelf (s : Part) (d p granted k : Nat) : (s.shelvedAway d p granted k).shelf =
    setAt s.shelf k (some { point := p, desk := d, timer := { remaining := granted * 60, due := false } }) := by
  show ((s.shelfTaken d p granted k).withdraw p).shelf = _
  rw [(withdraw_places _ p).rest]
  rfl

theorem Left.shelved {s t : Part} {d p granted k : Nat}
    (h : Left s (s.shelvedAway d p granted k) t p
      { s.point p with state := .shelved, lastChange := s.now, shelfSlot := some k } true
      (s.shelveRecord d p granted (if (s.point p).state.unacked then flagAckDropped else 0)))
    (hst : (s.point p).state ≠ .shelved) : s.Shelved t d p granted k := by
  refine ⟨h.shelf.trans (s.shelvedAway_shelf ..), h.point, h.unplaced, h.board, h.area, h.wrote, h.noticed, h.frame,
    h.tellsPoint (Ne.symm hst), h.tellsArea (areaReported_of_generation ?_)⟩
  obtain ⟨harea, _⟩ := h.area
  rw [harea]
  rfl

theorem Part.shelveIn_shelved {s : Part} {p : Nat} (hp : s.InPlant p) (hst : (s.point p).state ≠ .shelved)
    (d granted k : Nat) : s.Shelved (s.shelveIn d p granted k) d p granted k := by
  rw [Part.shelveIn_eq]
  exact Left.shelved ((Part.shelvedAway_leaving hp d granted k).left hp rfl) hst

theorem Part.shelveIn_lif {s : Part} {p : Nat} (hp : s.InPlant p) (d granted k : Nat) :
    (s.shelveIn d p granted k).lif = s.lif := by
  rw [Part.shelveIn_eq]
  exact Part.leave_lif (Part.shelvedAway_leaving hp d granted k) hp rfl

theorem Part.Shelved.answered {s t : Part} {d p granted k : Nat} (h : s.taken.Shelved t d p granted k) {x : Lif}
    (hlink : x.link = t.lif.link) : s.Shelved { t with lif := x } d p granted k := by
  obtain ⟨hshelf, hpoint, hgone, hboard, harea, hwrote, hnoticed, hframe, htold, htoldArea⟩ := h
  exact ⟨hshelf, hpoint, hgone, (Part.Alike.fill ((Part.Alike.taken s).withdraw p) _).sameBoard.trans hboard, harea,
    Part.Wrote.answered hwrote hlink, hnoticed, hframe, htold, htoldArea⟩

/-! ### An extension (R72) -/

/-- R72: the part with the shelving extended and recorded. -/
def Part.extended (s : Part) (d p granted k : Nat) : Part :=
  (((s.shelfTaken d p granted k).modPoint p fun x => { x with lastChange := s.now }).bump (s.pointS p).area).write true
    (s.shelveRecord d p granted flagExtension)

theorem Part.extendShelf_eq (s : Part) (d p granted k : Nat) : s.extendShelf d p granted k =
    closeEvent s [pointEntry p] ((s.extended d p granted k).notify (s.pointS p).area) := rfl

theorem Part.extendShelf_lif (s : Part) (d p granted k : Nat) : (s.extendShelf d p granted k).lif = s.lif := by
  rw [Part.extendShelf_eq, closeEvent_lif, Part.notify_rest]
  rfl

theorem Part.extendShelf_extended {s : Part} {p : Nat} (hp : s.InPlant p) (d granted k : Nat) :
    s.Extended (s.extendShelf d p granted k) d p granted k := by
  have ha := hp.area_mem
  have hpoint : ∀ q ∈ numbers 1024, (s.extended d p granted k).point q =
      if q = p then { s.point q with lastChange := s.now } else s.point q := fun q hq =>
    Part.modPoint_point_of (s.shelfTaken d p granted k) p _ hq
  have harea : ∀ b ∈ numbers 16, (s.extended d p granted k).area b =
      if b = (s.pointS p).area then { s.area b with generation := (s.area b).generation + 1 } else s.area b := fun b hb =>
    Part.modArea_area_of ((s.shelfTaken d p granted k).modPoint p _) _ _ hb
  have hgen : ((s.extended d p granted k).area (s.pointS p).area).generation =
      (s.area (s.pointS p).area).generation + 1 := by
    rw [harea _ ha, if_pos rfl]
  have hjournals : s.Journals (s.extended d p granted k) [(true, (s.area (s.pointS p).area).generation + 1,
      s.shelveRecord d p granted flagExtension)] := by
    have hwrite := Part.Journals.write (Part.Journals.start (s := s)
      (v := ((s.shelfTaken d p granted k).modPoint p fun x => { x with lastChange := s.now }).bump (s.pointS p).area)
      rfl rfl rfl) true (s.shelveRecord d p granted flagExtension)
    have hwhere : (s.shelveRecord d p granted flagExtension).area = (s.pointS p).area := rfl
    rw [hwhere, Part.generationOf_pos _ (Nat.ne_zero_of_lt ((mem_numbers _).1 ha).1)] at hwrite
    rw [← hgen]
    exact hwrite
  have hrest : s.extended d p granted k =
      { s with
        shelf := (s.extended d p granted k).shelf, points := (s.extended d p granted k).points
        areas := (s.extended d p granted k).areas, rst := (s.extended d p granted k).rst } := rfl
  have hshelf : (s.extended d p granted k).shelf =
      setAt s.shelf k (some { point := p, desk := d, timer := { remaining := granted * 60, due := false } }) := rfl
  rw [Part.extendShelf_eq]
  have hnotify := Part.notify_rest (s.extended d p granted k) (s.pointS p).area
  have hnotice := fun n hn => Part.notify_session (s.extended d p granted k) (s.pointS p).area n hn
  generalize s.extended d p granted k = u at hpoint harea hgen hjournals hrest hshelf hnotify hnotice
  generalize u.notify (s.pointS p).area = v at hnotify hnotice
  have hvarea : ∀ b ∈ numbers 16, v.area b = u.area b := fun b _ => by rw [hnotify]; rfl
  have htarea : (closeEvent s [pointEntry p] v).area (s.pointS p).area =
      { s.area (s.pointS p).area with generation := (s.area (s.pointS p).area).generation + 1 } := by
    rw [closeEvent_area, hvarea _ ha, harea _ ha, if_pos rfl]
  refine ⟨?_, ?_, htarea, ?_, fun n hn => ?_, ⟨?_, ?_, ⟨fun q hq hqp => ?_, fun b hb hba => ?_⟩, fun e he => ?_⟩, ?_, ?_⟩
  · rw [closeEvent_shelf, hnotify, hshelf]
  · rw [closeEvent_point]
    have hsame : v.point p = u.point p := by rw [hnotify]; rfl
    rw [hsame, hpoint p hp.point_mem, if_pos rfl]
  · refine Part.Journals.close (hjournals.quiet ?_ ?_ ?_) [pointEntry p]
    · rw [hnotify]
    · rw [hnotify]; rfl
    · rw [hnotify]; rfl
  · rw [closeEvent_session, hnotice n hn, harea _ ha, if_pos rfl, hrest]
    simp only [true_and]
    rfl
  · refine ⟨?_, ?_, ?_, ?_, ?_⟩
    · rw [closeEvent_resetLow, hnotify, hrest]
    · rw [closeEvent_phase, hnotify, hrest]
    · rw [closeEvent_staged, hnotify, hrest]
    · rw [closeEvent_live, hnotify, hrest]
    · rw [closeEvent_tset, hnotify, hrest]
  · refine ⟨?_, ?_⟩
    · rw [closeEvent_credDesk, hnotify, hrest]
    · rw [closeEvent_groups, hnotify, hrest]
  · have hsame : v.point q = u.point q := by rw [hnotify]; rfl
    rw [closeEvent_point, hsame, hpoint q hq, if_neg hqp]
  · rw [closeEvent_area, hvarea b hb, harea b hb, if_neg hba]
  · exact closeEvent_deskKept _ he (by rw [hnotify, hrest]; rfl)
  · exact closeEvent_told s _ v _ ((mem_eventReports_iff ..).2 (.inl ⟨rfl, hp.point_mem, .inr List.mem_cons_self⟩))
  · refine closeEvent_tells_area _ ha (areaReported_of_generation ?_)
    rw [← closeEvent_area s v [pointEntry p], htarea]

theorem Part.Extended.answered {s t : Part} {d p granted k : Nat} (h : s.taken.Extended t d p granted k) {x : Lif}
    (hlink : x.link = t.lif.link) : s.Extended { t with lif := x } d p granted k := by
  obtain ⟨hshelf, hpoint, harea, hwrote, hnoticed, hframe, htold, htoldArea⟩ := h
  exact ⟨hshelf, hpoint, harea, Part.WroteAnd.answered hwrote hlink, hnoticed, hframe, htold, htoldArea⟩

/-! ### Out of service (R77) -/

/-- R69, R77: the part without point `p`, which is REMOVED. -/
def Part.removedAway (s : Part) (p : Nat) : Part := ((s.freeShelfOf p).withdraw p).changeState p .removed

/-- R79: the fields of the REMOVE record. -/
def Part.removeRecord (s : Part) (d p : Nat) : RecordFields :=
  { s.pointRecord .remove p with
    desk := d, credential := (s.desk d).signedOn, value := w16 (s.point p).state.code
    flags := if (s.point p).state.unacked then flagAckDropped else 0 }

theorem Part.removePoint_eq (s : Part) (d p : Nat) :
    s.removePoint d p = s.leave (s.removedAway p) p true (s.removeRecord d p) := rfl

theorem Part.freeShelfOf_eq (s : Part) (p : Nat) : s.freeShelfOf p =
    { s.modPoint p (fun x => { x with shelfSlot := none }) with shelf := (s.freeShelfOf p).shelf } := by
  unfold Part.freeShelfOf
  cases (s.point p).shelfSlot <;> rfl

theorem Part.freeShelfOf_shelf (s : Part) (p : Nat) {k : Nat} (hk : k ∈ numbers 96) :
    getAt (s.freeShelfOf p).shelf k = if (s.point p).shelfSlot = some k then none else getAt s.shelf k := by
  unfold Part.freeShelfOf
  cases hslot : (s.point p).shelfSlot with
  | none => rfl
  | some j =>
    refine (getAt_setAt ..).trans (if_congr ?_ rfl rfl)
    rw [Option.some.injEq]
    exact ⟨fun h => h.1, fun h => ⟨h, h ▸ (mem_numbers k).1 hk⟩⟩

theorem Part.removedAway_leaving {s : Part} {p : Nat} (hp : s.InPlant p) :
    Leaving s (s.removedAway p) p { s.point p with state := .removed, lastChange := s.now, shelfSlot := none } := by
  have h := leaving_of (v := s.freeShelfOf p) (g₀ := fun x => { x with shelfSlot := none }) (g := id) (st := .removed)
    (x := { s.point p with state := .removed, lastChange := s.now, shelfSlot := none }) hp (s.freeShelfOf_eq p)
    (fun _ => ⟨rfl, rfl, rfl⟩) (fun _ => ⟨rfl, rfl⟩) rfl rfl
  rw [Part.modPoint_id] at h
  exact h

theorem Left.removed {s t : Part} {d p : Nat}
    (h : Left s (s.removedAway p) t p { s.point p with state := .removed, lastChange := s.now, shelfSlot := none } true
      (s.removeRecord d p)) (hst : (s.point p).state ≠ .removed) : s.Removed t d p := by
  have hshelf : (s.removedAway p).shelf = (s.freeShelfOf p).shelf := by
    show ((s.freeShelfOf p).withdraw p).shelf = _
    rw [(withdraw_places _ p).rest]
  refine ⟨fun k hk => ?_, h.point, h.unplaced, h.board, h.area, h.wrote, h.noticed, h.frame, h.tellsPoint (Ne.symm hst),
    h.tellsArea (areaReported_of_generation ?_)⟩
  · rw [h.shelf, hshelf]
    exact s.freeShelfOf_shelf p hk
  · obtain ⟨harea, _⟩ := h.area
    rw [harea]
    rfl

theorem Part.removePoint_removed {s : Part} {p : Nat} (hp : s.InPlant p) (hst : (s.point p).state ≠ .removed) (d : Nat) :
    s.Removed (s.removePoint d p) d p := by
  rw [Part.removePoint_eq]
  exact Left.removed ((Part.removedAway_leaving hp).left hp rfl) hst

theorem Part.removePoint_lif {s : Part} {p : Nat} (hp : s.InPlant p) (d : Nat) : (s.removePoint d p).lif = s.lif := by
  rw [Part.removePoint_eq]
  exact Part.leave_lif (Part.removedAway_leaving hp) hp rfl

theorem Part.Removed.answered {s t : Part} {d p : Nat} (h : s.taken.Removed t d p) {x : Lif}
    (hlink : x.link = t.lif.link) : s.Removed { t with lif := x } d p := by
  obtain ⟨hshelf, hpoint, hgone, hboard, harea, hwrote, hnoticed, hframe, htold, htoldArea⟩ := h
  exact ⟨hshelf, hpoint, hgone, (Part.Alike.fill ((Part.Alike.taken s).withdraw p) _).sameBoard.trans hboard, harea,
    Part.Wrote.answered hwrote hlink, hnoticed, hframe, htold, htoldArea⟩

/-! ### The requests -/

/-- R70: the common checks passed. -/
theorem Part.MayAct.outCode {s : Part} {d p : Nat} {perm : Perm} (h : s.MayAct d p perm) {k : ReqKind} {minutes : Nat}
    (hperm : perm = if k = .shelve then .shelve else if k = .unshelve then .unshelve
      else if k = .remove then .remove else .restore) (hminutes : k = .shelve → minutes ≠ 0) :
    s.outCode k d p minutes =
      if k = .shelve ∧ (s.pointS p).shelfLimit = 0 then .notShelvable
      else if k = .shelve ∧ (s.point p).state = .removed then .wrongState
      else if k = .shelve ∧ (s.point p).state ≠ .shelved ∧ (∀ n ∈ numbers 96, getAt s.shelf n ≠ none) then .noShelfSlot
      else if k = .unshelve ∧ (s.point p).state ≠ .shelved then .wrongState
      else if k = .restore ∧ (s.point p).state ≠ .removed then .wrongState
      else if k = .remove ∧ (s.point p).state = .removed then .repeated
      else .ok := by
  obtain ⟨hdesk, ⟨hpoint, hconf, _⟩, hon, hmay, hhere⟩ := h
  unfold Part.outCode
  dsimp only
  rw [if_neg (by simp [hdesk, hpoint]; exact hminutes), if_neg (by simp [hconf]), if_neg hon, ← hperm,
    if_neg (by simp [hmay]), if_neg (by simp [hhere])]

theorem freeShelf_of {s : Part} {k : Nat} (hk : k ∈ numbers 96) (hfree : getAt s.shelf k = none)
    (hfirst : ∀ j ∈ numbers 96, j < k → getAt s.shelf j ≠ none) : s.freeShelf = some k := by
  have h := isFirst_find (fun k => (getAt s.shelf k).isNone) 96
  have hnum : s.freeShelf = (numbers 96).find? fun k => (getAt s.shelf k).isNone := rfl
  rw [← hnum] at h
  cases hf : s.freeShelf with
  | none => rw [hf] at h; exact absurd ⟨hk, by rw [hfree]; rfl⟩ (h k)
  | some j =>
    rw [hf] at h
    obtain ⟨⟨hj, hempty⟩, hleast⟩ := h
    have hle := hleast k ⟨hk, by rw [hfree]; rfl⟩
    have hge : ¬j < k := fun hlt => hfirst j hj hlt (Option.isNone_iff_eq_none.1 hempty)
    rw [show j = k by omega]

/-- Settles O26: `Left.shelved` for a point not yet SHELVED, `Part.extendShelf_extended` for a SHELVED one. -/
theorem shelveTakesAPointOut : Obligations.ShelveTakesAPointOut := by
  intro s tag body h d p granted hmay hminutes hlimit hremoved
  have hp := hmay.2.1
  have hcode := hmay.outCode (k := .shelve) (minutes := field16 body 3) rfl fun _ => hminutes
  have hpass : (s.point p).state = .shelved ∨ (∃ n ∈ numbers 96, getAt s.shelf n = none) →
      shelveHandler body s.taken = (s.taken.shelve d p granted, 0 :: be16 granted ++ [byteOf (s.shelfFor p)]) := fun hroom => by
    refine shelveHandler_passes ((s.taken.shelveCheck_eq d p (field16 body 3)).trans (ResultCode.failing_ok ?_))
    refine Eq.trans hcode ?_
    rw [if_neg (by simp [hlimit]), if_neg (by simp [hremoved]), if_neg]
    · rfl
    · rintro ⟨_, hne, hfull⟩
      rcases hroom with hst | ⟨n, hn, hempty⟩
      exacts [hne hst, hfull n hn hempty]
  refine ⟨fun k hk hst hfree hfirst => ?_, fun k hst hslot => ?_⟩
  · have hfor : s.shelfFor p = k := by
      unfold Part.shelfFor
      rw [if_neg hst, freeShelf_of hk hfree hfirst]
      rfl
    have hanswer := hpass (.inr ⟨k, hk, hfree⟩)
    have hshelve : s.taken.shelve d p granted = s.taken.shelveIn d p granted k := by
      unfold Part.shelve
      rw [show s.taken.shelfFor p = k from hfor]
      exact if_neg hst
    rw [hshelve, hfor] at hanswer
    have hlif := Part.shelveIn_lif (s := s.taken) hp d granted k
    have hshelved := Part.shelveIn_shelved (s := s.taken) hp hst d granted k
    exact ⟨_, completes_answered exec_shelve h hanswer hlif, rfl, hshelved.answered (Part.answer_link_of hlif ..)⟩
  · have hfor : s.shelfFor p = k := by
      unfold Part.shelfFor
      rw [if_pos hst, hslot]
      rfl
    have hanswer := hpass (.inl hst)
    have hshelve : s.taken.shelve d p granted = s.taken.extendShelf d p granted k := by
      unfold Part.shelve
      rw [show s.taken.shelfFor p = k from hfor]
      exact if_pos hst
    rw [hshelve, hfor] at hanswer
    have hlif := s.taken.extendShelf_lif d p granted k
    have hextended := Part.extendShelf_extended (s := s.taken) hp d granted k
    exact ⟨_, completes_answered exec_shelve h hanswer hlif, rfl, hextended.answered (Part.answer_link_of hlif ..)⟩

/-- Settles O28: `Left.removed` says what a REMOVE that passes changes. -/
theorem removeTakesAPointOutOfService : Obligations.RemoveTakesAPointOutOfService := by
  intro s tag body h hmay hst
  have hp := hmay.2.1
  have hcode := hmay.outCode (k := .remove) (minutes := 0) rfl fun hk => nomatch hk
  have hanswer := removeHandler_passes (s := s.taken) (body := body)
    ((s.taken.removeCheck_eq (byteAt body 0) (field16 body 1) 0).trans (ResultCode.failing_ok (by
      refine Eq.trans hcode ?_
      simp [hst])))
  have hlif := Part.removePoint_lif (s := s.taken) hp (byteAt body 0)
  have hremoved := Part.removePoint_removed (s := s.taken) hp hst (byteAt body 0)
  exact ⟨_, completes_answered exec_remove h hanswer hlif, rfl, hremoved.answered (Part.answer_link_of hlif ..)⟩

end Sys2Proof.Machine
end

section
/-! Placing a point that enters UNACK (R51) and entering FLOOD (R84), beside a board that is the same. -/

namespace Sys2Proof.Machine

/-! ### Placing a point (R51) -/

/-- R51: point `p` waits in its deferred queue when it enters UNACK. -/
abbrev Part.defers (s : Part) (p : Nat) : Prop :=
  (s.area (s.pointS p).area).flood = .flood ∧ (s.areaS (s.pointS p).area).cutoff < (s.pointS p).priority

theorem place_point (s : Part) {p : Nat} (hp : p ∈ numbers 1024) (q : Nat) : (s.place p).point q =
    if q = p then { s.point q with placement := if s.defers p then .deferred else .queued } else s.point q := by
  unfold Part.place
  dsimp only
  split
  · exact Part.setPlacement_point _ hp .deferred q
  · exact Part.setPlacement_point _ hp .queued q

theorem place_area (s : Part) (p : Nat) {b : Nat} (hb : b ∈ numbers 16) : (s.place p).area b =
    if b = (s.pointS p).area then
      { s.area b with
        pend := if s.defers p then (s.area b).pend else modAt (s.area b).pend (s.pointS p).priority (· ++ [p])
        defer := if s.defers p then modAt (s.area b).defer (s.pointS p).priority (· ++ [p]) else (s.area b).defer
        counts :=
          { (s.area b).counts with
            deferred := if s.defers p then (s.area b).counts.deferred + 1 else (s.area b).counts.deferred } }
    else s.area b := by
  unfold Part.place
  dsimp only
  split
  · exact Part.modArea_area_of s _ _ hb
  · exact Part.modArea_area_of s _ _ hb

theorem place_rest (s : Part) (p : Nat) :
    s.place p = { s with points := (s.place p).points, areas := (s.place p).areas } := by
  unfold Part.place
  dsimp only
  split <;> rfl

/-- R43: the point that enters UNACK, before it is placed. -/
def Point.raised (x : Point) (now : W32) : Point :=
  { x with state := .unack, view := x.view + 1, occurrences := 1, firstActive := some now, lastChange := now }

/-- R43: the part before the point that enters UNACK is placed. -/
def Part.unplaced (s : Part) (p : Nat) : Part :=
  (s.changeState p .unack).modPoint p fun x => { x with view := x.view + 1, occurrences := 1, firstActive := some s.now }

theorem enterUnack_eq (s : Part) (p : Nat) : s.enterUnack p = (s.unplaced p).place p := rfl

theorem unplaced_point (s : Part) {p : Nat} {q : Nat} (hq : q ∈ numbers 1024) :
    (s.unplaced p).point q = if q = p then (s.point q).raised s.now else s.point q := by
  unfold Part.unplaced
  rw [Part.modPoint_point_of _ _ _ hq, changeState_point_of _ _ _ hq]
  split <;> rfl

theorem unplaced_area (s : Part) (p : Nat) {b : Nat} (hb : b ∈ numbers 16) : (s.unplaced p).area b =
    if b = (s.pointS p).area then { s.area b with counts := ((s.area b).counts.dec (s.point p).state).inc .unack }
    else s.area b := changeState_area_of s p .unack hb

/-! ### Entering FLOOD (R84) -/

theorem foldl_setPlacement_alike {u v : Part} (h : u.Alike v) (x : Placement) (l : List Nat) :
    (l.foldl (fun s p => s.modPoint p fun y => { y with placement := x }) u).Alike
      (l.foldl (fun s p => s.modPoint p fun y => { y with placement := x }) v) :=
  .foldl _ _ l (fun p _ _ _ hs => hs.setPlacement p x) h

theorem Part.Alike.deferQueue {u v : Part} (h : u.Alike v) (a pr : Nat) : (u.deferQueue a pr).Alike (v.deferQueue a pr) := by
  obtain ⟨hpend, _, _, _⟩ := h.area a
  unfold Part.deferQueue
  dsimp only
  rw [hpend]
  refine foldl_setPlacement_alike (h.modArea a ?_) .deferred _
  rintro x y ⟨hxp, hxd, hxc, hxdesk⟩
  exact ⟨by dsimp only; rw [hxp], by dsimp only; rw [hxd], by dsimp only; rw [hxc], hxdesk⟩

theorem Part.Alike.enterFlood {u v : Part} (h : u.Alike v) (a : Nat) : (u.enterFlood a).Alike (v.enterFlood a) := by
  unfold Part.enterFlood
  rw [h.areaS a]
  exact .foldl _ _ _ (fun pr _ _ _ hs => hs.deferQueue a pr) (h.modArea a fun _ _ hx => hx)

/-! ### A property that QUEUED and PRESENTED points have survives a fill -/

section
variable {P : Placement → Prop} (hqueued : P .queued) (hpresented : ∀ d k, P (.presented d k))
include hqueued in
theorem returnSlot_keeps {s : Part} {q : Nat} (d k : Nat) (h : P (s.point q).placement) :
    P ((s.returnSlot d k).point q).placement := by
  cases hx : getAt (s.desk d).slots k with
  | none => rw [returnSlot_none hx]; exact h
  | some x =>
    rw [returnSlot_some hx]
    show P ((Part.modPoint _ x.point _).point q).placement
    rw [Part.modPoint_point]
    split
    · exact hqueued
    · exact h

include hpresented in
theorem placeInSlot_keeps {s : Part} {q : Nat} (d k a pr p : Nat) (h : P (s.point q).placement) :
    P ((s.placeInSlot d k a pr p).point q).placement := by
  show P ((Part.modPoint _ p _).point q).placement
  rw [Part.modPoint_point]
  split
  · exact hpresented d k
  · exact h

include hqueued hpresented

theorem fillStep_keeps {s t : Part} {q d : Nat} (h : P (s.point q).placement) (hstep : s.fillStep d = some t) :
    P (t.point q).placement := by
  unfold Part.fillStep at hstep
  split at hstep
  · cases hstep
  split at hstep
  · cases hstep
    exact placeInSlot_keeps hpresented _ _ _ _ _ h
  · split at hstep
    · cases hstep
    split at hstep
    · cases hstep
      exact placeInSlot_keeps hpresented _ _ _ _ _ (returnSlot_keeps hqueued _ _ h)
    · cases hstep

theorem fill_keeps {s : Part} {q : Nat} (d : Nat) (h : P (s.point q).placement) : P ((s.fill d).point q).placement := by
  unfold Part.fill
  split
  · exact h
  · generalize fillBound = n
    induction n generalizing s with
    | zero => exact h
    | succ n ih =>
      unfold Part.fillLoop
      split
      · exact h
      · next hstep => exact ih (fillStep_keeps hqueued hpresented h hstep)

end

theorem fill_placed {s : Part} {q : Nat} (d : Nat) (h : (s.point q).placement ≠ .none) :
    ((s.fill d).point q).placement ≠ .none :=
  fill_keeps (P := (· ≠ .none)) nofun (fun _ _ => nofun) d h

end Sys2Proof.Machine
end

section
/-! A point that enters UNACK and takes its place (R43, R51, R73), and the end of such an event (R52, R84). -/

namespace Sys2Proof.Machine

/-- R51, R52: the board after point `p` of `s` entered UNACK, before the fill. -/
def Part.entryBoard (s : Part) (p : Nat) (entered : Bool) : Part :=
  let u := (s.modPoint p fun x => { x with view := x.view + 1 }).place p
  if entered then u.enterFlood (s.pointS p).area else u

theorem Part.boardOfEntry_eq (s : Part) (p : Nat) (entered : Bool) : s.boardOfEntry p entered =
    (s.entryBoard p entered).fill
      (if ((s.entryBoard p entered).point p).placement = .queued then (s.area (s.pointS p).area).pdesk else 0) := by
  have hunfold : s.boardOfEntry p entered =
      if ((s.entryBoard p entered).point p).placement = .queued then
        (s.entryBoard p entered).fill (s.area (s.pointS p).area).pdesk else s.entryBoard p entered := rfl
  rw [hunfold]
  split
  · rfl
  · rw [Part.fill_zero]

/-- Point `p` of `s` has entered UNACK as `x` and has taken its place; `entered` says that its area has entered FLOOD. -/
structure Entering (s u : Part) (p : Nat) (x : Point) (entered : Bool) : Prop where
  rest : u = { s with points := u.points, areas := u.areas, shelf := u.shelf }
  point : u.point p = { x with placement := (u.point p).placement }
  otherPoints : ∀ q ∈ numbers 1024, q ≠ p → u.point q = { s.point q with placement := (u.point q).placement }
  otherAreas : ∀ b ∈ numbers 16, b ≠ (s.pointS p).area → u.area b = s.area b
  placed : (u.point p).placement ≠ .none
  deferred : s.defers p → (u.point p).placement = .deferred
    ∧ (u.area (s.pointS p).area).pend = (s.area (s.pointS p).area).pend
    ∧ (u.area (s.pointS p).area).defer = modAt (s.area (s.pointS p).area).defer (s.pointS p).priority (· ++ [p])
    ∧ (u.area (s.pointS p).area).counts.deferred = (s.area (s.pointS p).area).counts.deferred + 1
  queued : entered = false → ¬s.defers p → (u.point p).placement = .queued
    ∧ (u.area (s.pointS p).area).pend = modAt (s.area (s.pointS p).area).pend (s.pointS p).priority (· ++ [p])
    ∧ (u.area (s.pointS p).area).defer = (s.area (s.pointS p).area).defer
  board : (s.entryBoard p entered).Alike u

/-! ### The point's own entry -/

theorem enterUnack_entering {s v : Part} {p : Nat} (hp : s.InPlant p) {g₀ : Point → Point}
    (hv : v = { s.modPoint p g₀ with shelf := v.shelf })
    (hg₀ : ∀ y, (g₀ y).placement = y.placement ∧ (g₀ y).view = y.view) :
    Entering s (v.enterUnack p) p ((g₀ (s.point p)).raised s.now) false := by
  have hpoint₀ : ∀ q ∈ numbers 1024, v.point q = if q = p then g₀ (s.point q) else s.point q := fun q hq => by
    rw [hv]
    exact Part.modPoint_point_of s p g₀ hq
  have harea₀ : ∀ b, v.area b = s.area b := fun b => by rw [hv]; rfl
  have hstatic₀ : ∀ q, v.pointS q = s.pointS q := fun q => by rw [hv]; rfl
  have hnow₀ : v.now = s.now := by rw [hv]; rfl
  have hunplaced : ∀ q ∈ numbers 1024, (v.unplaced p).point q =
      if q = p then (g₀ (s.point q)).raised s.now else s.point q := fun q hq => by
    rw [unplaced_point v hq, hpoint₀ q hq, hnow₀]
    split <;> rfl
  have harea : ∀ b ∈ numbers 16, (v.unplaced p).area b =
      if b = (s.pointS p).area then { s.area b with counts := ((s.area b).counts.dec (v.point p).state).inc .unack }
      else s.area b := fun b hb => by
    rw [unplaced_area v p hb, hstatic₀, harea₀]
  have hstatic : ∀ q, (v.unplaced p).pointS q = s.pointS q := hstatic₀
  have hareaS : ∀ b, (v.unplaced p).areaS b = s.areaS b := fun b => by
    show v.areaS b = s.areaS b
    rw [hv]
    rfl
  have hmine := harea _ hp.area_mem
  rw [if_pos rfl] at hmine
  have hdefers : (v.unplaced p).defers p ↔ s.defers p := by
    unfold Part.defers
    rw [hstatic, hmine, hareaS]
  have hboard : (s.modPoint p fun x => { x with view := x.view + 1 }).Alike (v.unplaced p) := by
    have hstart : (s.modPoint p fun x => { x with view := x.view + 1 }).Alike
        (v.modPoint p fun x => { x with view := x.view + 1 }) := by
      refine Part.Alike.modPoint ?_ p fun x y ⟨h1, h2⟩ => ⟨h1, by dsimp only; rw [h2]⟩
      rw [hv]
      exact (Part.Alike.keepPoint s p g₀ fun y => ⟨(hg₀ y).1.symm, (hg₀ y).2.symm⟩).trans (.rest rfl rfl rfl rfl rfl rfl)
    refine hstart.trans ?_
    have hchange := Part.Alike.changeState v p .unack
    exact hchange.modPoint p fun x y ⟨h1, h2⟩ => ⟨h1, by dsimp only; rw [h2]⟩
  have hplaced := place_point (v.unplaced p) hp.point_mem
  have hqueues := fun b hb => place_area (v.unplaced p) p (b := b) hb
  have hrest := place_rest (v.unplaced p) p
  have halike := hboard.place p (by
    show (s.area (s.pointS p).area).flood = _
    rw [hstatic, hmine])
  have hunrest : v.unplaced p = { s with
      points := (v.unplaced p).points, areas := (v.unplaced p).areas, shelf := (v.unplaced p).shelf } := by
    show _ = _
    unfold Part.unplaced Part.changeState
    rw [hv]
    rfl
  have hhere := hqueues _ hp.area_mem
  simp only [hdefers, hstatic, hmine, if_true] at hplaced hqueues hhere
  rw [enterUnack_eq]
  generalize (v.unplaced p).place p = u at hplaced hqueues hrest halike hhere
  constructor
  case rest => rw [hrest, hunrest]
  case point => rw [hplaced p, if_pos rfl, hunplaced p hp.point_mem, if_pos rfl]
  case otherPoints =>
    intro q hq hqp
    rw [hplaced q, if_neg hqp, hunplaced q hq, if_neg hqp]
  case otherAreas =>
    intro b hb hba
    rw [hqueues b hb, if_neg hba, harea b hb, if_neg hba]
  case placed =>
    rw [hplaced p, if_pos rfl]
    dsimp only
    split <;> decide
  case deferred =>
    intro hdef
    rw [hplaced p, if_pos rfl, hhere]
    simp only [if_pos hdef, Counts.dec_deferred, Counts.inc_deferred, and_self]
  case queued =>
    intro _ hdef
    rw [hplaced p, if_pos rfl, hhere]
    simp only [if_neg hdef, and_self]
  case board => exact halike

/-- R9: the area of a point that has entered UNACK, but for its queues. -/
theorem enterUnack_area {s v : Part} {p : Nat} (hp : s.InPlant p) {g₀ : Point → Point}
    (hv : v = { s.modPoint p g₀ with shelf := v.shelf }) (hg₀ : ∀ y, (g₀ y).state = y.state) :
    (v.enterUnack p).area (s.pointS p).area =
      { s.area (s.pointS p).area with
        counts :=
          { ((s.area (s.pointS p).area).counts.dec (s.point p).state).inc .unack with
            deferred := ((v.enterUnack p).area (s.pointS p).area).counts.deferred }
        pend := ((v.enterUnack p).area (s.pointS p).area).pend
        defer := ((v.enterUnack p).area (s.pointS p).area).defer } := by
  have hstatic : v.pointS p = s.pointS p := by rw [hv]; rfl
  have harea : v.area (s.pointS p).area = s.area (s.pointS p).area := by rw [hv]; rfl
  have hstate : (v.point p).state = (s.point p).state := by
    rw [hv]
    show ((s.modPoint p g₀).point p).state = _
    rw [Part.modPoint_point_of _ _ _ hp.point_mem, if_pos rfl, hg₀]
  have hplaces := (place_places (v.unplaced p) p).area (s.pointS p).area
  have hbefore := unplaced_area v p (b := (s.pointS p).area) hp.area_mem
  rw [hstatic, if_pos rfl, harea, hstate] at hbefore
  rw [enterUnack_eq]
  refine hplaces.trans ?_
  rw [hbefore]

end Sys2Proof.Machine
end

section
/-! The end of an event in which a point enters UNACK (R51, R52, R84). -/

namespace Sys2Proof.Machine

/-! ### The contribution to the load index (R81) -/

section
variable {s u : Part} {p : Nat} {x : Point}

theorem Entering.live {entered : Bool} (h : Entering s u p x entered) : u.live = s.live := by rw [h.rest]

theorem Entering.pointS {entered : Bool} (h : Entering s u p x entered) (q : Nat) : u.pointS q = s.pointS q := by
  rw [Part.pointS, h.live]
  rfl

theorem Entering.areaS {entered : Bool} (h : Entering s u p x entered) (b : Nat) : u.areaS b = s.areaS b := by
  rw [Part.areaS, h.live]
  rfl

theorem Entering.inPlant {entered : Bool} (h : Entering s u p x entered) (hp : s.InPlant p) : u.InPlant p :=
  (Part.InPlant.congr h.live p).2 hp

theorem Entering.floods (h : Entering s u p x false)
    (hload : (u.area (s.pointS p).area).load = (s.area (s.pointS p).area).load)
    (hflood : (u.area (s.pointS p).area).flood = (s.area (s.pointS p).area).flood) :
    u.floods p = s.floods p
      ∧ u.loadAfter (s.pointS p).area (s.pointS p).priority = s.loadAfter (s.pointS p).area (s.pointS p).priority := by
  have hafter : u.loadAfter (s.pointS p).area (s.pointS p).priority =
      s.loadAfter (s.pointS p).area (s.pointS p).priority := by
    unfold Part.loadAfter
    rw [hload, h.live]
  refine ⟨?_, hafter⟩
  unfold Part.floods
  rw [h.pointS, hflood, h.areaS, hafter]

theorem floods_not_defers (h : s.floods p = true) : ¬s.defers p := fun hdef => by
  unfold Part.floods at h
  rw [hdef.1] at h
  simp at h

/-- R84: the deferred queues above the cutoff of an area that the point takes into FLOOD. -/
def Part.FloodedBy (s u : Part) (p : Nat) : Prop :=
  ∀ k ∈ numbers 4, (s.areaS (s.pointS p).area).cutoff < k → getAt (u.area (s.pointS p).area).defer k =
    getAt (s.area (s.pointS p).area).defer k ++ getAt (s.area (s.pointS p).area).pend k
      ++ (if k = (s.pointS p).priority then [p] else [])

theorem Entering.contribute (h : Entering s u p x false) (hp : s.InPlant p)
    (hload : (u.area (s.pointS p).area).load = (s.area (s.pointS p).area).load)
    (hflood : (u.area (s.pointS p).area).flood = (s.area (s.pointS p).area).flood) :
    Entering s (u.contribute p) p x (s.floods p) ∧ (s.floods p = true → s.FloodedBy (u.contribute p) p) := by
  have hpU := h.inPlant hp
  have hcontribute := contribute_eq hpU
  have hpoint := contribute_point hpU
  have hother := fun b hb => contribute_otherArea hpU (b := b) hb
  have hrest := contribute_rest hpU
  rw [(h.floods hload hflood).1] at hcontribute
  rw [h.pointS] at hcontribute hother
  have hloaded := loaded_area hpU (s.pointS p).area
  rw [h.pointS, if_pos rfl] at hloaded
  have halike : u.Alike (u.loaded p) := .keepArea u _ _ fun _ => ⟨rfl, rfl, rfl, rfl⟩
  have hsame : ∀ q, (u.loaded p).point q = u.point q := fun _ => rfl
  have hcutoff : (u.loaded p).areaS (s.pointS p).area = s.areaS (s.pointS p).area := h.areaS _
  refine ⟨?_, fun hfloods => ?_⟩
  · constructor
    case rest => rw [hrest, h.rest]
    case point => rw [hpoint, h.point]
    case otherPoints =>
      intro q hq hqp
      rw [hpoint, h.otherPoints q hq hqp]
    case otherAreas =>
      intro b hb hba
      rw [hother b hba, h.otherAreas b hb hba]
    case placed =>
      rw [hcontribute]
      split
      · rw [enterFlood_placement _ _ _ hp.area_mem hp.point_mem]
        split
        · decide
        · exact h.placed
      · exact h.placed
    case deferred =>
      intro hdef
      have hcalm : s.floods p = false := Bool.eq_false_iff.2 fun hfloods => floods_not_defers hfloods hdef
      rw [hcalm, if_neg Bool.false_ne_true] at hcontribute
      rw [hcontribute, hsame, hloaded]
      exact h.deferred hdef
    case queued =>
      intro hcalm hdef
      rw [hcalm, if_neg Bool.false_ne_true] at hcontribute
      rw [hcontribute, hsame, hloaded]
      exact h.queued rfl hdef
    case board =>
      rw [hcontribute]
      have hbefore := h.board.trans halike
      cases s.floods p with
      | true => exact hbefore.enterFlood _
      | false => exact hbefore
  · rw [hfloods, if_pos rfl] at hcontribute
    obtain ⟨_, hpend, hdefer⟩ := h.queued rfl (floods_not_defers hfloods)
    intro k hk hcut
    obtain ⟨_, hqueue⟩ := enterFlood_queues (u.loaded p) (s.pointS p).area k hp.area_mem hk
    rw [hcutoff, if_pos hcut, hloaded] at hqueue
    dsimp only at hqueue
    rw [hcontribute, hqueue, hpend, hdefer, getAt_modAt, List.append_assoc]
    by_cases hkp : k = (s.pointS p).priority
    · rw [if_pos ⟨hkp.symm, hkp ▸ (mem_numbers k).1 hk⟩, if_pos hkp]
    · rw [if_neg fun he => hkp he.1.symm, if_neg hkp, List.append_nil]

/-! ### The end of the event -/

/-- What an event has made of the part in which point `p` entered UNACK as `x`. -/
structure Entered (s t : Part) (p : Nat) (x : Point) (entered : Bool) : Prop where
  point : t.point p = { x with placement := (t.point p).placement }
  placed : (t.point p).placement ≠ .none
  deferred : s.defers p → (t.point p).placement = .deferred
    ∧ (t.area (s.pointS p).area).pend = (s.area (s.pointS p).area).pend
    ∧ (t.area (s.pointS p).area).defer = modAt (s.area (s.pointS p).area).defer (s.pointS p).priority (· ++ [p])
    ∧ (t.area (s.pointS p).area).counts.deferred = (s.area (s.pointS p).area).counts.deferred + 1
  queued : entered = false → ¬s.defers p → (s.area (s.pointS p).area).pdesk = 0 → (t.point p).placement = .queued
    ∧ (t.area (s.pointS p).area).pend = modAt (s.area (s.pointS p).area).pend (s.pointS p).priority (· ++ [p])
    ∧ (t.area (s.pointS p).area).defer = (s.area (s.pointS p).area).defer
  board : (s.boardOfEntry p entered).SameBoard t
  frame : s.MoveFrame t p (s.pointS p).area (s.area (s.pointS p).area).pdesk

/-- The desk that the event fills, 0 for none. -/
def Part.filledAt (s u : Part) (p : Nat) : Nat :=
  if (u.point p).placement = .queued then (s.area (s.pointS p).area).pdesk else 0

theorem Entering.entered {w t : Part} {entered sig : Bool} {l : List (Bool × W16 × RecordFields)}
    (h : Entering s u p x entered) (hp : s.InPlant p) (hpoint : ∀ q, w.point q = u.point q)
    (hother : ∀ b ∈ numbers 16, b ≠ (s.pointS p).area → w.area b = u.area b) (halike : u.Alike w)
    (hdone : Finished s w t (s.filledAt u p) (s.pointS p).area sig l) : Entered s t p x entered := by
  obtain ⟨hpend, hdefer, hcount, _⟩ := halike.area (s.pointS p).area
  have hboard : (s.boardOfEntry p entered).SameBoard t := by
    have hsame : ((s.entryBoard p entered).point p).placement = (u.point p).placement := (h.board.point p).1
    rw [Part.boardOfEntry_eq, hsame]
    exact ((h.board.trans halike).fill (s.filledAt u p)).sameBoard.trans hdone.board
  have hzero : s.filledAt u p = 0 → (t.point p).placement = (u.point p).placement
      ∧ (t.area (s.pointS p).area).pend = (u.area (s.pointS p).area).pend
      ∧ (t.area (s.pointS p).area).defer = (u.area (s.pointS p).area).defer
      ∧ (t.area (s.pointS p).area).counts.deferred = (u.area (s.pointS p).area).counts.deferred := fun he => by
    obtain ⟨hpoints, hareas⟩ := hdone.unmoved he
    rw [hpoints, hareas, hpoint, hpend, hdefer, hcount]
    exact ⟨rfl, rfl, rfl, rfl⟩
  constructor
  case point => rw [hdone.point, hpoint, h.point]
  case placed =>
    rw [hdone.board.1 p hp.point_mem]
    exact fill_placed _ (by rw [hpoint]; exact h.placed)
  case deferred =>
    intro hdef
    obtain ⟨hpl, hrest⟩ := h.deferred hdef
    obtain ⟨h1, h2, h3, h4⟩ := hzero (by rw [Part.filledAt, hpl]; rfl)
    rw [h1, h2, h3, h4]
    exact ⟨hpl, hrest⟩
  case queued =>
    intro hcalm hdef hdesk
    obtain ⟨h1, h2, h3, _⟩ := hzero (by rw [Part.filledAt, hdesk, ite_self])
    rw [h1, h2, h3]
    exact h.queued hcalm hdef
  case board => exact hboard
  case frame =>
    refine ⟨hdone.fixed, hdone.people, ⟨fun q hq hqp => ?_, fun b hb hba => ?_⟩, hdone.moved, fun d hd hne => ?_⟩
    · rw [hdone.point, hpoint, h.otherPoints q hq hqp]
    · rw [hdone.area, hother b hb hba, h.otherAreas b hb hba]
    · refine hdone.kept d hd fun he => ?_
      unfold Part.filledAt at he
      split at he
      · exact hne he
      · rw [he] at hd
        simp at hd

end

end Sys2Proof.Machine
end

section
/-! The return of a point to service (R73 to R75, R78). -/

namespace Sys2Proof.Machine

/-! ### The point's return -/

/-- R73: the part in which point `p` is back, before generation, record and fill. -/
def Part.cameBack (s : Part) (p : Nat) : Part := (s.freeShelfOf p).returnPoint p

/-- R73: the state of a point that comes back, as the model works it out. -/
def Part.backAs (s : Part) (p : Nat) : Point := (s.point p).returned (s.groupHolds p) s.now

/-- What the return of a point has changed: the point, its area's counts and queues, and the shelf. -/
structure CameBack (s u : Part) (p : Nat) (x : Point) : Prop where
  rest : u = { s with points := u.points, areas := u.areas, shelf := u.shelf }
  point : u.point p = { x with placement := (u.point p).placement }
  otherPoints : ∀ q ∈ numbers 1024, q ≠ p → u.point q = { s.point q with placement := (u.point q).placement }
  area : u.area (s.pointS p).area =
    { s.area (s.pointS p).area with
      counts :=
        { ((s.area (s.pointS p).area).counts.dec (s.point p).state).inc x.state with
          deferred := (u.area (s.pointS p).area).counts.deferred }
      pend := (u.area (s.pointS p).area).pend
      defer := (u.area (s.pointS p).area).defer }
  otherAreas : ∀ b ∈ numbers 16, b ≠ (s.pointS p).area → u.area b = s.area b
  shelf : u.shelf = (s.freeShelfOf p).shelf

section
variable {s : Part} {p : Nat}

/-- A point that comes back without entering UNACK: only its own fields and its area's counts change. -/
theorem changeState_cameBack (hp : s.InPlant p) (st : PointState) (g : Point → Point) {x : Point}
    (hg : ∀ y, (g y).placement = y.placement ∧ (g y).view = y.view)
    (hx : g { s.point p with shelfSlot := none, state := st, lastChange := s.now } = x)
    (hst : x.state = st) :
    CameBack s (((s.freeShelfOf p).changeState p st).modPoint p g) p x
      ∧ s.Alike (((s.freeShelfOf p).changeState p st).modPoint p g) := by
  have hfree := s.freeShelfOf_eq p
  generalize hv : s.freeShelfOf p = v at hfree ⊢
  have hpoint₀ : ∀ q ∈ numbers 1024, v.point q = if q = p then { s.point q with shelfSlot := none } else s.point q :=
    fun q hq => by
      rw [hfree]
      exact Part.modPoint_point_of s p _ hq
  have harea₀ : ∀ b, v.area b = s.area b := fun b => by rw [hfree]; rfl
  have hstatic₀ : v.pointS p = s.pointS p := by rw [hfree]; rfl
  have hnow₀ : v.now = s.now := by rw [hfree]; rfl
  have hpoint : ∀ q ∈ numbers 1024, ((v.changeState p st).modPoint p g).point q = if q = p then x else s.point q :=
    fun q hq => by
      rw [Part.modPoint_point_of _ _ _ hq, changeState_point_of _ _ _ hq, hpoint₀ q hq, hnow₀]
      split
      · next h => rw [h, ← hx]
      · rfl
  have harea : ∀ b ∈ numbers 16, ((v.changeState p st).modPoint p g).area b =
      if b = (s.pointS p).area then { s.area b with counts := ((s.area b).counts.dec (s.point p).state).inc st }
      else s.area b := fun b hb => by
    show (v.changeState p st).area b = _
    rw [changeState_area_of _ _ _ hb, hstatic₀, harea₀, hpoint₀ p hp.point_mem, if_pos rfl]
  have hrest : (v.changeState p st).modPoint p g = { s with
      points := ((v.changeState p st).modPoint p g).points, areas := ((v.changeState p st).modPoint p g).areas
      shelf := ((v.changeState p st).modPoint p g).shelf } := by
    unfold Part.changeState
    rw [hfree]
    rfl
  refine ⟨⟨hrest, ?_, fun q hq hqp => ?_, ?_, fun b hb hba => ?_, by rw [hv]; rfl⟩, ?_⟩
  · rw [hpoint p hp.point_mem, if_pos rfl]
  · rw [hpoint q hq, if_neg hqp]
  · rw [harea _ hp.area_mem, if_pos rfl, hst]
  · rw [harea b hb, if_neg hba]
  · have hstart : s.Alike v := by
      rw [hfree]
      exact (Part.Alike.keepPoint s p (fun x => { x with shelfSlot := none }) fun _ => ⟨rfl, rfl⟩).trans (.rest rfl rfl rfl rfl rfl rfl)
    exact (hstart.trans (.changeState v p st)).trans (.keepPoint _ p g fun y => ⟨(hg y).1.symm, (hg y).2.symm⟩)

theorem freeShelfOf_groupHolds (s : Part) (p : Nat) : (s.freeShelfOf p).groupHolds p = s.groupHolds p := by
  unfold Part.freeShelfOf
  cases (s.point p).shelfSlot <;> rfl

theorem freeShelfOf_shadow (hp : p ∈ numbers 1024) : ((s.freeShelfOf p).point p).shadow = (s.point p).shadow := by
  have hpoint : (s.freeShelfOf p).point p = { s.point p with shelfSlot := none } := by
    rw [s.freeShelfOf_eq p]
    exact (Part.modPoint_point_of s p _ hp).trans (if_pos rfl)
  rw [hpoint]

/-- R73: a point that comes back into UNACK. -/
theorem cameBack_unack (hp : s.InPlant p) (hx : (s.backAs p).state = .unack) :
    CameBack s (s.cameBack p) p (s.backAs p) ∧ Entering s (s.cameBack p) p (s.backAs p) false := by
  have hheld : s.groupHolds p = false := by
    by_contra hh
    rw [Part.backAs, Bool.not_eq_false _ |>.mp hh] at hx
    cases hx
  have hshadow : (s.point p).shadow = true := by
    by_contra hs
    rw [Part.backAs, hheld, Point.returned, if_neg Bool.false_ne_true, if_neg hs] at hx
    cases hx
  have hback : s.cameBack p = (s.freeShelfOf p).enterUnack p := by
    unfold Part.cameBack Part.returnPoint
    rw [freeShelfOf_groupHolds, hheld, freeShelfOf_shadow hp.point_mem, hshadow]
    rfl
  have hxeq : s.backAs p = ({ s.point p with shelfSlot := none } : Point).raised s.now := by
    rw [Part.backAs, hheld, Point.returned, if_neg Bool.false_ne_true, if_pos hshadow]
    rfl
  have hentering := enterUnack_entering (v := s.freeShelfOf p) (g₀ := fun x => { x with shelfSlot := none }) hp
    (s.freeShelfOf_eq p) fun _ => ⟨rfl, rfl⟩
  have harea := enterUnack_area (v := s.freeShelfOf p) (g₀ := fun x => { x with shelfSlot := none }) hp
    (s.freeShelfOf_eq p) fun _ => rfl
  have hshelf : ((s.freeShelfOf p).enterUnack p).shelf = (s.freeShelfOf p).shelf := by
    rw [enterUnack_eq, place_rest]
    rfl
  rw [hback, hxeq]
  exact ⟨⟨hentering.rest, hentering.point, hentering.otherPoints, harea, hentering.otherAreas, hshelf⟩, hentering⟩

/-- R73: a point that comes back to another state stays where it was. -/
theorem cameBack_still (hp : s.InPlant p) (hx : (s.backAs p).state ≠ .unack) :
    CameBack s (s.cameBack p) p (s.backAs p) ∧ s.Alike (s.cameBack p) := by
  cases hheld : s.groupHolds p with
  | true =>
    have hback : s.cameBack p = (s.freeShelfOf p).changeState p .suppressed := by
      unfold Part.cameBack Part.returnPoint
      rw [freeShelfOf_groupHolds, hheld]
      rfl
    have hdone := changeState_cameBack (x := s.backAs p) hp .suppressed id (fun _ => ⟨rfl, rfl⟩)
      (by rw [Part.backAs, hheld]; rfl) (by rw [Part.backAs, hheld]; rfl)
    rw [Part.modPoint_id] at hdone
    rw [hback]
    exact hdone
  | false =>
    have hshadow : (s.point p).shadow = false := by
      by_contra hs
      refine hx ?_
      rw [Part.backAs, hheld, Point.returned, if_neg Bool.false_ne_true, if_pos (Bool.not_eq_false _ |>.mp hs)]
    have hxeq : s.backAs p =
        { s.point p with state := .normal, occurrences := 0, firstActive := none, lastChange := s.now, shelfSlot := none } := by
      rw [Part.backAs, hheld, Point.returned, if_neg Bool.false_ne_true, if_neg (Bool.eq_false_iff.1 hshadow)]
    have hback : s.cameBack p = ((s.freeShelfOf p).changeState p .normal).modPoint p
        fun x => { x with occurrences := 0, firstActive := none } := by
      unfold Part.cameBack Part.returnPoint
      rw [freeShelfOf_groupHolds, hheld, freeShelfOf_shadow hp.point_mem, hshadow]
      rfl
    rw [hback, hxeq]
    exact changeState_cameBack hp .normal _ (fun _ => ⟨rfl, rfl⟩) rfl rfl

/-! ### The event -/

/-- R74, R75, R78: the fields of the record of a return. -/
def Part.returnRecord (s : Part) (k : JKind) (d c p : Nat) : RecordFields :=
  { s.pointRecord k p with desk := d, credential := c, value := w16 (s.backAs p).state.code }

/-- The part in which the return is recorded. -/
def Part.returnNoted (s u : Part) (k : JKind) (d c p : Nat) : Part :=
  (u.bump (s.pointS p).area).write true (s.returnRecord k d c p)

theorem CameBack.noted_area {u : Part} {x : Point} (h : CameBack s u p x) (k : JKind) (d c : Nat)
    {b : Nat} (hb : b ∈ numbers 16) : (s.returnNoted u k d c p).area b =
      if b = (s.pointS p).area then { u.area b with generation := (s.area b).generation + 1 } else s.area b := by
  refine (Part.modArea_area_of u _ _ hb).trans ?_
  split
  · next hba => rw [hba, h.area]
  · next hba => exact h.otherAreas b hb hba

theorem CameBack.unfinished {u : Part} {x : Point} (h : CameBack s u p x) (hp : s.InPlant p) (k : JKind) (d c e : Nat) :
    Unfinished s (s.returnNoted u k d c p) e (s.pointS p).area
      [(true, (s.area (s.pointS p).area).generation + 1, s.returnRecord k d c p)] := by
  have hmine := h.noted_area k d c hp.area_mem
  rw [if_pos rfl] at hmine
  have hdesk : ∀ d', (s.returnNoted u k d c p).desk d' = s.desk d' := fun d' => by
    show u.desk d' = s.desk d'
    rw [h.rest]
    rfl
  refine ⟨?_, fun d' _ => by rw [hdesk], fun d' _ _ => hdesk d', by rw [hmine, h.area], ?_⟩
  · unfold Part.returnNoted
    rw [Part.write_rest, h.rest]
    rfl
  · have hwrite := Part.Journals.write (Part.Journals.start (s := s) (v := u.bump (s.pointS p).area)
      (by rw [h.rest]; rfl) (by rw [h.rest]; rfl) (by rw [h.rest]; rfl)) true (s.returnRecord k d c p)
    have hwhere : (s.returnRecord k d c p).area = (s.pointS p).area := rfl
    have hgen : ((u.bump (s.pointS p).area).area (s.pointS p).area).generation =
        (s.area (s.pointS p).area).generation + 1 := by
      have : (u.bump (s.pointS p).area).area (s.pointS p).area = (s.returnNoted u k d c p).area (s.pointS p).area := rfl
      rw [this, hmine]
    rw [hwhere, Part.generationOf_pos _ (Nat.ne_zero_of_lt ((mem_numbers _).1 hp.area_mem).1), hgen] at hwrite
    exact hwrite

theorem CameBack.alike {u : Part} (k : JKind) (d c : Nat) : u.Alike (s.returnNoted u k d c p) :=
  (Part.Alike.bump u _).trans (.write _ true _)

theorem Part.cameBack_of (hp : s.InPlant p) : CameBack s (s.cameBack p) p (s.backAs p) := by
  by_cases hx : (s.backAs p).state = .unack
  · exact (cameBack_unack hp hx).1
  · exact (cameBack_still hp hx).1

theorem Part.returnEvent_eq (hp : s.InPlant p) (k : JKind) (d c : Nat) : s.returnEvent k d c p =
    s.finish (s.returnNoted (s.cameBack p) k d c p) (s.filledAt (s.cameBack p) p) (s.pointS p).area true := by
  have hback := Part.cameBack_of hp
  have hmine := hback.noted_area k d c hp.area_mem
  rw [if_pos rfl, hback.area] at hmine
  have hrecord : ({ s.pointRecord k p with
      desk := d, credential := c
      value := w16 (((s.cameBack p).bump (s.pointS p).area).point p).state.code } : RecordFields) =
      s.returnRecord k d c p := by
    have hpoint : ((s.cameBack p).bump (s.pointS p).area).point p = (s.cameBack p).point p := rfl
    rw [hpoint, hback.point]
    rfl
  have hunfold : s.returnEvent k d c p =
      (let w := ((s.cameBack p).bump (s.pointS p).area).write true
        { s.pointRecord k p with
          desk := d, credential := c
          value := w16 (((s.cameBack p).bump (s.pointS p).area).point p).state.code }
      closeEvent s [] ((if (w.point p).placement = .queued then w.fillAreaDesk (s.pointS p).area else w).notify
        (s.pointS p).area)) := rfl
  have hfill : (if ((s.returnNoted (s.cameBack p) k d c p).point p).placement = .queued then
      (s.returnNoted (s.cameBack p) k d c p).fillAreaDesk (s.pointS p).area else s.returnNoted (s.cameBack p) k d c p) =
      (s.returnNoted (s.cameBack p) k d c p).fill (s.filledAt (s.cameBack p) p) := by
    have hpoint : (s.returnNoted (s.cameBack p) k d c p).point p = (s.cameBack p).point p := rfl
    rw [hpoint]
    unfold Part.filledAt Part.fillAreaDesk
    rw [hmine]
    split
    · rfl
    · rw [Part.fill_zero]
  rw [hunfold, hrecord]
  dsimp only
  rw [show ((s.cameBack p).bump (s.pointS p).area).write true (s.returnRecord k d c p) =
    s.returnNoted (s.cameBack p) k d c p from rfl, hfill]
  rfl

/-- R73 to R75, R78: what a return has made of the part. -/
theorem Part.returnEvent_returned (hp : s.InPlant p) (k : JKind) (d c : Nat) (hst : (s.point p).state ≠ (s.backAs p).state) :
    s.Returned (s.returnEvent k d c p) k d c p := by
  have hback := Part.cameBack_of hp
  have hdone := (hback.unfinished hp k d c (s.filledAt (s.cameBack p) p)).finish true
  have halike := CameBack.alike (s := s) (p := p) (u := s.cameBack p) k d c
  have hunack := fun hx => (cameBack_unack (s := s) hp hx).2
  have hstill := fun hx => (cameBack_still (s := s) hp hx).2
  rw [Part.returnEvent_eq hp]
  have hwpoint : ∀ q, (s.returnNoted (s.cameBack p) k d c p).point q = (s.cameBack p).point q := fun _ => rfl
  have hwarea := fun b hb => hback.noted_area k d c (b := b) hb
  have hwshelf : (s.returnNoted (s.cameBack p) k d c p).shelf = (s.cameBack p).shelf := rfl
  change Finished s _ (s.finish _ _ _ _) _ _ _ _ at hdone
  generalize s.finish (s.returnNoted (s.cameBack p) k d c p) (s.filledAt (s.cameBack p) p) (s.pointS p).area true = t at hdone ⊢
  generalize s.returnNoted (s.cameBack p) k d c p = w at hdone halike hwpoint hwarea hwshelf
  generalize s.cameBack p = u at hback hdone halike hunack hstill hwpoint hwarea hwshelf
  have hwother : ∀ b ∈ numbers 16, b ≠ (s.pointS p).area → w.area b = u.area b := fun b hb hba => by
    rw [hwarea b hb, if_neg hba, hback.otherAreas b hb hba]
  have hwmine := hwarea _ hp.area_mem
  rw [if_pos rfl] at hwmine
  have hentered : (s.backAs p).state = .unack → Entered s t p (s.backAs p) false := fun hx =>
    (hunack hx).entered hp hwpoint hwother halike hdone
  have hpoint : t.point p = { s.backAs p with placement := (t.point p).placement } := by
    rw [hdone.point, hwpoint, hback.point]
  have harea : t.area (s.pointS p).area =
      { s.area (s.pointS p).area with
        generation := (s.area (s.pointS p).area).generation + 1
        counts :=
          { ((s.area (s.pointS p).area).counts.dec (s.point p).state).inc (s.backAs p).state with
            deferred := (t.area (s.pointS p).area).counts.deferred }
        pend := (t.area (s.pointS p).area).pend, defer := (t.area (s.pointS p).area).defer } := by
    rw [hdone.area, hwmine, hback.area]
  refine ⟨hpoint, fun hx hnone => ?_, fun hx => (hentered hx).placed, fun j hj => ?_, harea, fun ⟨hx, hdef⟩ => ?_,
    fun ⟨hx, hdef, hdesk⟩ => ?_, ?_, hdone.wrote, hdone.noticed,
    ⟨hdone.fixed, hdone.people, ⟨fun q hq hqp => ?_, fun b hb hba => ?_⟩, hdone.moved, fun e he hne => ?_⟩,
    hdone.tellsPoint p hp.point_mem ?_, hdone.tellsArea _ hp.area_mem (areaReported_of_generation ?_)⟩
  · have hsame : (u.point p).placement = .none := ((hstill hx).point p).1.symm.trans hnone
    have hzero : s.filledAt u p = 0 := by rw [Part.filledAt, hsame]; rfl
    rw [(hdone.unmoved hzero).1, hwpoint, hsame]
  · rw [hdone.shelf, hwshelf, hback.shelf]
    exact s.freeShelfOf_shelf p hj
  · exact (hentered hx).deferred hdef
  · exact (hentered hx).queued rfl hdef hdesk
  · show Part.SameBoard (if (s.backAs p).state = .unack then s.boardOfEntry p false
      else if (s.point p).placement = .queued then s.fill (s.area (s.pointS p).area).pdesk else s) t
    by_cases hx : (s.backAs p).state = .unack
    · rw [if_pos hx]
      exact (hentered hx).board
    · rw [if_neg hx]
      have hsame : (s.point p).placement = (u.point p).placement := ((hstill hx).point p).1
      have hboard : (s.fill (s.filledAt u p)).SameBoard t :=
        (((hstill hx).trans halike).fill (s.filledAt u p)).sameBoard.trans hdone.board
      unfold Part.filledAt at hboard
      rw [hsame]
      split
      · next hq => rw [if_pos hq] at hboard; exact hboard
      · next hq => rw [if_neg hq, Part.fill_zero] at hboard; exact hboard
  · rw [hdone.point, hwpoint, hback.otherPoints q hq hqp]
  · rw [hdone.area, hwother b hb hba, hback.otherAreas b hb hba]
  · refine hdone.kept e he fun hfilled => ?_
    unfold Part.filledAt at hfilled
    split at hfilled
    · exact hne hfilled
    · rw [hfilled] at he
      simp at he
  · have hstate : (t.point p).state = (s.backAs p).state := by rw [hpoint]
    unfold pointReported
    rw [hstate]
    simp [hst]
  · rw [harea]

theorem Part.returnEvent_lif (hp : s.InPlant p) (k : JKind) (d c : Nat) : (s.returnEvent k d c p).lif = s.lif := by
  rw [Part.returnEvent_eq hp]
  exact Part.finish_lif ((Part.cameBack_of hp).unfinished hp k d c _) true

end

/-! ### The requests and the expiry -/

theorem Part.entryBoard_alike {s v : Part} (h : s.Alike v) {p : Nat}
    (hflood : (s.area (s.pointS p).area).flood = (v.area (v.pointS p).area).flood) (entered : Bool) :
    (s.entryBoard p entered).Alike (v.entryBoard p entered) := by
  have hviewed : (s.modPoint p fun x => { x with view := x.view + 1 }).Alike
      (v.modPoint p fun x => { x with view := x.view + 1 }) :=
    h.modPoint p fun x y ⟨h1, h2⟩ => ⟨h1, by dsimp only; rw [h2]⟩
  have hplace : ((s.modPoint p fun x => { x with view := x.view + 1 }).place p).Alike
      ((v.modPoint p fun x => { x with view := x.view + 1 }).place p) :=
    hviewed.place p hflood
  unfold Part.entryBoard
  rw [h.pointS]
  cases entered
  · exact hplace
  · exact hplace.enterFlood _

theorem Part.boardOfEntry_alike {s v : Part} (h : s.Alike v) {p : Nat}
    (hflood : (s.area (s.pointS p).area).flood = (v.area (v.pointS p).area).flood) (entered : Bool) :
    (s.boardOfEntry p entered).Alike (v.boardOfEntry p entered) := by
  have hboard := Part.entryBoard_alike h hflood entered
  obtain ⟨_, _, _, hdesk⟩ := h.area (s.pointS p).area
  rw [Part.boardOfEntry_eq, Part.boardOfEntry_eq, (hboard.point p).1, hdesk, h.pointS]
  exact hboard.fill _

theorem Part.Returned.answered {s t : Part} {k : JKind} {d c p : Nat} (h : s.taken.Returned t k d c p) {x : Lif}
    (hlink : x.link = t.lif.link) : s.Returned { t with lif := x } k d c p := by
  obtain ⟨h1, h2, h3, h4, h5, h6, h7, hboard, hwrote, h8, h9, h10, h11⟩ := h
  refine ⟨h1, h2, h3, h4, h5, h6, h7, ?_, Part.Wrote.answered hwrote hlink, h8, h9, h10, h11⟩
  refine Part.SameBoard.trans ?_ hboard
  have hentry := (Part.boardOfEntry_alike (Part.Alike.taken s) (p := p) rfl false).sameBoard
  have hfill := ((Part.Alike.taken s).fill (s.area (s.pointS p).area).pdesk).sameBoard
  have hsame := (Part.Alike.taken s).sameBoard
  have hboth : Part.SameBoard
      (if (s.backAs p).state = .unack then s.boardOfEntry p false
        else if (s.point p).placement = .queued then s.fill (s.area (s.pointS p).area).pdesk else s)
      (if (s.backAs p).state = .unack then s.taken.boardOfEntry p false
        else if (s.point p).placement = .queued then s.taken.fill (s.area (s.pointS p).area).pdesk else s.taken) := by
    split
    · exact hentry
    · split
      exacts [hfill, hsame]
  exact hboth

theorem Part.backAs_ne {s : Part} {p : Nat} {st : PointState} (h : st = .shelved ∨ st = .removed) :
    st ≠ (s.backAs p).state := by
  unfold Part.backAs Point.returned
  split
  · rcases h with rfl | rfl <;> simp
  · split <;> rcases h with rfl | rfl <;> simp

/-- R74, R78: UNSHELVE and RESTORE that pass. -/
theorem completes_return {c : Instr} {rk : ReqKind} {perm : Perm} {st : PointState} {k : JKind} {s : Part} {tag : Byte}
    {body : List Byte} (hexec : ∀ u, exec c u = onRequest rk (Part.returnRequest perm st k) u) (h : s.Takes rk tag body)
    (hp : s.InPlant (field16 body 1)) (hst : (s.point (field16 body 1)).state = st) (hout : st = .shelved ∨ st = .removed)
    (hcheck : s.taken.returnCheck (byteAt body 0) (field16 body 1) perm st = none) :
    ∃ t : Part, Completes c s t
      ∧ t.lif = s.answer rk tag (0 :: byteOf (t.point (field16 body 1)).state.code
          :: be16 (t.point (field16 body 1)).view.toNat)
      ∧ s.Returned t k (byteAt body 0) (s.desk (byteAt body 0)).signedOn (field16 body 1) := by
  have hanswer : Part.returnRequest perm st k body s.taken = (s.taken.returnEvent k (byteAt body 0)
      (s.desk (byteAt body 0)).signedOn (field16 body 1), (s.taken.returnEvent k (byteAt body 0)
      (s.desk (byteAt body 0)).signedOn (field16 body 1)).returnReply (field16 body 1)) := returnRequest_passes (k := k) (s := s.taken) hcheck
  have hlif := Part.returnEvent_lif (s := s.taken) hp k (byteAt body 0) (s.desk (byteAt body 0)).signedOn
  have hreturned := Part.returnEvent_returned (s := s.taken) hp k (byteAt body 0) (s.desk (byteAt body 0)).signedOn
    (ne_of_eq_of_ne hst (Part.backAs_ne hout))
  change (s.taken.returnEvent k (byteAt body 0) (s.desk (byteAt body 0)).signedOn (field16 body 1)).lif = _ at hlif
  generalize s.taken.returnEvent k (byteAt body 0) (s.desk (byteAt body 0)).signedOn (field16 body 1) = v at hanswer hlif hreturned
  exact ⟨_, completes_answered hexec h hanswer hlif, rfl, hreturned.answered (Part.answer_link_of hlif ..)⟩

/-- Settles O27: UNSHELVE, RESTORE and the expiry of a shelf slot are the same event. -/
theorem pointsReturnToService : Obligations.PointsReturnToService := by
  refine ⟨fun s tag body h hmay hst => ?_, fun s tag body h hmay hst => ?_, fun s k hreset hk => ⟨?_, fun hnot => ?_⟩⟩
  · have hcode := hmay.outCode (k := .unshelve) (minutes := 0) rfl fun hk => nomatch hk
    refine completes_return exec_unshelve h hmay.2.1 hst (.inl rfl)
      ((s.taken.unshelveCheck_eq _ _ 0).trans (ResultCode.failing_ok (Eq.trans hcode ?_)))
    simp [hst]
  · have hcode := hmay.outCode (k := .restore) (minutes := 0) rfl fun hk => nomatch hk
    refine completes_return exec_restore h hmay.2.1 hst (.inr rfl)
      ((s.taken.restoreCheck_eq _ _ 0).trans (ResultCode.failing_ok (Eq.trans hcode ?_)))
    simp [hst]
  · intro x hx hdue hp hst _
    have hevent : s.shelfExpires k = s.returnEvent .shelfExpire x.desk 0 x.point := by
      unfold Part.shelfExpires
      rw [Option.mem_def.mp hx]
      exact if_pos hdue
    exact ⟨_, completes_onPart (f := fun u => u.shelfExpires k) (fun _ => rfl) hreset hevent, Part.returnEvent_lif hp ..,
      Part.returnEvent_returned hp _ _ _ (ne_of_eq_of_ne hst (Part.backAs_ne (.inl rfl)))⟩
  · refine completes_onPart (f := fun u => u.shelfExpires k) (fun _ => rfl) hreset ?_
    show s.shelfExpires k = s
    unfold Part.shelfExpires
    cases hx : getAt s.shelf k with
    | none => rfl
    | some x => exact if_neg (by rw [hnot x hx]; decide)

end Sys2Proof.Machine
end

section
/-! An active condition that raises a point from NORMAL (R43, R51, R81, R84). -/

namespace Sys2Proof.Machine

section
variable {s : Part} {p : Nat}

/-! ### The change of the point and its area -/

/-- R43: a point whose condition is active. -/
def Point.activated (x : Point) : Point := { x with shadow := true }

/-- R43: a point that an active condition has raised. -/
def Point.alarmed (x : Point) (now : W32) : Point := x.activated.raised now

/-- What the raising of point `p` from NORMAL has made of the part, before generation and records. -/
structure RaisedFrom (s u : Part) (p : Nat) : Prop where
  entering : Entering s u p ((s.point p).alarmed s.now) (s.floods p)
  flooded : s.floods p = true → s.FloodedBy u p
  rest : u = { s with points := u.points, areas := u.areas }
  area : u.area (s.pointS p).area =
    { s.area (s.pointS p).area with
      load := s.loadAfter (s.pointS p).area (s.pointS p).priority
      flood := if s.floods p then .flood else (s.area (s.pointS p).area).flood
      counts :=
        { (s.area (s.pointS p).area).counts with
          unack := (s.area (s.pointS p).area).counts.unack + 1
          deferred := (u.area (s.pointS p).area).counts.deferred }
      pend := (u.area (s.pointS p).area).pend, defer := (u.area (s.pointS p).area).defer }

theorem conditionChange_normal (hp : s.InPlant p) (hst : (s.point p).state = .normal) :
    RaisedFrom s (s.conditionChange p) p := by
  have hchange : s.conditionChange p = ((s.modPoint p Point.activated).enterUnack p).contribute p := by
    unfold Part.conditionChange
    rw [hst]
    rfl
  have hentering := enterUnack_entering (v := s.modPoint p Point.activated) hp rfl fun _ => ⟨rfl, rfl⟩
  have harea := enterUnack_area (v := s.modPoint p Point.activated) hp rfl fun _ => rfl
  have hrest : (s.modPoint p Point.activated).enterUnack p =
      { s with
        points := ((s.modPoint p Point.activated).enterUnack p).points
        areas := ((s.modPoint p Point.activated).enterUnack p).areas } := by
    rw [enterUnack_eq, place_rest]
    rfl
  rw [hchange]
  generalize (s.modPoint p Point.activated).enterUnack p = v at hentering harea hrest
  have hload : (v.area (s.pointS p).area).load = (s.area (s.pointS p).area).load := by rw [harea]
  have hflood : (v.area (s.pointS p).area).flood = (s.area (s.pointS p).area).flood := by rw [harea]
  have hpV := hentering.inPlant hp
  obtain ⟨hfloods, hafter⟩ := hentering.floods hload hflood
  obtain ⟨hraised, hflooded⟩ := hentering.contribute hp hload hflood
  have hadded := contribute_area hpV
  rw [hentering.pointS, hfloods, hafter, harea, hst] at hadded
  exact ⟨hraised, hflooded, by rw [contribute_rest hpV, hrest], hadded⟩

namespace RaisedFrom

variable {u : Part} (h : RaisedFrom s u p)
include h

theorem enteredBy : s.enteredBy u p = s.floods p := by
  rw [Part.enteredBy, h.area]
  cases hf : s.floods p with
  | true =>
    obtain ⟨hcalm, _⟩ := Bool.and_eq_true_iff.1 hf
    simp [hcalm]
  | false => simp

theorem state : (u.point p).state = .unack := by
  rw [h.entering.point]
  rfl

end RaisedFrom

/-! ### The event -/

theorem Part.bumpIf_point (u : Part) (sig : Bool) (a q : Nat) : (u.bumpIf sig a).point q = u.point q := by
  cases sig <;> rfl

/-- R12, R54: the event that raises a point is significant. -/
def Part.raisedSig (s : Part) (p : Nat) : Bool :=
  decide ((s.pointS p).priority ≤ (s.areaS (s.pointS p).area).review) || s.floods p

/-- The part in which the raising of a point is recorded; `u` is the part after the change. -/
def Part.raisedNoted (s u : Part) (p : Nat) : Part :=
  s.writeCondition (u.bumpIf (s.raisedSig p) (s.pointS p).area) p 257 (s.raisedSig p) (s.floods p)

/-- The end of a condition event, after its records: the fill, the notice and the reports. -/
def Part.raisedEnd (s w : Part) (p : Nat) (sig : Bool) : Part :=
  closeEvent s [] ((if (s.point p).state = .normal ∧ (w.point p).placement = .queued then
    w.fillAreaDesk (s.pointS p).area else w).notifyIf sig (s.pointS p).area)

/-- A condition event of an active condition after the point's change `u`. -/
def Part.noteRaised (s u : Part) (p : Nat) (sig entered : Bool) : Part :=
  s.raisedEnd (s.writeCondition (u.bumpIf sig (s.pointS p).area) p
    (256 * 1 + ((u.bumpIf sig (s.pointS p).area).point p).state.code) sig entered) p sig

theorem RaisedFrom.event (h : RaisedFrom s (s.conditionChange p) p) (hp : s.InPlant p)
    (hst : (s.point p).state = .normal) :
    s.conditionEvent p true =
      s.finish (s.raisedNoted (s.conditionChange p) p) (s.filledAt (s.conditionChange p) p) (s.pointS p).area
        (s.raisedSig p) := by
  have hunfold : s.conditionEvent p true = Part.noteRaised s (s.conditionChange p) p
      ((((s.conditionChange p).point p).state != (s.point p).state && s.reviewed p) || s.enteredBy (s.conditionChange p) p)
      (s.enteredBy (s.conditionChange p) p) := rfl
  have hsig : (((((s.conditionChange p).point p).state != (s.point p).state && s.reviewed p)
      || s.enteredBy (s.conditionChange p) p) : Bool) = s.raisedSig p := by
    rw [h.enteredBy, h.state, hst]
    rfl
  rw [hunfold, hsig, h.enteredBy]
  generalize s.conditionChange p = u at h
  have hpoint : ∀ (sig entered : Bool) (value : Nat),
      (s.writeCondition (u.bumpIf sig (s.pointS p).area) p value sig entered).point p = u.point p :=
    fun sig entered value => by
      rw [Part.writeCondition_rest]
      exact u.bumpIf_point ..
  have hvalue : 256 * 1 + ((u.bumpIf (s.raisedSig p) (s.pointS p).area).point p).state.code = 257 := by
    rw [Part.bumpIf_point, h.state]
    rfl
  have hdesk : ((s.raisedNoted u p).area (s.pointS p).area).pdesk = (s.area (s.pointS p).area).pdesk := by
    rw [Part.raisedNoted, Part.writeCondition_rest]
    show ((u.bumpIf _ _).area _).pdesk = _
    rw [Part.bumpIf_area _ _ _ _ hp.area_mem, if_pos rfl, h.area]
  have hplace : ((s.raisedNoted u p).point p).placement = (u.point p).placement := by
    rw [Part.raisedNoted, hpoint]
  unfold Part.noteRaised
  rw [hvalue]
  change Part.raisedEnd s (s.raisedNoted u p) p (s.raisedSig p) = _
  unfold Part.raisedEnd Part.finish Part.filledAt Part.fillAreaDesk
  rw [hplace, hst, hdesk]
  by_cases hq : (u.point p).placement = .queued
  · rw [if_pos ⟨rfl, hq⟩, if_pos hq]
  · rw [if_neg fun hboth => hq hboth.2, if_neg hq, Part.fill_zero]

theorem Part.raisedNoted_point (s u : Part) (p q : Nat) : (s.raisedNoted u p).point q = u.point q := by
  rw [Part.raisedNoted, Part.writeCondition_rest]
  exact u.bumpIf_point ..

theorem Part.raisedNoted_area (hp : s.InPlant p) (u : Part) (b : Nat) : (s.raisedNoted u p).area b =
    if (s.pointS p).area = b then
      { u.area b with
        generation := if s.raisedSig p then (u.area b).generation + 1 else (u.area b).generation }
    else u.area b := by
  rw [Part.raisedNoted, Part.writeCondition_rest]
  exact u.bumpIf_area _ _ _ hp.area_mem

theorem Part.raisedNoted_alike (s u : Part) (p : Nat) : u.Alike (s.raisedNoted u p) := by
  have hbump : u.Alike (u.bumpIf (s.raisedSig p) (s.pointS p).area) := by
    cases s.raisedSig p
    exacts [.refl _, .bump ..]
  refine hbump.trans ?_
  rw [Part.raisedNoted, Part.writeCondition_rest]
  exact .rest rfl rfl rfl rfl rfl rfl

/-- R54, R94: the records of the event, before their numbers and stamps. -/
def Part.conditionFields (s : Part) (p value : Nat) (sig entered : Bool) : List (Bool × W16 × RecordFields) :=
  let a := (s.pointS p).area
  let pr := (s.pointS p).priority
  let gen := if sig then (s.area a).generation + 1 else (s.area a).generation
  [(sig, gen, { kind := .condition, area := a, point := p, priority := pr, value := w16 value })]
    ++ if entered then
        [(true, gen,
          { kind := .floodEnter, area := a, point := p, priority := pr, value := w16 (s.loadAfter a pr)
            flags := if (s.area a).flood = .releasing then flagReflood else 0 })]
      else []

theorem Part.conditionRecords_eq (s : Part) (p value : Nat) (sig entered : Bool) :
    s.conditionRecords p value sig entered = s.records (s.conditionFields p value sig entered) := rfl

theorem RaisedFrom.unfinished {u : Part} (h : RaisedFrom s u p) (hp : s.InPlant p) (e : Nat) :
    Unfinished s (s.raisedNoted u p) e (s.pointS p).area (s.conditionFields p 257 (s.raisedSig p) (s.floods p)) := by
  have hmine := Part.raisedNoted_area hp u (s.pointS p).area
  rw [if_pos rfl] at hmine
  have hrest : s.raisedNoted u p =
      { s with
        points := u.points, areas := (u.bumpIf (s.raisedSig p) (s.pointS p).area).areas
        rst := (s.raisedNoted u p).rst } := by
    have hwrite : s.raisedNoted u p =
        { u with
          areas := (u.bumpIf (s.raisedSig p) (s.pointS p).area).areas, rst := (s.raisedNoted u p).rst } :=
      (s.writeCondition_rest ..).trans (congrArg (fun v : Part => { v with rst := (s.raisedNoted u p).rst }) (u.bumpIf_rest ..))
    exact hwrite.trans (congrArg (fun v : Part => { v with
      areas := (u.bumpIf (s.raisedSig p) (s.pointS p).area).areas, rst := (s.raisedNoted u p).rst }) h.rest)
  have hdesk : ∀ d, (s.raisedNoted u p).desk d = s.desk d := fun d => by
    rw [hrest]
    rfl
  refine ⟨?_, fun d _ => by rw [hdesk], fun d _ _ => hdesk d, by rw [hmine, h.area], ?_⟩
  · conv_lhs => rw [hrest]
    rw [hrest]
  · have hbump : u.bumpIf (s.raisedSig p) (s.pointS p).area = { s with
        points := (u.bumpIf (s.raisedSig p) (s.pointS p).area).points
        areas := (u.bumpIf (s.raisedSig p) (s.pointS p).area).areas } := by
      have hpoints : (u.bumpIf (s.raisedSig p) (s.pointS p).area).points = u.points := by rw [Part.bumpIf_rest]
      rw [hpoints]
      exact (u.bumpIf_rest ..).trans (congrArg (fun v : Part =>
        { v with areas := (u.bumpIf (s.raisedSig p) (s.pointS p).area).areas }) h.rest)
    have hreports := s.writeCondition_reports (u.bumpIf (s.raisedSig p) (s.pointS p).area) p 257 (s.raisedSig p) (s.floods p)
    have harea := u.bumpIf_area (s.raisedSig p) (s.pointS p).area (s.pointS p).area hp.area_mem
    rw [if_pos rfl] at harea
    have hrst : (u.bumpIf (s.raisedSig p) (s.pointS p).area).rst = s.rst := by rw [hbump]
    rw [hrst] at hreports
    refine ⟨?_, hreports.1, hreports.2.1, by rw [hrest]; rfl, by rw [hrest]; rfl⟩
    exact Part.writeCondition_recorded hbump (Nat.ne_zero_of_lt ((mem_numbers _).1 hp.area_mem).1)
      (by rw [harea, h.area]) fun _ => by rw [harea, h.area]

/-- R43, R51, R81, R84: what the event has made of the part. -/
theorem conditionEvent_raised (hp : s.InPlant p) (hst : (s.point p).state = .normal) :
    s.Raised (s.conditionEvent p true) p := by
  have hfrom := conditionChange_normal hp hst
  rw [hfrom.event hp hst]
  generalize s.conditionChange p = u at hfrom
  have hdone := (hfrom.unfinished hp (s.filledAt u p)).finish (s.raisedSig p)
  have hwarea := Part.raisedNoted_area hp u
  have hwpoint := s.raisedNoted_point u p
  have halike := s.raisedNoted_alike u p
  generalize s.finish (s.raisedNoted u p) (s.filledAt u p) (s.pointS p).area (s.raisedSig p) = t at hdone
  have hshelf : (s.raisedNoted u p).shelf = s.shelf := by
    rw [Part.raisedNoted, Part.writeCondition_rest, Part.bumpIf_rest, hfrom.rest]
  generalize s.raisedNoted u p = w at hdone hwarea hwpoint halike hshelf
  have hmine := hwarea (s.pointS p).area
  rw [if_pos rfl] at hmine
  have hentered := hfrom.entering.entered hp hwpoint
    (fun b _ hba => (hwarea b).trans (if_neg hba.symm)) halike hdone
  have hpoint : t.point p = { (s.point p).alarmed s.now with placement := (t.point p).placement } := hentered.point
  have harea : t.area (s.pointS p).area =
      { s.area (s.pointS p).area with
        load := s.loadAfter (s.pointS p).area (s.pointS p).priority
        flood := if s.floods p then .flood else (s.area (s.pointS p).area).flood
        generation :=
          if s.raisedSig p then (s.area (s.pointS p).area).generation + 1 else (s.area (s.pointS p).area).generation
        counts :=
          { (s.area (s.pointS p).area).counts with
            unack := (s.area (s.pointS p).area).counts.unack + 1
            deferred := (t.area (s.pointS p).area).counts.deferred }
        pend := (t.area (s.pointS p).area).pend, defer := (t.area (s.pointS p).area).defer } := by
    rw [hdone.area, hmine, hfrom.area]
  have hstate : (t.point p).state = .unack := by
    rw [hpoint]
    rfl
  refine ⟨hpoint, hentered.placed, harea, hentered.deferred, hentered.queued, fun hfloods k hk hcut => ?_, hentered.board,
    hdone.wrote, hdone.noticed, hdone.shelf.trans hshelf, hentered.frame, hdone.tellsPoint p hp.point_mem ?_,
    hdone.tellsArea _ hp.area_mem ?_⟩
  · rw [hdone.area, hmine]
    exact hfrom.flooded hfloods k hk hcut
  · unfold pointReported
    rw [hstate, hst]
    rfl
  · have hcounts : (s.area (s.pointS p).area).counts ≠ (t.area (s.pointS p).area).counts := fun he => by
      have hunack := congrArg Counts.unack he
      rw [harea] at hunack
      simp at hunack
    unfold areaReported
    rw [bne_iff_ne.2 hcounts]
    rfl

end

end Sys2Proof.Machine
end

section
/-! The selections of a fill as the statements say them, and O13. -/

namespace Sys2Proof.Machine

/-! ### The fill (R101 to R104) -/

/-- R99, R102: the candidate leaves the head of its queue for the slot. -/
theorem placeInSlot_tookSlot (s : Part) (d k a pr p : Nat) : s.TookSlot (s.placeInSlot d k a pr p) d k a pr p :=
  ⟨rfl, fun _ hq => Part.modPoint_point_of _ _ _ hq, fun _ hb => Part.modArea_area_of _ _ _ hb,
    fun _ he => Part.modDesk_desk_of _ _ _ he⟩

theorem fillStep_of_noCandidate {s : Part} {d : Nat} (h : s.candidate d = none) : s.fillStep d = none := by
  unfold Part.fillStep
  rw [h]

theorem fillStep_of_empty {s : Part} {d k a pr p : Nat} (h : s.candidate d = some (a, pr, p))
    (hk : (s.desk d).emptySlotNo = some k) : s.fillStep d = some (s.placeInSlot d k a pr p) := by
  unfold Part.fillStep
  rw [h]
  simp only [hk]

theorem fillStep_of_full {s : Part} {d k a pr p : Nat} (h : s.candidate d = some (a, pr, p))
    (hfull : (s.desk d).emptySlotNo = none) (hk : s.leastUrgent d = some k) :
    s.fillStep d = if pr < s.slotPriority d k then some ((s.returnSlot d k).placeInSlot d k a pr p) else none := by
  unfold Part.fillStep
  rw [h]
  simp only [hfull, hk]

/-- The lowest-numbered empty slot. -/
theorem emptySlotNo_of_first {x : Desk} {k : Nat} (hk : k ∈ numbers 4) (hempty : getAt x.slots k = none)
    (hlow : ∀ j ∈ numbers 4, j < k → getAt x.slots j ≠ none) : x.emptySlotNo = some k := by
  have hfirst := emptySlotNo_isFirst x
  cases hno : x.emptySlotNo with
  | none =>
    rw [hno] at hfirst
    exact absurd ⟨hk, hempty⟩ (hfirst k)
  | some j =>
    rw [hno] at hfirst
    obtain ⟨⟨hj, hjempty⟩, hjlow⟩ := hfirst
    rcases Nat.lt_trichotomy j k with hlt | heq | hgt
    · exact absurd hjempty (hlow j hj hlt)
    · rw [heq]
    · exact absurd hgt (Nat.not_lt.2 (hjlow k ⟨hk, hempty⟩))

theorem emptySlotNo_of_full {x : Desk} (hfull : ∀ k ∈ numbers 4, getAt x.slots k ≠ none) : x.emptySlotNo = none := by
  have hfirst := emptySlotNo_isFirst x
  cases hno : x.emptySlotNo with
  | none => rfl
  | some j =>
    rw [hno] at hfirst
    obtain ⟨⟨hj, hjempty⟩, _⟩ := hfirst
    exact absurd hjempty (hfull j hj)

theorem fill_of_settled {s : Part} {d : Nat} (h : s.fillStep d = none) : s.fill d = s := by
  unfold Part.fill fillBound Part.fillLoop
  rw [h]
  exact ite_self _

/-! ### The answer of the request -/

theorem Part.Raised.answered {s t : Part} {p : Nat} (h : s.taken.Raised t p) {x : Lif} (hlink : x.link = t.lif.link) :
    s.Raised { t with lif := x } p := by
  obtain ⟨h1, h2, h3, h4, h5, h6, hboard, hwrote, h7, h8, h9, h10, h11⟩ := h
  exact ⟨h1, h2, h3, h4, h5, h6,
    Part.SameBoard.trans (Part.boardOfEntry_alike (Part.Alike.taken s) (p := p) rfl (s.floods p)).sameBoard hboard,
    Part.Wrote.answered hwrote hlink, h7, h8, h9, h10, h11⟩

theorem conditionEvent_normal_lif {s : Part} {p : Nat} (hp : s.InPlant p) (hst : (s.point p).state = .normal) :
    (s.conditionEvent p true).lif = s.lif := by
  have hfrom := conditionChange_normal hp hst
  rw [hfrom.event hp hst]
  exact Part.finish_lif (hfrom.unfinished hp _) _

/-- Settles O13: the fill's selections, and the active condition of a point in NORMAL. -/
theorem activeConditionRaisesANormalPoint : Obligations.ActiveConditionRaisesANormalPoint := by
  refine ⟨fun s d hdesk => ⟨fun hnone => ?_, fun a pr p hcand => ⟨fun k hk hempty hlow => ?_, fun hfull hnd k hleast => ?_⟩,
    fun k y hy => returnSlot_gaveBack hy, fun hs => ⟨fill_of_settled, fun t ht => ?_⟩⟩, Part.fill_zero,
    fun s tag body h hlen hp hst => ⟨fun hactive => ?_, fun hclear => ?_⟩⟩
  · exact fillStep_of_noCandidate ((candidate_eq_none_iff s d).2 hnone)
  · exact ⟨_, fillStep_of_empty hcand.candidate (emptySlotNo_of_first hk hempty hlow), placeInSlot_tookSlot ..⟩
  · have hstep := fillStep_of_full hcand.candidate (emptySlotNo_of_full hfull) (hleast.leastUrgent hnd)
    exact ⟨fun hle => hstep.trans (if_neg (Nat.not_lt.2 hle)),
      fun hlt => ⟨_, hstep.trans (if_pos hlt), placeInSlot_tookSlot ..⟩⟩
  · exact fill_fillStep hs.boardOk ((isDesk_iff d).1 hdesk) ht
  · have hheld : s.taken.conditionHeld (field16 body 0) true = false := by
      have hstate : (s.taken.point (field16 body 0)).state = .normal := hst
      unfold Part.conditionHeld
      rw [hstate]
      rfl
    have hitem := conditionItem_inPlant (s := s.taken) hp true
    rw [if_neg (by rw [hheld]; exact Bool.false_ne_true)] at hitem
    have hdone := (completes_conditions_iff h hlen).2 rfl
    rw [hactive, show (1 : Nat) = true.toNat from rfl, hitem] at hdone
    have hraised := conditionEvent_raised (s := s.taken) hp hst
    have hlif := conditionEvent_normal_lif (s := s.taken) hp hst
    generalize s.taken.conditionEvent (field16 body 0) true = v at hdone hraised hlif
    rw [Part.reply_rest, Part.reply_lif .conditions tag _ hlif] at hdone
    exact ⟨_, hdone, rfl, hraised.answered (Part.answer_link_of hlif ..)⟩
  · refine completes_conditions_repeated h hlen hp (active := false) hclear ?_
    unfold Part.conditionHeld
    rw [hst]
    rfl

end Sys2Proof.Machine
end

section
/-! The releases of deferred points (R86, R92) as one change of an area's queues and of the places of the points released. -/

namespace Sys2Proof.Machine

/-! ### The points released -/

/-- The number of points deferred in the queues more urgent than `k`. -/
def Area.deferredBefore (x : Area) (k : Nat) : Nat :=
  (((numbers 4).filter (· < k)).map fun j => (getAt x.defer j).length).sum

theorem Area.share_eq (x : Area) (n k : Nat) :
    x.share n k = min (getAt x.defer k).length (n - x.deferredBefore k) := rfl

/-- R86: the points that `n` releases take from the deferred queue of priority `k`. -/
def Area.freed (x : Area) (n k : Nat) : List Nat := (getAt x.defer k).take (x.share n k)

/-- R86: the points that `n` releases take, in the order in which they go. -/
def Area.freedAll (x : Area) (n : Nat) : List Nat := (numbers 4).flatMap (x.freed n)

/-- R86: area `x` after `n` releases. -/
def Area.released (x : Area) (n : Nat) : Area :=
  { x with
    pend := #v[getAt x.pend 1 ++ x.freed n 1, getAt x.pend 2 ++ x.freed n 2, getAt x.pend 3 ++ x.freed n 3,
      getAt x.pend 4 ++ x.freed n 4]
    defer := #v[(getAt x.defer 1).drop (x.share n 1), (getAt x.defer 2).drop (x.share n 2),
      (getAt x.defer 3).drop (x.share n 3), (getAt x.defer 4).drop (x.share n 4)]
    counts := { x.counts with deferred := x.counts.deferred - n } }

theorem Area.released_pend (x : Area) (n : Nat) {k : Nat} (hk : k ∈ numbers 4) :
    getAt (x.released n).pend k = getAt x.pend k ++ x.freed n k := by
  rcases mem_numbers_four hk with rfl | rfl | rfl | rfl <;> rfl

theorem Area.released_defer (x : Area) (n : Nat) {k : Nat} (hk : k ∈ numbers 4) :
    getAt (x.released n).defer k = (getAt x.defer k).drop (x.share n k) := by
  rcases mem_numbers_four hk with rfl | rfl | rfl | rfl <;> rfl

/-- R86: the points named are QUEUED. -/
def Part.setQueued (s : Part) (l : List Nat) : Part :=
  l.foldl (fun v q => v.modPoint q fun y => { y with placement := .queued }) s

theorem boardOfRelease_eq (s : Part) (a n : Nat) :
    s.boardOfRelease a n = (s.modArea a (·.released n)).setQueued ((s.area a).freedAll n) := by
  have hareas : modAt s.areas a (·.released n) = modAt s.areas a fun y =>
      { y with
        pend := ((s.area a).released n).pend, defer := ((s.area a).released n).defer
        counts := { y.counts with deferred := y.counts.deferred - n } } := modAt_congr _ _ rfl
  unfold Part.modArea
  rw [hareas]
  rfl

/-! ### One release -/

/-- R86: area `x` after the release of the head `p` of its deferred queue of priority `pr`. -/
def Area.releasedOne (x : Area) (pr p : Nat) (rest : List Nat) : Area :=
  { x with
    defer := setAt x.defer pr rest
    pend := modAt x.pend pr (· ++ [p])
    counts := { x.counts with deferred := x.counts.deferred - 1 } }

/-- Priority `pr` is the most urgent with a deferred point, and `p` heads its queue. -/
structure Area.Foremost (x : Area) (pr p : Nat) (rest : List Nat) : Prop where
  priority : pr ∈ numbers 4
  head : getAt x.defer pr = p :: rest
  before : ∀ k ∈ numbers 4, k < pr → getAt x.defer k = []

theorem releaseOne_cases {s : Part} {a : Nat} (ha : a ∈ numbers 16) :
    (s.releaseOne a = none ∧ (s.area a).deferredTotal = 0)
    ∨ ∃ (pr p : Nat) (rest : List Nat) (t : Part), (s.area a).Foremost pr p rest ∧ s.releaseOne a = some t
        ∧ t = (s.modArea a fun x => x.releasedOne pr p rest).setQueued [p]
        ∧ t.area a = (s.area a).releasedOne pr p rest := by
  have hfirst := isFirst_find (fun pr => !(getAt (s.area a).defer pr).isEmpty) 4
  unfold Part.releaseOne Area.deferredPriority
  change IsFirst _ ([1, 2, 3, 4].find? _) at hfirst
  cases hfind : [1, 2, 3, 4].find? fun pr => !(getAt (s.area a).defer pr).isEmpty with
  | none =>
    rw [hfind] at hfirst
    have hempty : ∀ k ∈ numbers 4, getAt (s.area a).defer k = [] := fun k hk => by
      by_contra hne
      exact hfirst k ⟨hk, by simpa using hne⟩
    refine .inl ⟨rfl, ?_⟩
    rw [Area.deferredTotal_eq, queueTotal]
    simp [hempty 1 (by decide), hempty 2 (by decide), hempty 3 (by decide), hempty 4 (by decide)]
  | some pr =>
    rw [hfind] at hfirst
    obtain ⟨⟨hpr, hne⟩, hlow⟩ := hfirst
    cases hq : getAt (s.area a).defer pr with
    | nil =>
      rw [hq] at hne
      cases hne
    | cons p rest =>
      refine .inr ⟨pr, p, rest, _, ⟨hpr, hq, fun k hk hlt => ?_⟩, ?_, rfl, ?_⟩
      · by_contra hnek
        exact absurd hlt (Nat.not_lt.2 (hlow k ⟨hk, by simpa using hnek⟩))
      · simp only [hq]
        rfl
      · exact (Part.modArea_area_of s a _ ha).trans (if_pos rfl)

/-- Two sums over the same numbers that differ by one at one of them. -/
theorem sum_map_succ_at {l : List Nat} (hl : l.Nodup) {i : Nat} (hi : i ∈ l) {f g : Nat → Nat} (hat : f i = g i + 1)
    (hoff : ∀ j, j ≠ i → f j = g j) : (l.map f).sum = (l.map g).sum + 1 := by
  induction l with
  | nil => cases hi
  | cons j l ih =>
    obtain ⟨hj, hl⟩ := List.nodup_cons.1 hl
    rw [List.map_cons, List.map_cons, List.sum_cons, List.sum_cons]
    rcases List.mem_cons.1 hi with rfl | hin
    · have hsame : l.map f = l.map g := List.map_congr_left fun m hm => hoff m fun he => hj (he ▸ hm)
      rw [hsame, hat]
      omega
    · rw [hoff j fun he => hj (he ▸ hin), ih hl hin]
      omega

section
variable {x : Area} {pr p : Nat} {rest : List Nat} (h : x.Foremost pr p rest)
include h

theorem Area.Foremost.queue (k : Nat) :
    getAt (x.releasedOne pr p rest).defer k = if pr = k then rest else getAt x.defer k := by
  show getAt (setAt x.defer pr rest) k = _
  rw [getAt_setAt]
  simp only [(mem_numbers pr).1 h.priority, and_true]

theorem Area.Foremost.deferredBefore_le {k : Nat} (hk : k ≤ pr) : x.deferredBefore k = 0 := by
  refine List.sum_eq_zero fun n hn => ?_
  obtain ⟨j, hj, rfl⟩ := List.mem_map.1 hn
  obtain ⟨hj4, hlt⟩ := List.mem_filter.1 hj
  rw [h.before j hj4 (by simpa using Nat.lt_of_lt_of_le (of_decide_eq_true hlt) hk)]
  rfl

theorem Area.Foremost.deferredBefore_releasedOne (k : Nat) :
    x.deferredBefore k = (x.releasedOne pr p rest).deferredBefore k + (if pr < k then 1 else 0) := by
  unfold Area.deferredBefore
  split
  · next hlt =>
    refine sum_map_succ_at ((numbers_nodup 4).filter _) (List.mem_filter.2 ⟨h.priority, decide_eq_true hlt⟩) ?_ fun j hj => ?_
    · rw [h.queue, if_pos rfl, h.head]
      rfl
    · rw [h.queue, if_neg hj.symm]
  · next hge =>
    refine congrArg List.sum (List.map_congr_left fun j hj => ?_)
    have hlt := of_decide_eq_true (List.mem_filter.1 hj).2
    rw [h.queue, if_neg (by omega)]

/-- R86: a release more takes the head of the most urgent queue first, and then what the others take. -/
theorem Area.Foremost.split (n : Nat) {k : Nat} (hk : k ∈ numbers 4) :
    x.freed (n + 1) k = (if k = pr then [p] else []) ++ (x.releasedOne pr p rest).freed n k
    ∧ (getAt x.defer k).drop (x.share (n + 1) k) =
        (getAt (x.releasedOne pr p rest).defer k).drop ((x.releasedOne pr p rest).share n k) := by
  unfold Area.freed
  rw [Area.share_eq, Area.share_eq, h.deferredBefore_releasedOne k, h.queue]
  rcases Nat.lt_trichotomy k pr with hlt | rfl | hgt
  · rw [if_neg (show ¬pr = k by omega), if_neg (show ¬k = pr by omega), if_neg (show ¬pr < k by omega), h.before k hk hlt]
    simp
  · have hzero := h.deferredBefore_releasedOne k
    rw [h.deferredBefore_le (Nat.le_refl k), if_neg (Nat.lt_irrefl k)] at hzero
    have hnone : (x.releasedOne k p rest).deferredBefore k = 0 := by omega
    rw [if_pos rfl, if_pos rfl, if_neg (Nat.lt_irrefl k), hnone, h.head, List.length_cons, Nat.add_zero, Nat.sub_zero,
      Nat.sub_zero, Nat.add_min_add_right]
    exact ⟨rfl, rfl⟩
  · rw [if_neg (show ¬pr = k by omega), if_neg (show ¬k = pr by omega), if_pos hgt, Nat.add_sub_add_right]
    exact ⟨rfl, rfl⟩

theorem Area.Foremost.released_succ (n : Nat) : x.released (n + 1) = (x.releasedOne pr p rest).released n := by
  have hpend : (x.released (n + 1)).pend = ((x.releasedOne pr p rest).released n).pend :=
    table_ext _ _ fun k h1 h4 => by
      have hk := (mem_numbers k).2 ⟨h1, h4⟩
      rw [Area.released_pend _ _ hk, Area.released_pend _ _ hk, (h.split n hk).1, ← List.append_assoc]
      refine congrArg (· ++ _) ?_
      show _ = getAt (modAt x.pend pr (· ++ [p])) k
      rw [getAt_modAt]
      by_cases hkp : k = pr
      · rw [if_pos hkp, if_pos ⟨hkp.symm, (mem_numbers pr).1 h.priority⟩]
      · rw [if_neg hkp, if_neg fun he => hkp he.1.symm, List.append_nil]
  have hdefer : (x.released (n + 1)).defer = ((x.releasedOne pr p rest).released n).defer :=
    table_ext _ _ fun k h1 h4 => by
      have hk := (mem_numbers k).2 ⟨h1, h4⟩
      rw [Area.released_defer _ _ hk, Area.released_defer _ _ hk, (h.split n hk).2]
  have hcount : x.counts.deferred - (n + 1) = x.counts.deferred - 1 - n := by omega
  show ({ x with
    pend := (x.released (n + 1)).pend, defer := (x.released (n + 1)).defer
    counts := { x.counts with deferred := x.counts.deferred - (n + 1) } } : Area) = _
  rw [hpend, hdefer, hcount]
  rfl

theorem Area.Foremost.freedAll_succ (n : Nat) :
    x.freedAll (n + 1) = p :: (x.releasedOne pr p rest).freedAll n := by
  have hbefore : ∀ k ∈ numbers 4, k < pr → (x.releasedOne pr p rest).freed n k = [] := fun k hk hlt => by
    unfold Area.freed
    rw [h.queue, if_neg (by omega), h.before k hk hlt, List.take_nil]
  have hfreed := fun k hk => (h.split n (k := k) hk).1
  have hall : ∀ y m, Area.freedAll y m = y.freed m 1 ++ (y.freed m 2 ++ (y.freed m 3 ++ (y.freed m 4 ++ []))) :=
    fun _ _ => rfl
  rw [hall, hall, hfreed 1 (by decide), hfreed 2 (by decide), hfreed 3 (by decide), hfreed 4 (by decide)]
  rcases mem_numbers_four h.priority with rfl | rfl | rfl | rfl
  · rfl
  · simp [hbefore 1 (by decide) (by decide)]
  · simp [hbefore 1 (by decide) (by decide), hbefore 2 (by decide) (by decide)]
  · simp [hbefore 1 (by decide) (by decide), hbefore 2 (by decide) (by decide), hbefore 3 (by decide) (by decide)]

theorem Area.Foremost.deferredTotal : x.deferredTotal = (x.releasedOne pr p rest).deferredTotal + 1 := by
  rw [Area.deferredTotal_eq, Area.deferredTotal_eq]
  refine sum_map_succ_at (numbers_nodup 4) h.priority ?_ fun j hj => ?_
  · rw [h.queue, if_pos rfl, h.head]
    rfl
  · rw [h.queue, if_neg hj.symm]

end

/-! ### All releases -/

theorem Area.released_zero (x : Area) : x.released 0 = x := by
  have hpend : (x.released 0).pend = x.pend := table_ext _ _ fun k h1 h4 => by
    rw [Area.released_pend _ _ ((mem_numbers k).2 ⟨h1, h4⟩), Area.freed, Area.share_eq, Nat.zero_sub, Nat.min_zero,
      List.take_zero, List.append_nil]
  have hdefer : (x.released 0).defer = x.defer := table_ext _ _ fun k h1 h4 => by
    rw [Area.released_defer _ _ ((mem_numbers k).2 ⟨h1, h4⟩), Area.share_eq, Nat.zero_sub, Nat.min_zero, List.drop_zero]
  show ({ x with pend := (x.released 0).pend, defer := (x.released 0).defer } : Area) = x
  rw [hpend, hdefer]

theorem Area.freedAll_zero (x : Area) : x.freedAll 0 = [] := by
  refine List.flatMap_eq_nil_iff.2 fun k _ => ?_
  rw [Area.freed, Area.share_eq, Nat.zero_sub, Nat.min_zero, List.take_zero]

theorem boardOfRelease_zero (s : Part) (a : Nat) : s.boardOfRelease a 0 = s := by
  have hareas : modAt s.areas a (·.released 0) = s.areas := table_ext _ _ fun b _ _ => by
    rw [getAt_modAt]
    split
    · exact Area.released_zero _
    · rfl
  rw [boardOfRelease_eq, Area.freedAll_zero]
  show ({ s with areas := modAt s.areas a (·.released 0) } : Part) = s
  rw [hareas]

theorem Part.setQueued_rest (s : Part) (l : List Nat) : s.setQueued l = { s with points := (s.setQueued l).points } :=
  setPlacements_rest .queued l s

/-- R86, R92: the releases as one change. -/
theorem releaseUpTo_eq (n : Nat) (s : Part) {a : Nat} (ha : a ∈ numbers 16) :
    s.releaseUpTo n a =
      (s.boardOfRelease a (min n (s.area a).deferredTotal), min n (s.area a).deferredTotal) := by
  induction n generalizing s with
  | zero =>
    rw [Nat.zero_min, boardOfRelease_zero]
    rfl
  | succ n ih =>
    unfold Part.releaseUpTo
    rcases releaseOne_cases (s := s) ha with ⟨hnone, htotal⟩ | ⟨pr, p, rest, t, hfirst, hsome, ht, harea⟩
    · rw [hnone, htotal, Nat.min_zero, boardOfRelease_zero]
    · have hmin : min (n + 1) (s.area a).deferredTotal = min n (t.area a).deferredTotal + 1 := by
        rw [harea, hfirst.deferredTotal, Nat.add_min_add_right]
      rw [hsome, hmin]
      simp only [ih t]
      refine congrArg (·, _) ?_
      generalize min n (t.area a).deferredTotal = m
      rw [boardOfRelease_eq, boardOfRelease_eq, harea, hfirst.freedAll_succ]
      have hareas : modAt s.areas a (·.released (m + 1)) =
          modAt (modAt s.areas a fun x => x.releasedOne pr p rest) a (·.released m) := by
        rw [modAt_modAt]
        exact modAt_congr _ _ (hfirst.released_succ m)
      unfold Part.modArea
      rw [hareas, ht]
      rfl

end Sys2Proof.Machine
end

section
/-! What releases leave of an area's queues and of the points' places, before and after the fill. -/

namespace Sys2Proof.Machine

/-! ### A fill moves points to queues and slots -/

/-- A point waits in a pending queue or stands in a slot. -/
def Placement.Shown (x : Placement) : Prop := x ≠ .none ∧ x ≠ .deferred

theorem fill_shown {s : Part} {q : Nat} (d : Nat) (h : (s.point q).placement.Shown) :
    ((s.fill d).point q).placement.Shown :=
  fill_keeps (P := Placement.Shown) (by constructor <;> decide) (fun _ _ => ⟨nofun, nofun⟩) d h

/-- A fill leaves a point where it was, in a queue or in a slot. -/
theorem fill_moved (s : Part) (q d : Nat) :
    ((s.fill d).point q).placement = (s.point q).placement ∨ ((s.fill d).point q).placement.Shown :=
  fill_keeps (P := fun x => x = (s.point q).placement ∨ x.Shown) (.inr (by constructor <;> decide))
    (fun _ _ => .inr ⟨nofun, nofun⟩) d (.inl rfl)

/-! ### The area after the releases -/

theorem Area.deferredBefore_values (x : Area) :
    x.deferredBefore 1 = 0 ∧ x.deferredBefore 2 = (getAt x.defer 1).length
    ∧ x.deferredBefore 3 = (getAt x.defer 1).length + (getAt x.defer 2).length
    ∧ x.deferredBefore 4 = (getAt x.defer 1).length + (getAt x.defer 2).length + (getAt x.defer 3).length := by
  have hbefore : ∀ k, x.deferredBefore k =
      (((numbers 4).filter (· < k)).map fun j => (getAt x.defer j).length).sum := fun _ => rfl
  refine ⟨rfl, ?_, ?_, ?_⟩
  · rw [hbefore, show (numbers 4).filter (· < 2) = [1] from rfl]
    simp
  · rw [hbefore, show (numbers 4).filter (· < 3) = [1, 2] from rfl]
    simp
  · rw [hbefore, show (numbers 4).filter (· < 4) = [1, 2, 3] from rfl]
    simp
    omega

theorem Area.deferredTotal_sum (x : Area) :
    x.deferredTotal = (getAt x.defer 1).length + (getAt x.defer 2).length + (getAt x.defer 3).length
      + (getAt x.defer 4).length := by
  unfold Area.deferredTotal
  simp
  omega

theorem Area.released_deferredTotal (x : Area) (n : Nat) : (x.released n).deferredTotal = x.deferredTotal - n := by
  obtain ⟨h1, h2, h3, h4⟩ := x.deferredBefore_values
  rw [Area.deferredTotal_sum, Area.deferredTotal_sum, Area.released_defer _ _ (by decide), Area.released_defer _ _ (by decide),
    Area.released_defer _ _ (by decide), Area.released_defer _ _ (by decide)]
  simp only [List.length_drop, Area.share_eq, h1, h2, h3, h4]
  omega

theorem Area.nothingDeferred_iff (x : Area) : x.nothingDeferred = true ↔ x.deferredTotal = 0 := by
  rw [Area.deferredTotal_sum]
  simp only [Area.nothingDeferred, List.all_cons, List.all_nil, Bool.and_true, Bool.and_eq_true, List.isEmpty_iff_length_eq_zero]
  omega

/-- A release of as many points as are deferred takes them all. -/
theorem Area.mem_freedAll_total (x : Area) {k q : Nat} (hk : k ∈ numbers 4) (hq : q ∈ getAt x.defer k) :
    q ∈ x.freedAll x.deferredTotal := by
  refine List.mem_flatMap.2 ⟨k, hk, ?_⟩
  have hall : (getAt x.defer k).length ≤ x.share x.deferredTotal k := by
    obtain ⟨h1, h2, h3, h4⟩ := x.deferredBefore_values
    rw [Area.share_eq, Area.deferredTotal_sum]
    rcases mem_numbers_four hk with rfl | rfl | rfl | rfl <;> omega
  unfold Area.freed
  rw [List.take_of_length_le hall]
  exact hq

/-! ### The part after the releases -/

section
variable (s : Part) {a : Nat} (ha : a ∈ numbers 16) (n : Nat)

theorem boardOfRelease_places : PlacesOnly s (s.boardOfRelease a n) := by
  rw [boardOfRelease_eq]
  exact (PlacesOnly.modQueues s a (·.released n) fun _ => rfl).trans (setPlacements_places ..)

theorem boardOfRelease_rest :
    s.boardOfRelease a n =
      { s with points := (s.boardOfRelease a n).points, areas := (s.boardOfRelease a n).areas } := by
  rw [boardOfRelease_eq, Part.setQueued_rest]
  rfl

theorem boardOfRelease_placement {q : Nat} (hq : q ∈ numbers 1024) :
    ((s.boardOfRelease a n).point q).placement =
      if q ∈ (s.area a).freedAll n then .queued else (s.point q).placement := by
  rw [boardOfRelease_eq]
  exact setPlacements_placement .queued _ _ q hq

include ha in
theorem boardOfRelease_area (b : Nat) :
    (s.boardOfRelease a n).area b = if a = b then (s.area b).released n else s.area b := by
  rw [boardOfRelease_eq, Part.setQueued_rest]
  refine (s.modArea_area a b _).trans (if_congr ?_ rfl rfl)
  simp [(mem_numbers a).1 ha]

end

theorem Area.Alike.freed {x y : Area} (h : x.Alike y) (n k : Nat) : x.freed n k = y.freed n k := by
  obtain ⟨_, hdefer, _, _⟩ := h
  unfold Area.freed Area.share
  rw [hdefer]

theorem Area.Alike.released {x y : Area} (h : x.Alike y) (n : Nat) : (x.released n).Alike (y.released n) := by
  have hfreed := h.freed n
  obtain ⟨hpend, hdefer, hcount, hdesk⟩ := h
  refine ⟨?_, ?_, ?_, hdesk⟩
  · show #v[_, _, _, _] = #v[_, _, _, _]
    rw [hpend, hfreed, hfreed, hfreed, hfreed]
  · show #v[_, _, _, _] = #v[_, _, _, _]
    unfold Area.share
    rw [hdefer]
  · show x.counts.deferred - n = y.counts.deferred - n
    rw [hcount]

theorem Part.Alike.boardOfRelease {u v : Part} (h : u.Alike v) (a n : Nat) :
    (u.boardOfRelease a n).Alike (v.boardOfRelease a n) := by
  have hfreed : (u.area a).freedAll n = (v.area a).freedAll n := by
    unfold Area.freedAll
    rw [funext ((h.area a).freed n)]
  rw [boardOfRelease_eq, boardOfRelease_eq, hfreed]
  exact foldl_setPlacement_alike (h.modArea a fun _ _ hx => hx.released n) .queued _

/-! ### The end of an event that released points -/

/-- R86, R92: what an event has made of the part that released `n` points of area `a`; `w` is the part before the fill. -/
theorem Finished.releasedFrom {s w t : Part} {a n e : Nat} {sig : Bool} {l : List (Bool × W16 × RecordFields)}
    (hdone : Finished s w t e a sig l) (ha : a ∈ numbers 16) (he : e = if n = 0 then 0 else (s.area a).pdesk)
    (halike : (s.boardOfRelease a n).Alike w)
    (hcounts : (w.area a).counts = { (s.area a).counts with deferred := (s.area a).counts.deferred - n }) :
    s.ReleasedFrom t a n := by
  have hboard : ((s.boardOfRelease a n).fill e).SameBoard t := (halike.fill e).sameBoard.trans hdone.board
  refine ⟨?_, ?_, by rw [hdone.area, hcounts], fun q hq hmoved => ?_⟩
  · by_cases hn : n = 0
    · rw [if_pos hn] at he ⊢
      rwa [hn, boardOfRelease_zero, he, Part.fill_zero] at hboard
    · rw [if_neg hn] at he ⊢
      rwa [he] at hboard
  · obtain ⟨_, hdefer, _, _⟩ := halike.area a
    rw [boardOfRelease_area s ha, if_pos rfl] at hdefer
    rw [hdone.area, Area.deferredTotal_eq]
    show queueTotal (w.area a).defer = _
    rw [← hdefer, ← Area.deferredTotal_eq, Area.released_deferredTotal]
  · have hplace := boardOfRelease_placement s (a := a) n hq
    rw [hboard.1 q hq] at hmoved ⊢
    show Placement.Shown _
    rcases fill_moved (s.boardOfRelease a n) q e with hsame | hshown
    · rw [hsame, hplace] at hmoved ⊢
      split at hmoved
      · next hin =>
        rw [if_pos hin]
        constructor <;> decide
      · exact absurd rfl hmoved
    · exact hshown

end Sys2Proof.Machine
end

section
/-! The 1 s tick of an area (R82, R83, R86). -/

namespace Sys2Proof.Machine

/-! ### The decay and the flood exit -/

/-- R83: the decay takes area `a` out of FLOOD. -/
def Part.leavesFlood (s : Part) (a : Nat) : Bool :=
  (s.area a).flood == .flood && decide (decay (s.area a).load ≤ (s.areaS a).low)

/-- R83: the generation of area `a` after the decay. -/
def Part.tickGen (s : Part) (a : Nat) : W16 :=
  if s.leavesFlood a then (s.area a).generation + 1 else (s.area a).generation

/-- R83: the flood state of area `a` after the decay. -/
def Part.tickFlood (s : Part) (a : Nat) : FloodState :=
  if s.leavesFlood a then if (s.area a).deferredTotal = 0 then .calm else .releasing else (s.area a).flood

/-- R83, R94: the record of a flood exit. -/
def Part.exitFields (s : Part) (a : Nat) : List (Bool × W16 × RecordFields) :=
  if s.leavesFlood a then
    [(true, s.tickGen a,
      { kind := .floodExit, area := a, value := w16 (decay (s.area a).load)
        flags := if (s.area a).deferredTotal = 0 then 0 else flagReleasing })]
  else []

/-- R82, R83: the part before the paced release. -/
def Part.tickBegun (s : Part) (a : Nat) : Part :=
  let u := s.modArea a fun x => { x with load := decay x.load }
  if u.floodEnds a then u.exitFlood a else u

/-- What the decay and the flood exit have made of the part. -/
structure TickBegun (s u : Part) (a : Nat) : Prop where
  rest : u = { s with areas := u.areas, rst := u.rst }
  area : u.area a =
    { s.area a with load := decay (s.area a).load, flood := s.tickFlood a, generation := s.tickGen a }
  otherAreas : ∀ b, b ≠ a → u.area b = s.area b
  journals : s.Journals u (s.exitFields a)

theorem tickBegun_begun {s : Part} {a : Nat} (ha : a ∈ numbers 16) : TickBegun s (s.tickBegun a) a := by
  have hdecayed := fun b => s.modArea_area a b fun x => { x with load := decay x.load }
  have hmine := hdecayed a
  rw [if_pos ⟨rfl, (mem_numbers a).1 ha⟩] at hmine
  have hends : (s.modArea a fun x => { x with load := decay x.load }).floodEnds a = s.leavesFlood a := by
    unfold Part.floodEnds
    rw [hmine]
    rfl
  have hother : ∀ b, b ≠ a → (s.modArea a fun x => { x with load := decay x.load }).area b = s.area b :=
    fun b hba => (hdecayed b).trans (if_neg fun h => hba h.1.symm)
  unfold Part.tickBegun
  dsimp only
  rw [hends]
  have hnothing : ((s.modArea a fun x => { x with load := decay x.load }).area a).nothingDeferred =
      decide ((s.area a).deferredTotal = 0) := by
    rw [hmine, Bool.eq_iff_iff, Area.nothingDeferred_iff, decide_eq_true_iff]
    rfl
  have hstart : s.Journals (s.modArea a fun x => { x with load := decay x.load }) [] := .start rfl rfl rfl
  have hrest : s.modArea a (fun x => { x with load := decay x.load }) =
      { s with areas := (s.modArea a fun x => { x with load := decay x.load }).areas } := rfl
  cases hleaves : s.leavesFlood a with
  | false =>
    rw [if_neg Bool.false_ne_true]
    refine ⟨rfl, ?_, hother, ?_⟩
    · rw [hmine, Part.tickFlood, Part.tickGen, hleaves]
      rfl
    · rw [Part.exitFields, hleaves]
      exact hstart
  | true =>
    rw [if_pos rfl]
    generalize s.modArea a (fun x => { x with load := decay x.load }) = v at hmine hother hnothing hstart hrest
    have hmade := fun b => (v.modArea_area a b fun x =>
      { x with flood := if (v.area a).nothingDeferred then .calm else .releasing })
    have hbumped := fun b => ((v.modArea a fun x =>
      { x with flood := if (v.area a).nothingDeferred then .calm else .releasing }).modArea_area a b fun x =>
      { x with generation := x.generation + 1 })
    have hwrite := (hstart.quiet (v := (v.modArea a fun x =>
      { x with flood := if (v.area a).nothingDeferred then .calm else .releasing }).bump a) rfl rfl rfl).write true
      { kind := .floodExit, area := a, value := w16 (v.area a).load
        flags := flagIf (!(v.area a).nothingDeferred) flagReleasing }
    have hgen : (((v.modArea a fun x =>
        { x with flood := if (v.area a).nothingDeferred then .calm else .releasing }).bump a).area a).generation =
        s.tickGen a := by
      refine (congrArg Area.generation (hbumped a)).trans ?_
      rw [if_pos ⟨rfl, (mem_numbers a).1 ha⟩, hmade, if_pos ⟨rfl, (mem_numbers a).1 ha⟩, hmine, Part.tickGen, hleaves]
      rfl
    refine ⟨?_, ?_, fun b hba => ?_, ?_⟩
    · unfold Part.exitFlood
      rw [hrest]
      rfl
    · refine (hbumped a).trans ?_
      rw [if_pos ⟨rfl, (mem_numbers a).1 ha⟩, hmade, if_pos ⟨rfl, (mem_numbers a).1 ha⟩, hnothing, hmine, Part.tickGen,
        Part.tickFlood, hleaves]
      simp
    · refine (hbumped b).trans ?_
      rw [if_neg fun h => hba h.1.symm, hmade, if_neg fun h => hba h.1.symm, hother b hba]
    · rw [Part.generationOf_pos _ (Nat.ne_zero_of_lt ((mem_numbers a).1 ha).1), hgen, hnothing, hmine] at hwrite
      have hfields : s.exitFields a = [] ++ [(true, s.tickGen a,
          { kind := .floodExit, area := a, value := w16 (decay (s.area a).load)
            flags := flagIf (!decide ((s.area a).deferredTotal = 0)) flagReleasing })] := by
        rw [Part.exitFields, hleaves]
        by_cases h0 : (s.area a).deferredTotal = 0 <;> simp [h0, flagIf]
      rw [hfields]
      unfold Part.exitFlood
      rw [hnothing, hmine]
      exact hwrite

/-! ### The paced release -/

/-- R86: the part after `n` releases of area `a`, which go on to CALM when they leave nothing deferred. -/
def Part.freeing (s : Part) (a n : Nat) : Part := (s.boardOfRelease a n).calmNow a

/-- R87: the releases of `n` points leave a RELEASING area without a deferred point. -/
def Part.freesAll (s : Part) (a n : Nat) : Bool :=
  (s.area a).flood == .releasing && decide ((s.area a).deferredTotal ≤ n)

section
variable (s : Part) {a : Nat} (ha : a ∈ numbers 16) (n : Nat)

include ha in
theorem boardOfRelease_calmReached : (s.boardOfRelease a n).calmReached a = s.freesAll a n := by
  have harea := boardOfRelease_area s ha n a
  rw [if_pos rfl] at harea
  have hnothing : ((s.boardOfRelease a n).area a).nothingDeferred = decide ((s.area a).deferredTotal ≤ n) := by
    rw [harea, Bool.eq_iff_iff, Area.nothingDeferred_iff, decide_eq_true_iff, Area.released_deferredTotal]
    omega
  unfold Part.calmReached Part.freesAll
  rw [hnothing, harea]
  rfl

theorem Part.calmNow_rest (a : Nat) : s.calmNow a = { s with areas := (s.calmNow a).areas } := by
  unfold Part.calmNow
  split <;> rfl

theorem freeing_rest : s.freeing a n = { s with points := (s.freeing a n).points, areas := (s.freeing a n).areas } := by
  have hpoints : (s.freeing a n).points = (s.boardOfRelease a n).points := by
    unfold Part.freeing
    rw [Part.calmNow_rest]
  rw [hpoints]
  exact (Part.calmNow_rest _ a).trans (congrArg (fun v : Part => { v with areas := (s.freeing a n).areas })
    (boardOfRelease_rest s n))

include ha in
theorem freeing_area (b : Nat) : (s.freeing a n).area b =
    if a = b then
      { (s.area b).released n with flood := if s.freesAll a n then .calm else (s.area b).flood }
    else s.area b := by
  have hboard := boardOfRelease_area s ha n
  unfold Part.freeing Part.calmNow
  rw [boardOfRelease_calmReached s ha]
  cases s.freesAll a n with
  | false => exact hboard b
  | true =>
    rw [if_pos rfl, Part.modArea_area, hboard]
    by_cases hab : a = b
    · rw [if_pos ⟨hab, hab ▸ (mem_numbers a).1 ha⟩, if_pos hab, if_pos hab]
      rfl
    · rw [if_neg fun h => hab h.1, if_neg hab, if_neg hab]

theorem freeing_alike : (s.boardOfRelease a n).Alike (s.freeing a n) := by
  unfold Part.freeing Part.calmNow
  split
  · exact .keepArea _ _ _ fun _ => ⟨rfl, rfl, rfl, rfl⟩
  · exact .refl _

theorem freeing_point (q : Nat) : (s.freeing a n).point q = (s.boardOfRelease a n).point q := by
  unfold Part.freeing Part.calmNow
  split <;> rfl

end

end Sys2Proof.Machine
end

section
/-! The statement on the load index and the releases (O29). -/

namespace Sys2Proof.Machine

/-! ### The tick as one event -/

/-- R86: the number of points that the tick releases. -/
def Part.tickReleases (s : Part) (a : Nat) : Nat :=
  if (s.leavesFlood a || (s.area a).flood == .releasing) && (s.area a).deferredTotal != 0 then
    min (s.areaS a).releaseRate (s.area a).deferredTotal
  else 0

/-- R86, R94: the record of the paced release. -/
def pacedFields (a n : Nat) (calm : Bool) : RecordFields :=
  { kind := .release, area := a, value := w16 n, flags := flagIf calm flagCalmReached }

/-- The part in which the tick's releases are recorded; `u` is the part before them. -/
def Part.tickNoted (s u : Part) (a : Nat) : Part :=
  if s.tickReleases a = 0 then u
  else (u.freeing a (s.tickReleases a)).write (s.leavesFlood a)
    (pacedFields a (s.tickReleases a) (u.freesAll a (s.tickReleases a)))

/-- The desk that the tick fills, 0 for none. -/
def Part.tickFilled (s : Part) (a : Nat) : Nat := if s.tickReleases a = 0 then 0 else (s.area a).pdesk

section
variable {s u : Part} {a : Nat}

theorem TickBegun.areaS (h : TickBegun s u a) (b : Nat) : u.areaS b = s.areaS b := by
  rw [h.rest]
  rfl

theorem TickBegun.alike (h : TickBegun s u a) : s.Alike u := by
  have hlive : u.live = s.live := by rw [h.rest]
  refine ⟨fun q => by rw [Part.pointS, Part.pointS, hlive], fun b => (h.areaS b).symm, by rw [h.rest]; rfl,
    fun q => by rw [h.rest]; exact .refl _, fun b => ?_, fun d => by rw [h.rest]; exact .refl _⟩
  by_cases hba : b = a
  · rw [hba, h.area]
    exact ⟨rfl, rfl, rfl, rfl⟩
  · rw [h.otherAreas b hba]
    exact .refl _

/-- R86: whether the decay and the flood exit leave the area RELEASING. -/
theorem TickBegun.releasing (h : TickBegun s u a) :
    (if (u.area a).flood = .releasing then min (s.areaS a).releaseRate (s.area a).deferredTotal else 0) =
      s.tickReleases a := by
  rw [h.area]
  unfold Part.tickReleases Part.tickFlood
  by_cases h0 : (s.area a).deferredTotal = 0
  · simp [h0]
  · cases hleaves : s.leavesFlood a <;> simp [h0]

/-- The tick is the decay and the flood exit, the releases, and the end of an event. -/
theorem loadTick_eq (ha : a ∈ numbers 16) :
    s.loadTick a = s.finish (s.tickNoted (s.tickBegun a) a) (s.tickFilled a) a (s.leavesFlood a) := by
  have h := tickBegun_begun (s := s) ha
  have hrelease := h.releasing
  have hends : (s.modArea a fun x => { x with load := decay x.load }).floodEnds a = s.leavesFlood a := by
    unfold Part.floodEnds
    rw [Part.modArea_area_of _ _ _ ha, if_pos rfl]
    rfl
  have hunfold : s.loadTick a = closeEvent s []
      ((if ((s.tickBegun a).area a).flood = .releasing then
        (s.tickBegun a).pacedRelease a ((s.modArea a fun x => { x with load := decay x.load }).floodEnds a)
        else s.tickBegun a).notifyIf ((s.modArea a fun x => { x with load := decay x.load }).floodEnds a) a) := rfl
  rw [hunfold, hends]
  generalize s.tickBegun a = u at h hrelease
  have htotal : (u.area a).deferredTotal = (s.area a).deferredTotal := by
    rw [h.area]
    rfl
  have hpaced : (if (u.area a).flood = .releasing then u.pacedRelease a (s.leavesFlood a) else u) =
      (s.tickNoted u a).fill (s.tickFilled a) := by
    by_cases hn : s.tickReleases a = 0
    · unfold Part.tickNoted Part.tickFilled
      rw [if_pos hn, if_pos hn, Part.fill_zero]
      split
      · next hflood =>
        rw [if_pos hflood, hn] at hrelease
        unfold Part.pacedRelease
        simp only [releaseUpTo_eq _ _ ha, h.areaS, htotal, hrelease, if_true]
      · rfl
    · by_cases hflood : (u.area a).flood = .releasing
      · rw [if_pos hflood] at hrelease ⊢
        unfold Part.tickNoted Part.tickFilled
        rw [if_neg hn, if_neg hn]
        unfold Part.pacedRelease
        simp only [releaseUpTo_eq _ _ ha, h.areaS, htotal, hrelease, if_neg hn, boardOfRelease_calmReached u ha]
        have hdesk : ((u.freeing a (s.tickReleases a)).area a).pdesk = (s.area a).pdesk := by
          rw [freeing_area u ha, if_pos rfl, h.area]
          rfl
        rw [← hdesk]
        rfl
      · rw [if_neg hflood] at hrelease
        exact absurd hrelease.symm hn
  rw [hpaced]
  rfl

/-! ### What the tick has made of the part -/

/-- R87: the releases of the tick leave nothing deferred. -/
def Part.tickCalm (s : Part) (a : Nat) : Bool :=
  (s.leavesFlood a || (s.area a).flood == .releasing) && (s.area a).deferredTotal != 0
    && s.tickReleases a == (s.area a).deferredTotal

theorem tickReleases_le : s.tickReleases a ≤ (s.area a).deferredTotal := by
  unfold Part.tickReleases
  split
  · exact Nat.min_le_right ..
  · exact Nat.zero_le _

/-- R86: an area from which the tick releases a point is RELEASING after the decay. -/
theorem tickFlood_of_releases (hn : s.tickReleases a ≠ 0) :
    s.tickFlood a = .releasing ∧ (s.leavesFlood a || (s.area a).flood == .releasing) = true
      ∧ (s.area a).deferredTotal ≠ 0 := by
  unfold Part.tickReleases at hn
  split at hn
  · next h =>
    obtain ⟨hout, htotal⟩ := Bool.and_eq_true_iff.1 h
    rw [bne_iff_ne] at htotal
    refine ⟨?_, hout, htotal⟩
    unfold Part.tickFlood
    cases hleaves : s.leavesFlood a with
    | true => rw [if_pos rfl, if_neg htotal]
    | false =>
      rw [hleaves] at hout
      simpa using hout
  · exact absurd rfl hn

theorem TickBegun.freesAll (h : TickBegun s u a) (hn : s.tickReleases a ≠ 0) :
    u.freesAll a (s.tickReleases a) = s.tickCalm a := by
  obtain ⟨hflood, hout, htotal⟩ := tickFlood_of_releases hn
  have hle := tickReleases_le (s := s) (a := a)
  unfold Part.freesAll Part.tickCalm
  rw [h.area, hflood, hout, bne_iff_ne.2 htotal, Bool.eq_iff_iff]
  show (true && decide ((s.area a).deferredTotal ≤ _)) = true ↔ (true && true && _) = true
  simp
  omega

/-- The flood state after the tick. -/
theorem tickFlood_after : (if s.tickReleases a ≠ 0 ∧ s.tickCalm a = true then .calm else s.tickFlood a) =
    if s.tickCalm a || s.leavesFlood a && (s.area a).deferredTotal == 0 then FloodState.calm
    else if s.leavesFlood a then .releasing else (s.area a).flood := by
  have hcalm : s.tickCalm a = true → s.tickReleases a ≠ 0 := fun h hn => by
    unfold Part.tickCalm at h
    simp only [Bool.and_eq_true, bne_iff_ne, beq_iff_eq] at h
    omega
  unfold Part.tickFlood
  cases hc : s.tickCalm a with
  | true => rw [if_pos ⟨hcalm hc, rfl⟩]; rfl
  | false => cases s.leavesFlood a <;> simp

theorem TickBegun.noted_area (h : TickBegun s u a) (ha : a ∈ numbers 16) : (s.tickNoted u a).area a =
    { (s.area a).released (s.tickReleases a) with
      load := decay (s.area a).load
      flood :=
        if s.tickCalm a || s.leavesFlood a && (s.area a).deferredTotal == 0 then .calm
        else if s.leavesFlood a then .releasing else (s.area a).flood
      generation := s.tickGen a } := by
  rw [← tickFlood_after]
  unfold Part.tickNoted
  by_cases hn : s.tickReleases a = 0
  · rw [if_pos hn, hn, Area.released_zero, h.area, if_neg fun hboth => hboth.1 rfl]
  · rw [if_neg hn]
    show (u.freeing a _).area a = _
    rw [freeing_area u ha, if_pos rfl, h.freesAll hn, h.area]
    simp only [hn, ne_eq, not_false_eq_true, true_and]
    rfl

theorem TickBegun.noted_otherArea (h : TickBegun s u a) (ha : a ∈ numbers 16) {b : Nat} (hba : b ≠ a) :
    (s.tickNoted u a).area b = s.area b := by
  unfold Part.tickNoted
  split
  · exact h.otherAreas b hba
  · show (u.freeing a _).area b = _
    rw [freeing_area u ha, if_neg hba.symm, h.otherAreas b hba]

theorem TickBegun.noted_rest (h : TickBegun s u a) :
    s.tickNoted u a =
      { s with points := (s.tickNoted u a).points, areas := (s.tickNoted u a).areas, rst := (s.tickNoted u a).rst } := by
  unfold Part.tickNoted
  split
  · rw [h.rest]
  · rw [Part.write_rest, freeing_rest, h.rest]

theorem TickBegun.noted_alike (h : TickBegun s u a) : (s.boardOfRelease a (s.tickReleases a)).Alike (s.tickNoted u a) := by
  unfold Part.tickNoted
  by_cases hn : s.tickReleases a = 0
  · rw [if_pos hn, hn, boardOfRelease_zero]
    exact h.alike
  · rw [if_neg hn]
    exact ((h.alike.boardOfRelease a _).trans (freeing_alike u _)).trans (.write ..)

theorem TickBegun.noted_point (h : TickBegun s u a) (q : Nat) :
    (s.tickNoted u a).point q = { s.point q with placement := ((s.tickNoted u a).point q).placement } := by
  have hsame : u.point q = s.point q := by
    rw [h.rest]
    rfl
  unfold Part.tickNoted
  split
  · rw [hsame]
  · have hfreeing : (u.freeing a (s.tickReleases a)).point q =
        { s.point q with placement := ((u.freeing a (s.tickReleases a)).point q).placement } := by
      rw [freeing_point]
      exact ((boardOfRelease_places u _).point q).trans (by rw [hsame])
    exact hfreeing

theorem TickBegun.noted_journals (h : TickBegun s u a) (ha : a ∈ numbers 16) :
    s.Journals (s.tickNoted u a)
      (s.exitFields a ++ if s.tickReleases a = 0 then []
        else [(s.leavesFlood a, s.tickGen a, pacedFields a (s.tickReleases a) (s.tickCalm a))]) := by
  unfold Part.tickNoted
  by_cases hn : s.tickReleases a = 0
  · rw [if_pos hn, if_pos hn, List.append_nil]
    exact h.journals
  · rw [if_neg hn, if_neg hn, h.freesAll hn]
    have hwrite := (h.journals.quiet (v := u.freeing a (s.tickReleases a)) (by rw [freeing_rest]) (by rw [freeing_rest]; rfl)
      (by rw [freeing_rest]; rfl)).write (s.leavesFlood a) (pacedFields a (s.tickReleases a) (s.tickCalm a))
    have hgen : (u.freeing a (s.tickReleases a)).generationOf
        (pacedFields a (s.tickReleases a) (s.tickCalm a)).area = s.tickGen a := by
      refine (Part.generationOf_pos _ (Nat.ne_zero_of_lt ((mem_numbers a).1 ha).1)).trans ?_
      rw [freeing_area u ha, if_pos rfl, h.area]
      rfl
    rwa [hgen] at hwrite

theorem TickBegun.unfinished (h : TickBegun s u a) (ha : a ∈ numbers 16) (e : Nat) :
    Unfinished s (s.tickNoted u a) e a
      (s.exitFields a ++ if s.tickReleases a = 0 then []
        else [(s.leavesFlood a, s.tickGen a, pacedFields a (s.tickReleases a) (s.tickCalm a))]) := by
  have hrest := h.noted_rest
  have hdesk : ∀ d, (s.tickNoted u a).desk d = s.desk d := fun d => by
    rw [hrest]
    rfl
  refine ⟨?_, fun d _ => by rw [hdesk], fun d _ _ => hdesk d, by rw [h.noted_area ha]; rfl, h.noted_journals ha⟩
  conv_lhs => rw [hrest]
  rw [hrest]

/-- R82, R83, R86, R87: what the tick has made of the part. -/
theorem loadTick_ticked (ha : a ∈ numbers 16) : s.LoadTicked (s.loadTick a) a := by
  rw [loadTick_eq ha]
  have h := tickBegun_begun (s := s) ha
  generalize s.tickBegun a = u at h
  have hdone := (h.unfinished ha (s.tickFilled a)).finish (s.leavesFlood a)
  have hmine := h.noted_area ha
  have hother := fun b hba => h.noted_otherArea ha (b := b) hba
  have hrest := h.noted_rest
  have hshelf : (s.tickNoted u a).shelf = s.shelf := by rw [hrest]
  have halike := h.noted_alike
  have hpoint := h.noted_point
  generalize s.finish (s.tickNoted u a) (s.tickFilled a) a (s.leavesFlood a) = t at hdone
  generalize s.tickNoted u a = w at hdone hmine hother hrest hshelf halike hpoint
  have hcounts : (w.area a).counts =
      { (s.area a).counts with deferred := (s.area a).counts.deferred - s.tickReleases a } := by
    rw [hmine]
    rfl
  have hreleased := hdone.releasedFrom ha rfl halike hcounts
  refine ⟨?_, hreleased, fun hn => ?_, hdone.wrote, hdone.noticed, hdone.shelf.trans hshelf,
    ⟨hdone.fixed, hdone.people, ⟨fun q _ _ => ?_, fun b _ hba => ?_⟩, hdone.moved, hdone.kept⟩,
    fun hchanged => hdone.tellsArea a ha ?_⟩
  · rw [hdone.area, hmine]
    rfl
  · obtain ⟨_, hareas⟩ := hdone.unmoved (if_pos hn)
    have hzero : s.tickReleases a = 0 := hn
    rw [hareas, hmine, hzero, Area.released_zero]
    exact ⟨rfl, rfl⟩
  · rw [hdone.point, hpoint]
  · rw [hdone.area, hother b hba]
  · have harea : t.area a = { w.area a with pend := (t.area a).pend } := hdone.area a
    rw [hmine] at harea
    unfold areaReported
    rcases hchanged with hexits | ⟨hn, hcount⟩
    · have hgen : (s.area a).generation ≠ (t.area a).generation := by
        have hleaves : s.leavesFlood a = true := hexits
        rw [harea, Part.tickGen, hleaves]
        simp
      rw [bne_iff_ne.2 hgen]
      simp
    · have hcounts : (s.area a).counts ≠ (t.area a).counts := fun he => by
        have hzero : s.tickReleases a ≠ 0 := hn
        have hdeferred := congrArg Counts.deferred he
        rw [harea] at hdeferred
        change (s.area a).counts.deferred = (s.area a).counts.deferred - s.tickReleases a at hdeferred
        omega
      rw [bne_iff_ne.2 hcounts]
      rfl

end

end Sys2Proof.Machine
end

section
/-! The release of every deferred point on request (R91, R92), and O29. -/

namespace Sys2Proof.Machine

section
variable {s : Part} {a : Nat}

/-- R92, R94: the record of a forced release. -/
def Part.forcedFields (s : Part) (d a : Nat) : RecordFields :=
  { kind := .release, area := a, desk := d, credential := (s.desk d).signedOn, value := w16 (s.area a).deferredTotal
    flags := flagForced ||| flagIf ((s.area a).flood == .releasing) flagCalmReached }

/-- The part in which a forced release is recorded. -/
def Part.forcedNoted (s : Part) (d a : Nat) : Part :=
  (s.freeing a (s.area a).deferredTotal).write false (s.forcedFields d a)

theorem freesAll_total : s.freesAll a (s.area a).deferredTotal = ((s.area a).flood == .releasing) := by
  unfold Part.freesAll
  simp

theorem forcedNoted_area (ha : a ∈ numbers 16) (d b : Nat) : (s.forcedNoted d a).area b =
    if a = b then
      { (s.area b).released (s.area a).deferredTotal with
        flood := if (s.area a).flood == .releasing then .calm else (s.area b).flood }
    else s.area b := by
  show (s.freeing a _).area b = _
  rw [freeing_area s ha, freesAll_total]

theorem forcedRelease_eq (ha : a ∈ numbers 16) (d : Nat) :
    s.forcedRelease d a = s.finish (s.forcedNoted d a) (s.area a).pdesk a false := by
  have hdesk : ((s.forcedNoted d a).area a).pdesk = (s.area a).pdesk := by
    rw [forcedNoted_area ha, if_pos rfl]
    rfl
  unfold Part.forcedRelease
  simp only [releaseUpTo_eq _ _ ha, Nat.min_self, boardOfRelease_calmReached s ha, freesAll_total]
  rw [← hdesk]
  rfl

theorem forcedNoted_unfinished (ha : a ∈ numbers 16) (d e : Nat) :
    Unfinished s (s.forcedNoted d a) e a [(false, (s.area a).generation, s.forcedFields d a)] := by
  have hrest : s.forcedNoted d a =
      { s with
        points := (s.forcedNoted d a).points, areas := (s.forcedNoted d a).areas, rst := (s.forcedNoted d a).rst } := by
    unfold Part.forcedNoted
    rw [Part.write_rest, freeing_rest]
  have hdesk : ∀ e', (s.forcedNoted d a).desk e' = s.desk e' := fun e' => by
    rw [hrest]
    rfl
  refine ⟨?_, fun e' _ => by rw [hdesk], fun e' _ _ => hdesk e', by rw [forcedNoted_area ha, if_pos rfl]; rfl, ?_⟩
  · conv_lhs => rw [hrest]
    rw [hrest]
  · have hwrite := (Part.Journals.start (s := s) (v := s.freeing a (s.area a).deferredTotal) (by rw [freeing_rest])
      (by rw [freeing_rest]; rfl) (by rw [freeing_rest]; rfl)).write false (s.forcedFields d a)
    have hgen : (s.freeing a (s.area a).deferredTotal).generationOf (s.forcedFields d a).area = (s.area a).generation := by
      refine (Part.generationOf_pos _ (Nat.ne_zero_of_lt ((mem_numbers a).1 ha).1)).trans ?_
      rw [freeing_area s ha, if_pos rfl]
      rfl
    rwa [hgen] at hwrite

/-- R92: what a forced release has made of the part. -/
theorem forcedRelease_released (ha : a ∈ numbers 16) (d : Nat) (htotal : (s.area a).deferredTotal ≠ 0) :
    s.ForciblyReleased (s.forcedRelease d a) d a := by
  rw [forcedRelease_eq ha]
  have hdone := (forcedNoted_unfinished (s := s) ha d (s.area a).pdesk).finish false
  have hmine := forcedNoted_area (s := s) ha d a
  rw [if_pos rfl] at hmine
  have hother := fun b (hba : b ≠ a) => (forcedNoted_area (s := s) ha d b).trans (if_neg hba.symm)
  have hshelf : (s.forcedNoted d a).shelf = s.shelf := by
    unfold Part.forcedNoted
    rw [Part.write_rest, freeing_rest]
  have halike : (s.boardOfRelease a (s.area a).deferredTotal).Alike (s.forcedNoted d a) :=
    (freeing_alike s _).trans (.write ..)
  have hpoint : ∀ q, (s.forcedNoted d a).point q = (s.boardOfRelease a (s.area a).deferredTotal).point q :=
    freeing_point s _
  generalize s.finish (s.forcedNoted d a) (s.area a).pdesk a false = t at hdone
  generalize s.forcedNoted d a = w at hdone hmine hother hshelf halike hpoint
  have hareaT : t.area a = { w.area a with pend := (t.area a).pend } := hdone.area a
  have hreleased := hdone.releasedFrom (n := (s.area a).deferredTotal) ha (if_neg htotal).symm halike (by rw [hmine]; rfl)
  have ⟨_, hleft, _⟩ := hreleased
  refine ⟨by rw [hareaT, hmine]; rfl, (Area.nothingDeferred_iff _).2 (hleft.trans (Nat.sub_self _)), hreleased,
    fun pr hpr q hq hisPoint => ?_, hdone.wrote, ?_, hdone.shelf.trans hshelf,
    ⟨hdone.fixed, hdone.people, ⟨fun q _ _ => ?_, fun b _ hba => ?_⟩, hdone.moved, hdone.kept⟩⟩
  · have hqp : q ∈ numbers 1024 := (isPoint_iff q).1 hisPoint
    have hqueued := boardOfRelease_placement s (a := a) (s.area a).deferredTotal hqp
    rw [if_pos ((s.area a).mem_freedAll_total hpr hq), ← hpoint] at hqueued
    have hshown : ((t.point q).placement).Shown := by
      rw [hdone.board.1 q hqp]
      exact fill_shown _ (by rw [hqueued]; constructor <;> decide)
    exact ⟨hshown.2, hshown.1⟩
  · refine table_ext _ _ fun n h1 h4 => ?_
    exact (hdone.noticed n ((mem_numbers n).2 ⟨h1, h4⟩)).trans (if_neg fun hboth => Bool.false_ne_true hboth.1)
  · rw [hdone.point, hpoint, (boardOfRelease_places s _).point]
  · rw [hdone.area, hother b hba]

end

/-! ### The answer of the request -/

theorem Part.ForciblyReleased.answered {s t : Part} {d a : Nat} (h : s.taken.ForciblyReleased t d a) {x : Lif}
    (hlink : x.link = t.lif.link) : s.ForciblyReleased { t with lif := x } d a := by
  obtain ⟨h1, h2, ⟨hboard, h3, h4, h5⟩, h6, hwrote, h7, h8, h9⟩ := h
  refine ⟨h1, h2, ⟨?_, h3, h4, h5⟩, h6, Part.Wrote.answered hwrote hlink, h7, h8, h9⟩
  have hsame : (if (s.area a).deferredTotal = 0 then s
      else (s.boardOfRelease a (s.area a).deferredTotal).fill (s.area a).pdesk).SameBoard
      (if (s.area a).deferredTotal = 0 then s.taken
        else (s.taken.boardOfRelease a (s.area a).deferredTotal).fill (s.area a).pdesk) := by
    split
    · exact (Part.Alike.taken s).sameBoard
    · exact (((Part.Alike.taken s).boardOfRelease a _).fill _).sameBoard
  exact hsame.trans hboard

/-- R91: a request that passes its checks. -/
theorem releaseCheck_passes {s : Part} {d a : Nat} (hd : isDesk d = true) (ha : isArea a = true)
    (hsigned : (s.desk d).signedOn ≠ 0) (hallows : allows (s.topLayer d) Perm.release.set a = true)
    (hdesk : (s.area a).pdesk = d) (htotal : (s.area a).deferredTotal ≠ 0) : s.releaseCheck d a = none := by
  have hnothing : (s.area a).nothingDeferred = false :=
    Bool.eq_false_iff.2 fun h => htotal ((Area.nothingDeferred_iff _).1 h)
  unfold Part.releaseCheck
  rw [hd, ha, if_neg (by decide), if_neg hsigned, hallows, if_neg (by decide), if_neg (not_not.2 hdesk), hnothing,
    if_neg Bool.false_ne_true]

theorem releaseHandler_passes {s : Part} {body : List Byte} (h : s.releaseCheck (byteAt body 0) (byteAt body 1) = none) :
    releaseHandler body s = (s.forcedRelease (byteAt body 0) (byteAt body 1),
      0 :: be16 (s.area (byteAt body 1)).deferredTotal) := by
  unfold releaseHandler
  simp only [h]
  rfl

/-! ### The tick as a command -/

/-- R82: a 1 s tick is due for area `a`. -/
def Part.loadTickDue (a : Nat) (s : Part) : Bool := isArea a && decide (0 < getAt s.tset.loadDue a)

/-- R82: the part in which one tick less is due for area `a`. -/
def Part.loadTickTaken (a : Nat) (s : Part) : Part :=
  { s with tset := { s.tset with loadDue := setAt s.tset.loadDue a (getAt s.tset.loadDue a - 1) } }

theorem exec_loadMonitorTick (a : Nat) (u : State) : exec (.loadMonitorTick a) u =
    onPart (fun p => if p.loadTickDue a = true then (p.loadTickTaken a).loadTick a else p) u := rfl

/-- Settles O29: the tick and the release on request. -/
theorem loadDecaysAndDeferredPointsAreReleased : Obligations.LoadDecaysAndDeferredPointsAreReleased := by
  refine ⟨fun s a hreset harea => ⟨fun hnone => ?_, fun hdue => ?_⟩, fun s tag body h => ?_⟩
  · refine completes_notDue (exec_loadMonitorTick a) hreset ?_
    unfold Part.loadTickDue
    rw [hnone]
    simp
  · have ha := (isArea_iff a).1 harea
    have hcond : s.loadTickDue a = true := by
      unfold Part.loadTickDue
      rw [harea]
      simpa using Nat.pos_of_ne_zero hdue
    have hlif : ((s.loadTickTaken a).loadTick a).lif = s.lif := by
      rw [loadTick_eq ha]
      exact Part.finish_lif ((tickBegun_begun ha).unfinished ha _) _
    exact ⟨_, completes_due (exec_loadMonitorTick a) hreset hcond rfl, hlif, loadTick_ticked ha⟩
  · intro d a hd ha hsigned hallows hdesk htotal
    have hcheck := releaseCheck_passes (s := s.taken) hd ha hsigned hallows hdesk htotal
    have hanswer := releaseHandler_passes hcheck
    have hlif : (s.taken.forcedRelease d a).lif = s.taken.lif := by
      rw [forcedRelease_eq ((isArea_iff a).1 ha)]
      exact Part.finish_lif (forcedNoted_unfinished ((isArea_iff a).1 ha) d _) _
    have hreleased := forcedRelease_released (s := s.taken) ((isArea_iff a).1 ha) d htotal
    change releaseHandler body s.taken = (s.taken.forcedRelease d a, _) at hanswer
    generalize s.taken.forcedRelease d a = v at hanswer hlif hreleased
    exact ⟨_, completes_answered (fun _ => rfl) h hanswer hlif, rfl, hreleased.answered (Part.answer_link_of hlif ..)⟩

end Sys2Proof.Machine
end

section
/-! The switching of a group's members (R15, R16), one at a time. -/

namespace Sys2Proof.Machine

/-! ### One member -/

/-- What the switching of one member has made of the part: the member is now `x`. -/
structure Switched (s t : Part) (q : Nat) (x : Point) : Prop where
  rest : t = { s with points := t.points, areas := t.areas, desks := t.desks }
  point : ∀ r ∈ numbers 1024, t.point r =
    { (if r = q then x else s.point r) with placement := (t.point r).placement }
  area : ∀ a, t.area a =
    { s.area a with counts := (t.area a).counts, pend := (t.area a).pend, defer := (t.area a).defer }
  desk : ∀ d, t.desk d =
    { s.desk d with slots := (t.desk d).slots, order := (t.desk d).order, rotation := (t.desk d).rotation }

theorem changeState_counts (s : Part) (p : Nat) (st : PointState) (a : Nat) :
    (s.changeState p st).area a = { s.area a with counts := ((s.changeState p st).area a).counts } := by
  have harea := (s.modPoint p fun x => { x with state := st, lastChange := s.now }).modArea_area (s.pointS p).area a
    fun x => { x with counts := (x.counts.dec (s.point p).state).inc st }
  rw [show (s.changeState p st).area a = _ from harea]
  split <;> rfl

theorem changeState_flood (s : Part) (p : Nat) (st : PointState) (a : Nat) :
    ((s.changeState p st).area a).flood = (s.area a).flood :=
  getAt_modAt_keeps s.areas _ a (fun x => { x with counts := (x.counts.dec (s.point p).state).inc st }) Area.flood
    fun _ => rfl

theorem groupMember_switched (s : Part) (on : Bool) {q : Nat} :
    Switched s (s.groupMember on q) q ((s.point q).regrouped on s.now) := by
  unfold Part.groupMember Point.regrouped
  cases on with
  | true =>
    rw [if_pos rfl, if_pos rfl]
    have hplaces := withdraw_places s q
    generalize s.withdraw q = u at hplaces
    have hnow : u.now = s.now := by rw [hplaces.rest]; rfl
    constructor
    case rest => rw [Part.changeState, hplaces.rest]; rfl
    case point =>
      intro r hr
      rw [changeState_point_of u q .suppressed hr, hplaces.point, hnow]
      split
      · next h => rw [h]
      · rfl
    case area =>
      intro a
      rw [changeState_counts u q .suppressed, hplaces.area]
    case desk => exact hplaces.desk
  | false =>
    rw [if_neg Bool.false_ne_true, if_neg Bool.false_ne_true]
    by_cases hshadow : (s.point q).shadow = true
    · rw [if_pos hshadow, if_pos hshadow, enterUnack_eq]
      have hplaces := place_places (s.unplaced q) q
      constructor
      case rest =>
        rw [hplaces.rest]
        rfl
      case point =>
        intro r hr
        rw [hplaces.point, unplaced_point s hr]
        split
        · next h => rw [h]; rfl
        · rfl
      case area =>
        intro a
        rw [hplaces.area, show (s.unplaced q).area a = (s.changeState q .unack).area a from rfl, changeState_counts]
      case desk => exact hplaces.desk
    · rw [if_neg hshadow, if_neg hshadow]
      unfold Part.enterNormal
      constructor
      case rest => rfl
      case point =>
        intro r hr
        rw [Part.modPoint_point_of _ _ _ hr, changeState_point_of s q .normal hr]
        split
        · next h => rw [h]
        · rfl
      case area =>
        intro a
        have hcounts := changeState_counts s q .normal a
        show (s.changeState q .normal).area a =
          { s.area a with
            counts := ((s.changeState q .normal).area a).counts, pend := ((s.changeState q .normal).area a).pend
            defer := ((s.changeState q .normal).area a).defer }
        rw [hcounts]
      case desk => exact fun d => rfl

/-! ### The board of a switching -/

/-- R15, R16: what the switching of member `q`, whose shadow is given, does to the board. -/
def Part.switchOne (v : Part) (on shadow : Bool) (q : Nat) : Part :=
  if on then v.withdraw q
  else if shadow then (v.modPoint q fun x => { x with view := x.view + 1 }).place q
  else v

/-- R15, R16: the board after the switching of the members named; the shadows are those of `s`. -/
def Part.switchBoard (s : Part) (on : Bool) (v : Part) (l : List Nat) : Part :=
  l.foldl (fun v q => v.switchOne on (s.point q).shadow q) v

theorem switchOne_flood (v : Part) (on shadow : Bool) (q a : Nat) :
    ((v.switchOne on shadow q).area a).flood = (v.area a).flood := by
  unfold Part.switchOne
  split
  · rw [(withdraw_places v q).area]
  · split
    · rw [(place_places _ q).area]
      rfl
    · rfl

theorem switchOne_alike {u v : Part} (h : u.Alike v) (hflood : ∀ a, (u.area a).flood = (v.area a).flood) (on shadow : Bool)
    (q : Nat) : (u.switchOne on shadow q).Alike (v.switchOne on shadow q) := by
  unfold Part.switchOne
  split
  · exact h.withdraw q
  · split
    · have hviewed : (u.modPoint q fun x => { x with view := x.view + 1 }).Alike
          (v.modPoint q fun x => { x with view := x.view + 1 }) :=
        h.modPoint q fun x y ⟨h1, h2⟩ => ⟨h1, by dsimp only; rw [h2]⟩
      refine hviewed.place q ?_
      rw [hviewed.pointS]
      exact hflood _
    · exact h

theorem switchBoard_alike {s t u v : Part} (on : Bool) (l : List Nat)
    (hshadow : ∀ q ∈ l, (s.point q).shadow = (t.point q).shadow) (h : u.Alike v)
    (hflood : ∀ a, (u.area a).flood = (v.area a).flood) :
    (s.switchBoard on u l).Alike (t.switchBoard on v l) := by
  induction l generalizing u v with
  | nil => exact h
  | cons q l ih =>
    unfold Part.switchBoard
    rw [List.foldl_cons, List.foldl_cons, hshadow q (List.mem_cons_self ..)]
    exact ih (fun r hr => hshadow r (List.mem_cons_of_mem _ hr)) (switchOne_alike h hflood on _ q) fun a => by rw [switchOne_flood, switchOne_flood, hflood]

theorem groupMember_alike (s : Part) (on : Bool) (q : Nat) :
    (s.switchOne on (s.point q).shadow q).Alike (s.groupMember on q) := by
  unfold Part.switchOne Part.groupMember
  split
  · exact .changeState ..
  · split
    · have hunplaced : (s.modPoint q fun x => { x with view := x.view + 1 }).Alike (s.unplaced q) := by
        have hchange := Part.Alike.changeState s q .unack
        exact hchange.modPoint q fun x y ⟨h1, h2⟩ => ⟨h1, by dsimp only; rw [h2]⟩
      rw [enterUnack_eq]
      refine hunplaced.place q ?_
      exact (changeState_flood s q .unack _).symm
    · exact (Part.Alike.changeState s q .normal).trans (.keepPoint _ _ _ fun _ => ⟨rfl, rfl⟩)

/-! ### All members -/

/-- R15, R16: the members named are switched in order. -/
def Part.switchAll (s : Part) (on : Bool) (l : List Nat) : Part := l.foldl (fun t p => t.groupMember on p) s

theorem Point.regrouped_placed (x : Point) (on : Bool) (now : W32) (y : Placement) :
    ({ x with placement := y } : Point).regrouped on now = { x.regrouped on now with placement := y } := by
  unfold Point.regrouped
  split
  · rfl
  · split <;> rfl

/-- What the switching of the members `l` has made of the part. -/
structure SwitchedAll (s t : Part) (on : Bool) (l : List Nat) : Prop where
  rest : t = { s with points := t.points, areas := t.areas, desks := t.desks }
  point : ∀ r ∈ numbers 1024, t.point r =
    { (if r ∈ l then (s.point r).regrouped on s.now else s.point r) with placement := (t.point r).placement }
  area : ∀ a, t.area a =
    { s.area a with counts := (t.area a).counts, pend := (t.area a).pend, defer := (t.area a).defer }
  desk : ∀ d, t.desk d =
    { s.desk d with slots := (t.desk d).slots, order := (t.desk d).order, rotation := (t.desk d).rotation }
  board : (s.switchBoard on s l).Alike t

theorem switchAll_switched (on : Bool) {l : List Nat} (hl : l.Nodup) (hin : ∀ q ∈ l, q ∈ numbers 1024) (s : Part) :
    SwitchedAll s (s.switchAll on l) on l := by
  induction l generalizing s with
  | nil => exact ⟨rfl, fun _ _ => rfl, fun _ => rfl, fun _ => rfl, .refl s⟩
  | cons q l ih =>
    obtain ⟨hq, hl⟩ := List.nodup_cons.1 hl
    have hone := groupMember_switched s on (q := q)
    have hboard := groupMember_alike s on q
    have hstep : s.switchAll on (q :: l) = (s.groupMember on q).switchAll on l := rfl
    rw [hstep]
    generalize s.groupMember on q = u at hone hboard
    have hrest := ih hl (fun r hr => hin r (List.mem_cons_of_mem _ hr)) u
    have hnow : u.now = s.now := by
      rw [hone.rest]
      rfl
    have hshadow : ∀ r ∈ l, (s.point r).shadow = (u.point r).shadow := fun r hr => by
      have hne : r ≠ q := fun h => hq (h ▸ hr)
      rw [hone.point r (hin r (List.mem_cons_of_mem _ hr)), if_neg hne]
    constructor
    case rest => rw [hrest.rest, hone.rest]
    case point =>
      intro r hr
      rw [hrest.point r hr, hone.point r hr, hnow]
      by_cases hrq : r = q
      · rw [if_pos hrq, if_neg (hrq ▸ hq), if_pos (List.mem_cons.2 (.inl hrq)), hrq]
      · simp only [List.mem_cons, hrq, false_or, Point.regrouped_placed]
        split <;> rfl
    case area => exact fun a => by rw [hrest.area, hone.area]
    case desk => exact fun d => by rw [hrest.desk, hone.desk]
    case board =>
      refine Part.Alike.trans ?_ hrest.board
      exact switchBoard_alike on l hshadow hboard fun a => by rw [switchOne_flood, hone.area]

end Sys2Proof.Machine
end

section
/-! A GROUP event up to its fills (R14 to R18, R87). -/

namespace Sys2Proof.Machine

/-! ### Several areas that may go to CALM (R87) -/

/-- R87: areas that are RELEASING with nothing deferred go to CALM, in the order named. -/
def Part.calmAll (s : Part) (l : List Nat) : Part := l.foldl (fun t a => t.calmIfEmpty a true) s

theorem calmAll_rest (l : List Nat) (s : Part) :
    s.calmAll l = { s with areas := (s.calmAll l).areas, rst := (s.calmAll l).rst } := by
  induction l generalizing s with
  | nil => rfl
  | cons a l ih =>
    exact
    (ih (s.calmIfEmpty a true)).trans (congrArg (fun v : Part =>
      { v with areas := (s.calmAll (a :: l)).areas, rst := (s.calmAll (a :: l)).rst }) (calmIfEmpty_rest ..))

theorem calmAll_area {l : List Nat} (hl : l.Nodup) (s : Part) {b : Nat} (hb : b ∈ numbers 16) :
    (s.calmAll l).area b =
      { s.area b with
        flood := if b ∈ l ∧ s.calmReached b = true then .calm else (s.area b).flood } := by
  induction l generalizing s with
  | nil => simp [Part.calmAll]
  | cons a l ih =>
    obtain ⟨ha, hl⟩ := List.nodup_cons.1 hl
    have hone := calmIfEmpty_area s (a := a) true hb
    have hstep : s.calmAll (a :: l) = (s.calmIfEmpty a true).calmAll l := rfl
    rw [hstep, ih hl]
    unfold Part.calmReached
    rw [hone]
    by_cases hba : b = a
    · subst hba
      simp [ha]
    · simp [hba]

theorem Part.Journals.calmAll {s u : Part} {l : List Nat} (hl : l.Nodup) (hin : ∀ a ∈ l, a ∈ numbers 16)
    {m : List (Bool × W16 × RecordFields)} (h : s.Journals u m) :
    s.Journals (u.calmAll l)
      (m ++ (l.filter u.calmReached).map fun a => releaseOfWithdrawal a true (u.area a).generation) := by
  induction l generalizing u m with
  | nil =>
    rw [List.filter_nil, List.map_nil, List.append_nil]
    exact h
  | cons a l ih =>
    obtain ⟨ha, hl⟩ := List.nodup_cons.1 hl
    have hstep : u.calmAll (a :: l) = (u.calmIfEmpty a true).calmAll l := rfl
    have hone := h.calmIfEmpty (hin a (List.mem_cons_self ..)) true
    have hin' := fun b hb => hin b (List.mem_cons_of_mem _ hb)
    have hsame : ∀ b ∈ l, (u.calmIfEmpty a true).area b = u.area b := fun b hb => by
      have hba : b ≠ a := fun he => ha (he ▸ hb)
      rw [calmIfEmpty_area u true (hin' b hb), if_neg hba]
    have hfilter : l.filter (u.calmIfEmpty a true).calmReached = l.filter u.calmReached :=
      List.filter_congr fun b hb => by
        unfold Part.calmReached
        rw [hsame b hb]
    have hall := ih hl hin' hone
    have hmap : (l.filter u.calmReached).map (fun b => releaseOfWithdrawal b true ((u.calmIfEmpty a true).area b).generation) =
        (l.filter u.calmReached).map fun b => releaseOfWithdrawal b true (u.area b).generation :=
      List.map_congr_left fun b hb => by rw [hsame b (List.mem_of_mem_filter hb)]
    rw [hfilter, hmap, List.append_assoc] at hall
    rw [hstep, List.filter_cons]
    have hcalm : ((u.area a).flood = .releasing ∧ (u.area a).nothingDeferred = true) ↔ u.calmReached a = true := by
      unfold Part.calmReached
      rw [Bool.and_eq_true, beq_iff_eq]
    by_cases hc : u.calmReached a = true
    · rw [if_pos (hcalm.2 hc)] at hall
      rw [if_pos hc, List.map_cons]
      exact hall
    · rw [if_neg (mt hcalm.1 hc), List.nil_append] at hall
      rw [if_neg hc]
      exact hall

/-! ### The STATE records (R16) -/

/-- R16: the fields of the STATE record of member `p`, whose state is that of `v`. -/
def Part.memberRecord (s v : Part) (p : Nat) : RecordFields :=
  { s.pointRecord .state p with
    value := w16 (v.point p).state.code, flags := flagIf (s.point p).state.unacked flagAckDropped }

theorem foldl_writeMember (s v : Part) (l : List Nat) {t : Part} (ht : t.points = v.points) :
    l.foldl (fun t p => s.writeMember t p) t = l.foldl (fun t p => t.write true (s.memberRecord v p)) t := by
  induction l generalizing t with
  | nil => rfl
  | cons p l ih =>
    have hpoint : t.point p = v.point p := congrArg (getAt · p) ht
    have hone : s.writeMember t p = t.write true (s.memberRecord v p) := by
      unfold Part.writeMember Part.memberRecord
      rw [hpoint]
    rw [List.foldl_cons, List.foldl_cons, hone]
    exact ih ht

/-! ### The members and their areas -/

/-- R15, R16: the points that the event changes. -/
def Part.groupMoved (s : Part) (g : Nat) (on : Bool) : List Nat := (numbers 1024).filter (s.groupMoves g on)

theorem groupMembers_changed (s : Part) (g : Nat) (on : Bool) :
    (s.groupMembers g).filter (s.groupChanges on) = s.groupMoved g on := by
  unfold Part.groupMembers Part.groupMoved
  rw [configuredPoints_eq, List.filter_filter]
  refine List.filter_congr fun q hq => ?_
  have hpoint : isPoint q = true := (isPoint_iff q).2 hq
  unfold Part.groupMoves Part.groupChanges
  rw [hpoint, Bool.true_and, Bool.and_comm]
  refine congrArg (fun b => ((s.pointS q).configured && (s.pointS q).group == g) && b) ?_
  cases (s.point q).state <;> cases on <;> rfl

theorem groupMoved_inPlant {s : Part} (hs : s.PlantOk) {g : Nat} {on : Bool} {q : Nat} (hq : q ∈ s.groupMoved g on) :
    s.InPlant q := by
  obtain ⟨hin, hmoves⟩ := List.mem_filter.1 hq
  unfold Part.groupMoves at hmoves
  simp only [Bool.and_eq_true] at hmoves
  obtain ⟨⟨⟨_, hconf⟩, _⟩, _⟩ := hmoves
  exact hs.inPlant hin hconf

theorem regrouped_state_ne {s : Part} {g : Nat} {on : Bool} {q : Nat} (hq : q ∈ s.groupMoved g on) :
    (s.point q).state ≠ ((s.point q).regrouped on s.now).state := by
  obtain ⟨_, hmoves⟩ := List.mem_filter.1 hq
  unfold Part.groupMoves at hmoves
  obtain ⟨_, hstate⟩ := Bool.and_eq_true_iff.1 hmoves
  unfold Point.regrouped
  cases on with
  | true =>
    intro heq
    rw [if_pos rfl] at hstate heq
    rw [heq] at hstate
    exact Bool.false_ne_true hstate
  | false =>
    rw [if_neg Bool.false_ne_true] at hstate ⊢
    rw [beq_iff_eq.1 hstate]
    split <;> exact nofun

theorem area_mem_areasOf {s : Part} (hs : s.PlantOk) {g : Nat} {on : Bool} {q : Nat} (hq : q ∈ s.groupMoved g on) :
    (s.pointS q).area ∈ s.areasOf (s.groupMoved g on) :=
  List.mem_filter.2 ⟨(groupMoved_inPlant hs hq).area_mem, List.any_eq_true.2 ⟨q, hq, beq_self_eq_true _⟩⟩

theorem areasOf_nodup (s : Part) (l : List Nat) : (s.areasOf l).Nodup := (numbers_nodup 16).filter _

theorem mem_numbers_of_areasOf {s : Part} {l : List Nat} {a : Nat} (h : a ∈ s.areasOf l) : a ∈ numbers 16 :=
  List.mem_of_mem_filter h

end Sys2Proof.Machine
end

section
/-! A GROUP event before its fills: what it has changed and written (R14 to R18, R87). -/

namespace Sys2Proof.Machine

/-- R12: the generations of several areas. -/
def Part.bumpAll (s : Part) (l : List Nat) : Part := l.foldl Part.bump s

theorem bumpAll_area {l : List Nat} (hl : l.Nodup) (s : Part) {a : Nat} (ha : a ∈ numbers 16) :
    (s.bumpAll l).area a =
      { s.area a with generation := if a ∈ l then (s.area a).generation + 1 else (s.area a).generation } := by
  refine (foldl_modArea_area (fun _ x => { x with generation := x.generation + 1 }) hl s ha).trans ?_
  split <;> rfl

theorem bumpAll_rest (l : List Nat) (s : Part) : s.bumpAll l = { s with areas := (s.bumpAll l).areas } :=
  foldl_modArea_rest (fun _ x => { x with generation := x.generation + 1 }) l s

section
variable {s : Part} {g : Nat} {on : Bool}

/-- R14: the part in which the vector has changed. -/
def Part.regroup (s : Part) (g : Nat) (on : Bool) : Part := { s with groups := setAt s.groups g on }

/-- R15, R16: the areas that the event touches. -/
def Part.groupTouched (s : Part) (g : Nat) (on : Bool) : List Nat := s.areasOf (s.groupMoved g on)

/-- R14 to R16: the members switched, and the generations of their areas. -/
def Part.groupBumped (s : Part) (g : Nat) (on : Bool) : Part :=
  ((s.regroup g on).switchAll on (s.groupMoved g on)).bumpAll (s.groupTouched g on)

/-- R14: the fields of the GROUP record. -/
def groupFields (g : Nat) (on : Bool) : RecordFields := { kind := .group, value := w16 (256 * g + (if on then 1 else 0)) }

/-- R16: the records of the event stand behind the GROUP record. -/
def Part.groupWritten (s : Part) (g : Nat) (on : Bool) : Part :=
  (s.groupMoved g on).foldl (fun t p => t.write true (s.memberRecord (s.groupBumped g on) p))
    ((s.groupBumped g on).write false (groupFields g on))

/-- The part before the fills. -/
def Part.groupNoted (s : Part) (g : Nat) (on : Bool) : Part := (s.groupWritten g on).calmAll (s.groupTouched g on)

/-- R14: the event, by its stages. -/
theorem groupEvent_eq (s : Part) (g : Nat) (on : Bool) :
    s.groupEvent g on = closeEvent s []
      ((s.groupTouched g on).foldl Part.notify ((s.groupNoted g on).fillWhere fun d =>
        (s.groupTouched g on).any (fun a => ((s.groupNoted g on).area a).pdesk == d)
          || ((s.groupNoted g on).desk d).slots != (s.desk d).slots)) := by
  have hwritten : (s.groupMoved g on).foldl (fun t p => s.writeMember t p)
      ((s.groupBumped g on).write false (groupFields g on)) = s.groupWritten g on :=
    foldl_writeMember s (s.groupBumped g on) (s.groupMoved g on) rfl
  unfold Part.groupNoted
  rw [← hwritten]
  unfold Part.groupEvent
  rw [groupMembers_changed]
  rfl

/-! ### Before the records -/

/-- What the switching and the generations have made of the part. -/
structure GroupNoted (s w : Part) (g : Nat) (on : Bool) : Prop where
  rest : w = { s with groups := setAt s.groups g on, points := w.points, areas := w.areas, desks := w.desks, rst := w.rst }
  point : ∀ q ∈ numbers 1024, w.point q =
    { (if q ∈ s.groupMoved g on then (s.point q).regrouped on s.now else s.point q) with
      placement := (w.point q).placement }
  area : ∀ a ∈ numbers 16, w.area a =
    { s.area a with
      generation := if a ∈ s.groupTouched g on then (s.area a).generation + 1 else (s.area a).generation
      flood :=
        if a ∈ s.groupTouched g on ∧ ((s.area a).flood == .releasing && (w.area a).nothingDeferred) = true then .calm
        else (s.area a).flood
      counts := (w.area a).counts, pend := (w.area a).pend, defer := (w.area a).defer }
  desk : ∀ d, w.desk d =
    { s.desk d with slots := (w.desk d).slots, order := (w.desk d).order, rotation := (w.desk d).rotation }
  board : (s.switchBoard on s (s.groupMoved g on)).Alike w

theorem groupMoved_switched (s : Part) (g : Nat) (on : Bool) :
    SwitchedAll (s.regroup g on) ((s.regroup g on).switchAll on (s.groupMoved g on)) on (s.groupMoved g on) :=
  switchAll_switched on ((numbers_nodup 1024).filter _) (fun _ hq => List.mem_of_mem_filter hq) _

theorem regroup_alike (s : Part) (g : Nat) (on : Bool) : s.Alike (s.regroup g on) := .rest rfl rfl rfl rfl rfl rfl

/-- The members and generations after the switching. -/
theorem groupBumped_rest : s.groupBumped g on =
    { s with
      groups := setAt s.groups g on, points := (s.groupBumped g on).points, areas := (s.groupBumped g on).areas
      desks := (s.groupBumped g on).desks } := by
  have hswitched := (groupMoved_switched s g on).rest
  unfold Part.groupBumped
  rw [bumpAll_rest]
  generalize (s.regroup g on).switchAll on (s.groupMoved g on) = u at hswitched
  have hrest := bumpAll_rest (s.groupTouched g on) u
  generalize u.bumpAll (s.groupTouched g on) = v at hrest
  rw [hswitched]
  rfl

theorem groupBumped_point {q : Nat} (hq : q ∈ numbers 1024) : (s.groupBumped g on).point q =
    { (if q ∈ s.groupMoved g on then (s.point q).regrouped on s.now else s.point q) with
      placement := ((s.groupBumped g on).point q).placement } := by
  have hswitched := (groupMoved_switched s g on).point q hq
  have hsame : (s.groupBumped g on).point q = ((s.regroup g on).switchAll on (s.groupMoved g on)).point q := by
    unfold Part.groupBumped
    rw [bumpAll_rest]
    rfl
  rw [hsame]
  exact hswitched

theorem groupBumped_area {a : Nat} (ha : a ∈ numbers 16) : (s.groupBumped g on).area a =
    { s.area a with
      generation := if a ∈ s.groupTouched g on then (s.area a).generation + 1 else (s.area a).generation
      counts := ((s.groupBumped g on).area a).counts, pend := ((s.groupBumped g on).area a).pend
      defer := ((s.groupBumped g on).area a).defer } := by
  have hswitched := (groupMoved_switched s g on).area a
  unfold Part.groupBumped
  rw [bumpAll_area (l := s.groupTouched g on) (areasOf_nodup _ _) _ ha, hswitched]
  rfl

theorem groupWritten_rest : s.groupWritten g on = { s.groupBumped g on with rst := (s.groupWritten g on).rst } :=
  (foldl_write_rest (fun _ => true) (s.memberRecord (s.groupBumped g on)) _ _).trans rfl

theorem groupNoted_rest : s.groupNoted g on =
    { s.groupBumped g on with areas := (s.groupNoted g on).areas, rst := (s.groupNoted g on).rst } :=
  (calmAll_rest _ _).trans (congrArg (fun v : Part =>
    { v with areas := (s.groupNoted g on).areas, rst := (s.groupNoted g on).rst }) groupWritten_rest)

theorem groupWritten_area (a : Nat) : (s.groupWritten g on).area a = (s.groupBumped g on).area a := by
  rw [groupWritten_rest]
  rfl

theorem groupNoted_noted (s : Part) (g : Nat) (on : Bool) : GroupNoted s (s.groupNoted g on) g on := by
  have hrest := groupNoted_rest (s := s) (g := g) (on := on)
  have hpoint : ∀ q, (s.groupNoted g on).point q = (s.groupBumped g on).point q := fun q => by
    rw [hrest]
    rfl
  constructor
  case rest =>
    have hdesks : (s.groupNoted g on).desks = (s.groupBumped g on).desks := by rw [hrest]
    have hpoints : (s.groupNoted g on).points = (s.groupBumped g on).points := by rw [hrest]
    rw [hdesks, hpoints]
    exact hrest.trans (congrArg (fun v : Part =>
      { v with areas := (s.groupNoted g on).areas, rst := (s.groupNoted g on).rst }) groupBumped_rest)
  case point =>
    intro q hq
    rw [hpoint]
    exact groupBumped_point hq
  case area =>
    intro a ha
    have hcalm := calmAll_area (areasOf_nodup s (s.groupMoved g on)) (s.groupWritten g on) ha
    have harea := groupBumped_area (s := s) (g := g) (on := on) ha
    unfold Part.calmReached at hcalm
    rw [groupWritten_area] at hcalm
    change (s.groupNoted g on).area a = _ at hcalm
    rw [hcalm, harea]
    rfl
  case desk =>
    intro d
    have hswitched := (groupMoved_switched s g on).desk d
    have hsame : (s.groupNoted g on).desk d = ((s.regroup g on).switchAll on (s.groupMoved g on)).desk d := by
      rw [hrest]
      show (s.groupBumped g on).desk d = _
      unfold Part.groupBumped
      rw [bumpAll_rest]
      rfl
    rw [hsame]
    exact hswitched
  case board =>
    have hstart : (s.switchBoard on s (s.groupMoved g on)).Alike
        ((s.regroup g on).switchBoard on (s.regroup g on) (s.groupMoved g on)) :=
      switchBoard_alike on _ (fun _ _ => rfl) (regroup_alike s g on) fun _ => rfl
    have hbumped : ((s.regroup g on).switchAll on (s.groupMoved g on)).Alike (s.groupBumped g on) :=
      .keepFold _ (fun u a => .bump u a) _ _
    have hwritten : (s.groupBumped g on).Alike (s.groupWritten g on) := by
      rw [groupWritten_rest]
      exact .rest rfl rfl rfl rfl rfl rfl
    have hcalmed : (s.groupWritten g on).Alike (s.groupNoted g on) := .keepFold _ (fun u a => .calmIfEmpty u a true) _ _
    exact (((hstart.trans (groupMoved_switched s g on).board).trans hbumped).trans hwritten).trans hcalmed

end

end Sys2Proof.Machine
end

section
/-! The records and the end of a GROUP event, and O20. -/

namespace Sys2Proof.Machine

/-! ### Several notices (R13, R144) -/

theorem foldl_notify_rest (l : List Nat) (s : Part) :
    l.foldl Part.notify s = { s with sessions := (l.foldl Part.notify s).sessions } := by
  induction l generalizing s with
  | nil => rfl
  | cons a l ih =>
    exact (ih (s.notify a)).trans (congrArg (fun v : Part =>
      { v with sessions := (l.foldl Part.notify (s.notify a)).sessions }) (s.notify_rest a))

theorem foldl_notify_session (l : List Nat) (s : Part) {n : Nat} (hn : n ∈ numbers 4) :
    (l.foldl Part.notify s).session n =
      l.foldl (fun x a => if (s.area a).session = n then x.notice a else x) (s.session n) := by
  induction l generalizing s with
  | nil => rfl
  | cons a l ih =>
    have harea : ∀ b, (s.notify a).area b = s.area b := fun b => by
      rw [s.notify_rest a]
      rfl
    rw [List.foldl_cons, List.foldl_cons, ih, s.notify_session a n hn]
    simp only [harea]

section
variable {s : Part} {g : Nat} {on : Bool}

theorem mem_groupMoved {q : Nat} (hq : q ∈ numbers 1024) : q ∈ s.groupMoved g on ↔ s.groupMoves g on q = true := by
  simp [Part.groupMoved, hq]

/-! ### The records -/

/-- R14, R16, R87: the records of the event; the areas `calmed` go to CALM. -/
def Part.groupRecords (s : Part) (g : Nat) (on : Bool) (calmed : List Nat) : List (Bool × W16 × RecordFields) :=
  [(false, 0, groupFields g on)]
    ++ (s.groupMoved g on).map (fun q => (true, (s.area (s.pointS q).area).generation + 1,
      { kind := .state, area := (s.pointS q).area, point := q, priority := (s.pointS q).priority
        value := w16 ((s.point q).regrouped on s.now).state.code
        flags := if (s.point q).state.unacked then flagAckDropped else 0 }))
    ++ calmed.map fun a => releaseOfWithdrawal a true ((s.area a).generation + 1)

/-- R87: the areas that the event leaves CALM. -/
def Part.groupCalmed (s t : Part) (g : Nat) (on : Bool) : List Nat :=
  (s.groupTouched g on).filter fun a => (s.area a).flood == .releasing && (t.area a).nothingDeferred

theorem groupBumped_generation {a : Nat} (ha : a ∈ s.groupTouched g on) :
    ((s.groupBumped g on).area a).generation = (s.area a).generation + 1 := by
  rw [groupBumped_area (mem_numbers_of_areasOf ha), if_pos ha]

theorem groupWritten_calmReached {a : Nat} (ha : a ∈ numbers 16) :
    (s.groupWritten g on).calmReached a =
      ((s.area a).flood == .releasing && ((s.groupNoted g on).area a).nothingDeferred) := by
  have hcalm := calmAll_area (l := s.groupTouched g on) (areasOf_nodup _ _) (s.groupWritten g on) ha
  unfold Part.calmReached Part.groupNoted
  rw [hcalm, groupWritten_area, groupBumped_area ha]
  rfl

theorem groupNoted_journals (hs : s.PlantOk) :
    s.Journals (s.groupNoted g on) (s.groupRecords g on (s.groupCalmed (s.groupNoted g on) g on)) := by
  have hstart : s.Journals (s.groupBumped g on) [] :=
    .start (by rw [groupBumped_rest]) (by rw [groupBumped_rest]; rfl) (by rw [groupBumped_rest]; rfl)
  have hgroup := hstart.write false (groupFields g on)
  have hmembers := hgroup.writes true (s.memberRecord (s.groupBumped g on)) (s.groupMoved g on)
  have hcalmed := Part.Journals.calmAll (u := s.groupWritten g on) (l := s.groupTouched g on) (areasOf_nodup _ _)
    (fun _ => mem_numbers_of_areasOf) hmembers
  have hrecords : (s.groupMoved g on).map (fun q => (true,
      ((s.groupBumped g on).write false (groupFields g on)).generationOf (s.memberRecord (s.groupBumped g on) q).area,
      s.memberRecord (s.groupBumped g on) q)) =
      (s.groupMoved g on).map fun q => (true, (s.area (s.pointS q).area).generation + 1,
        ({ kind := .state, area := (s.pointS q).area, point := q, priority := (s.pointS q).priority
           value := w16 ((s.point q).regrouped on s.now).state.code
           flags := if (s.point q).state.unacked then flagAckDropped else 0 } : RecordFields)) :=
    List.map_congr_left fun q hq => by
      have hpoint := groupBumped_point (s := s) (g := g) (on := on) (List.mem_of_mem_filter hq)
      rw [if_pos hq] at hpoint
      have hgen : ((s.groupBumped g on).write false (groupFields g on)).generationOf (s.pointS q).area =
          (s.area (s.pointS q).area).generation + 1 :=
        (Part.generationOf_pos _ (Nat.ne_zero_of_lt ((mem_numbers _).1 (groupMoved_inPlant hs hq).area_mem).1)).trans
          (groupBumped_generation (area_mem_areasOf hs hq))
      have hfields : s.memberRecord (s.groupBumped g on) q =
          { kind := .state, area := (s.pointS q).area, point := q, priority := (s.pointS q).priority
            value := w16 ((s.point q).regrouped on s.now).state.code
            flags := if (s.point q).state.unacked then flagAckDropped else 0 } := by
        unfold Part.memberRecord
        rw [hpoint]
        rfl
      rw [hfields]
      exact congrArg (fun gen => (true, gen, _)) hgen
  have hfilter : (s.groupTouched g on).filter (s.groupWritten g on).calmReached =
      s.groupCalmed (s.groupNoted g on) g on :=
    List.filter_congr fun a ha => groupWritten_calmReached (mem_numbers_of_areasOf ha)
  have hreleases : (s.groupCalmed (s.groupNoted g on) g on).map
        (fun a => releaseOfWithdrawal a true ((s.groupWritten g on).area a).generation) =
      (s.groupCalmed (s.groupNoted g on) g on).map fun a => releaseOfWithdrawal a true ((s.area a).generation + 1) :=
    List.map_congr_left fun a ha => by
      rw [groupWritten_area, groupBumped_generation (List.mem_of_mem_filter ha)]
  rw [hrecords, hfilter, hreleases] at hcalmed
  exact hcalmed

/-! ### The end of the event -/

/-- R14 to R18, R87: what a GROUP event has made of the part. -/
theorem groupEvent_switched (hs : s.PlantOk) : s.GroupSwitched (s.groupEvent g on) g on := by
  rw [groupEvent_eq]
  have hnoted := groupNoted_noted s g on
  have hjournals := groupNoted_journals (g := g) (on := on) hs
  generalize s.groupNoted g on = w at hnoted hjournals
  have hfilled : (s.switchBoard on s (s.groupMoved g on)).fillWhere (fun d =>
        (s.groupTouched g on).any (fun a => (s.area a).pdesk == d)
          || ((s.switchBoard on s (s.groupMoved g on)).desk d).slots != (s.desk d).slots) |>.Alike
      (w.fillWhere fun d => (s.groupTouched g on).any (fun a => (w.area a).pdesk == d)
        || (w.desk d).slots != (s.desk d).slots) := by
    refine hnoted.board.fillWhere fun d _ => ?_
    obtain ⟨hslots, _, _⟩ := hnoted.board.desk d
    have hany : (s.groupTouched g on).any (fun a => (s.area a).pdesk == d) =
        (s.groupTouched g on).any fun a => (w.area a).pdesk == d := by
      rw [Bool.eq_iff_iff, List.any_eq_true, List.any_eq_true]
      refine exists_congr fun a => and_congr_right fun ha => ?_
      rw [hnoted.area a (mem_numbers_of_areasOf ha)]
    rw [hslots, hany]
  have hmoves := fillWhere_moves w fun d => (s.groupTouched g on).any (fun a => (w.area a).pdesk == d)
    || (w.desk d).slots != (s.desk d).slots
  generalize w.fillWhere (fun d => (s.groupTouched g on).any (fun a => (w.area a).pdesk == d)
    || (w.desk d).slots != (s.desk d).slots) = v at hfilled hmoves
  have hnotified := foldl_notify_rest (s.groupTouched g on) v
  have hsessions := fun n hn => foldl_notify_session (s.groupTouched g on) v (n := n) hn
  have hnotice : v.Alike ((s.groupTouched g on).foldl Part.notify v) := .keepFold _ (fun u a => .notify u a) _ _
  generalize (s.groupTouched g on).foldl Part.notify v = x at hnotified hsessions hnotice
  have hjournal : s.Journals x (s.groupRecords g on (s.groupCalmed w g on)) := by
    refine hjournals.quiet ?_ ?_ ?_
    · rw [hnotified, hmoves.rest]
    · rw [hnotified, hmoves.rest]; rfl
    · rw [hnotified, hmoves.rest]; rfl
  have hpoint : ∀ q ∈ numbers 1024, (closeEvent s [] x).point q =
      { (if q ∈ s.groupMoved g on then (s.point q).regrouped on s.now else s.point q) with
        placement := ((closeEvent s [] x).point q).placement } := fun q hq => by
    have hsame : (closeEvent s [] x).point q = v.point q := by
      rw [closeEvent_point, hnotified]
      rfl
    rw [hsame, hmoves.point, hnoted.point q hq]
  have hareas : ∀ a, (closeEvent s [] x).area a = { w.area a with pend := ((closeEvent s [] x).area a).pend } := fun a => by
    rw [closeEvent_area, hnotified]
    exact hmoves.area a
  have hcalmed : s.groupCalmed w g on = s.groupCalmed (closeEvent s [] x) g on :=
    List.filter_congr fun a _ => by
      rw [hareas a]
      rfl
  have harea : ∀ a ∈ numbers 16, (closeEvent s [] x).area a =
      { s.area a with
        generation := if a ∈ s.groupTouched g on then (s.area a).generation + 1 else (s.area a).generation
        flood := if a ∈ s.groupCalmed (closeEvent s [] x) g on then .calm else (s.area a).flood
        counts := ((closeEvent s [] x).area a).counts, pend := ((closeEvent s [] x).area a).pend
        defer := ((closeEvent s [] x).area a).defer } := fun a ha => by
    rw [← hcalmed]
    unfold Part.groupCalmed
    simp only [List.mem_filter]
    rw [hareas a, hnoted.area a ha]
    rfl
  have hwrote := hjournal.close []
  rw [hcalmed] at hwrote
  have hfixed : s.Fixed (closeEvent s [] x) := by
    refine ⟨?_, ?_, ?_, ?_, ?_⟩
    · rw [closeEvent_resetLow, hnotified, hmoves.rest, hnoted.rest]
    · rw [closeEvent_phase, hnotified, hmoves.rest, hnoted.rest]
    · rw [closeEvent_staged, hnotified, hmoves.rest, hnoted.rest]
    · rw [closeEvent_live, hnotified, hmoves.rest, hnoted.rest]
    · rw [closeEvent_tset, hnotified, hmoves.rest, hnoted.rest]
  have hsession : ∀ n ∈ numbers 4, (closeEvent s [] x).session n =
      (s.groupTouched g on).foldl (fun y a => if (s.area a).session = n then y.notice a else y) (s.session n) :=
    fun n hn => by
      have hstart : v.session n = s.session n := by
        rw [hmoves.rest, hnoted.rest]
        rfl
      rw [closeEvent_session, hsessions n hn, hstart]
      refine List.foldl_ext _ _ _ fun y a ha => ?_
      rw [hmoves.area, hnoted.area a (mem_numbers_of_areasOf ha)]
  refine ⟨?_, fun q hq => ?_, harea, hfilled.sameBoard.trans (hnotice.sameBoard.trans (Part.Alike.closeEvent s x []).sameBoard),
    hwrote, hsession, hfixed, ?_, ?_, fun d hd => closeEvent_deskMoved [] hd ?_, fun q hq => ?_, fun a ha => ?_⟩
  · rw [closeEvent_groups, hnotified, hmoves.rest, hnoted.rest]
  · have hmember := hpoint q hq
    simp only [mem_groupMoved hq] at hmember
    exact hmember
  · rw [closeEvent_credDesk, hnotified, hmoves.rest, hnoted.rest]
  · rw [closeEvent_shelf, hnotified, hmoves.rest, hnoted.rest]
  · rw [hnotified]
    show v.desk d = { s.desk d with
      slots := (v.desk d).slots, order := (v.desk d).order, rotation := (v.desk d).rotation }
    rw [hmoves.desk, hnoted.desk]
  · have hin := List.mem_of_mem_filter hq
    refine closeEvent_tells_point hin ?_
    have hstate := regrouped_state_ne hq
    have hnow := congrArg Point.state (hpoint q hin)
    rw [if_pos (show q ∈ s.groupMoved g on from hq)] at hnow
    rw [closeEvent_point] at hnow
    have hne : (s.point q).state ≠ (x.point q).state := by
      rw [hnow]
      exact hstate
    unfold pointReported
    rw [bne_iff_ne.2 hne]
    rfl
  · have hin := mem_numbers_of_areasOf ha
    refine closeEvent_tells_area [] hin (areaReported_of_generation ?_)
    have hgen := congrArg Area.generation (harea a hin)
    have hmem : a ∈ s.groupTouched g on := ha
    rw [closeEvent_area] at hgen
    rw [hgen]
    exact if_pos hmem

end

/-! ### The request -/

theorem groupEvent_lif (s : Part) (g : Nat) (on : Bool) : (s.groupEvent g on).lif = s.lif :=
  (s.event_groupEvent (auth := true) g on).lif

theorem Part.GroupSwitched.answered {s t : Part} {g : Nat} {on : Bool} (h : s.taken.GroupSwitched t g on) {x : Lif}
    (hlink : x.link = t.lif.link) : s.GroupSwitched { t with lif := x } g on := by
  obtain ⟨h1, h2, h3, hboard, hwrote, h4, h5, h6, h7, h8, h9, h10⟩ := h
  have hswitched : (s.switchBoard on s (s.groupMoved g on)).Alike
      (s.taken.switchBoard on s.taken (s.groupMoved g on)) :=
    switchBoard_alike on _ (fun _ _ => rfl) (.taken s) fun _ => rfl
  have hfilled : (s.switchBoard on s (s.groupMoved g on)).fillWhere (fun d =>
        (s.groupTouched g on).any (fun a => (s.area a).pdesk == d)
          || ((s.switchBoard on s (s.groupMoved g on)).desk d).slots != (s.desk d).slots) |>.Alike
      ((s.taken.switchBoard on s.taken (s.groupMoved g on)).fillWhere fun d =>
        (s.groupTouched g on).any (fun a => (s.area a).pdesk == d)
          || ((s.taken.switchBoard on s.taken (s.groupMoved g on)).desk d).slots != (s.desk d).slots) := by
    refine hswitched.fillWhere fun d _ => ?_
    obtain ⟨hslots, _, _⟩ := hswitched.desk d
    rw [hslots]
  exact ⟨h1, h2, h3, hfilled.sameBoard.trans hboard, Part.Wrote.answered hwrote hlink, h4, h5, h6, h7, h8, h9, h10⟩

theorem exec_group (u : State) : exec .group u = onRequest .group groupHandler u := rfl

theorem groupHandler_badField {s : Part} {body : List Byte}
    (h : byteAt body 0 = 0 ∨ 64 < byteAt body 0 ∨ 1 < byteAt body 1) :
    groupHandler body s = (s, [ResultCode.badField.byte]) := by
  have hbad : (!(decide (1 ≤ byteAt body 0) && decide (byteAt body 0 ≤ Config.nGroups)) || decide (1 < byteAt body 1)) = true := by
    simp only [Bool.or_eq_true, Bool.not_eq_true', Bool.and_eq_false_iff, decide_eq_true_eq, decide_eq_false_iff_not,
      Config.nGroups]
    omega
  unfold groupHandler
  dsimp only
  rw [if_pos hbad]
  rfl

theorem groupHandler_taken {s : Part} {body : List Byte} (h1 : 1 ≤ byteAt body 0) (h64 : byteAt body 0 ≤ 64)
    (hv : byteAt body 1 ≤ 1) :
    groupHandler body s =
      if getAt s.groups (byteAt body 0) = (byteAt body 1 == 1) then (s, [ResultCode.repeated.byte])
      else (s.groupEvent (byteAt body 0) (byteAt body 1 == 1), [0]) := by
  have hgood : ¬(!(decide (1 ≤ byteAt body 0) && decide (byteAt body 0 ≤ Config.nGroups)) || decide (1 < byteAt body 1)) = true := by
    simp only [Bool.or_eq_true, Bool.not_eq_true', Bool.and_eq_false_iff, decide_eq_true_eq, decide_eq_false_iff_not,
      Config.nGroups]
    omega
  unfold groupHandler
  dsimp only
  rw [if_neg hgood]
  rfl

/-- Settles O20: the checks of a GROUP request, and its event. -/
theorem groupRequestSwitchesItsMembers : Obligations.GroupRequestSwitchesItsMembers := by
  refine fun s tag body h hs => ⟨fun hbad => ?_, fun h1 h64 hv hrep => ?_, fun h1 h64 hv hnew => ?_⟩
  · exact completes_answered (u := s.taken) exec_group h (groupHandler_badField hbad) rfl
  · have hanswer := groupHandler_taken (s := s.taken) h1 h64 hv
    rw [if_pos (show getAt s.taken.groups _ = _ from hrep)] at hanswer
    exact completes_answered (u := s.taken) exec_group h hanswer rfl
  · have hanswer := groupHandler_taken (s := s.taken) h1 h64 hv
    rw [if_neg (show ¬getAt s.taken.groups _ = _ from hnew)] at hanswer
    have hlif := groupEvent_lif s.taken (byteAt body 0) (byteAt body 1 == 1)
    have hswitched := groupEvent_switched (s := s.taken) (g := byteAt body 0) (on := byteAt body 1 == 1) hs
    generalize s.taken.groupEvent (byteAt body 0) (byteAt body 1 == 1) = v at hanswer hlif hswitched
    exact ⟨_, completes_answered exec_group h hanswer hlif, rfl, hswitched.answered (Part.answer_link_of hlif ..)⟩

end Sys2Proof.Machine
end

section
/-! No event reads the input queue: what it makes of a part it makes of the part with another input queue as well (R172). -/

namespace Sys2Proof.Machine

/-- R171: the part with another input queue. -/
def Part.requeued (q : List Frame) (s : Part) : Part := s.modLif fun l => { l with inputQueue := q }

theorem Part.taken_requeued (s : Part) : s.taken = s.requeued s.lif.inputQueue.tail := rfl

namespace Part

variable (q : List Frame) (s : Part)

theorem foldl_requeued {α : Type} {f : Part → α → Part} (hf : ∀ u x, f (requeued q u) x = requeued q (f u x)) (l : List α)
    (s : Part) : l.foldl f (requeued q s) = requeued q (l.foldl f s) := by
  induction l generalizing s with
  | nil => rfl
  | cons x l ih => rw [List.foldl_cons, List.foldl_cons, hf, ih]

theorem withdraw_requeued (p : Nat) : (requeued q s).withdraw p = requeued q (s.withdraw p) := by
  unfold withdraw
  rw [show (requeued q s).point p = s.point p from rfl]
  cases (s.point p).placement <;> rfl

theorem place_requeued (p : Nat) : (requeued q s).place p = requeued q (s.place p) := by
  have hunfold : (requeued q s).place p =
      if (s.area (s.pointS p).area).flood = .flood ∧ (s.areaS (s.pointS p).area).cutoff < (s.pointS p).priority then
        requeued q (s.joinDeferred p) else requeued q (s.joinPending p) := rfl
  rw [hunfold, ← apply_ite (requeued q)]
  rfl

theorem returnSlot_requeued (d k : Nat) : (requeued q s).returnSlot d k = requeued q (s.returnSlot d k) := by
  unfold returnSlot
  rw [show (requeued q s).desk d = s.desk d from rfl]
  cases getAt (s.desk d).slots k <;> rfl

theorem fillStep_requeued (d : Nat) : (requeued q s).fillStep d = (s.fillStep d).map (requeued q) := by
  unfold fillStep
  rw [show (requeued q s).candidate d = s.candidate d from rfl, show (requeued q s).desk d = s.desk d from rfl,
    show (requeued q s).leastUrgent d = s.leastUrgent d from rfl]
  cases s.candidate d with
  | none => rfl
  | some x =>
    obtain ⟨a, pr, p⟩ := x
    dsimp only
    cases (s.desk d).emptySlotNo with
    | some k => rfl
    | none =>
      dsimp only
      cases s.leastUrgent d with
      | none => rfl
      | some k =>
        dsimp only
        rw [show (requeued q s).slotPriority d k = s.slotPriority d k from rfl, returnSlot_requeued]
        split <;> rfl

theorem fillLoop_requeued (n d : Nat) : fillLoop n (requeued q s) d = requeued q (fillLoop n s d) := by
  induction n generalizing s with
  | zero => rfl
  | succ n ih =>
    unfold fillLoop
    rw [fillStep_requeued]
    cases s.fillStep d with
    | none => rfl
    | some t => exact ih t

theorem fill_requeued (d : Nat) : (requeued q s).fill d = requeued q (s.fill d) := by
  unfold fill
  split
  · rfl
  · exact fillLoop_requeued q s _ d

theorem fillWhere_requeued (f : Nat → Bool) : (requeued q s).fillWhere f = requeued q (s.fillWhere f) :=
  foldl_requeued q (fun u d => fill_requeued q u d) _ s

theorem deferQueue_requeued (a pr : Nat) : (requeued q s).deferQueue a pr = requeued q (s.deferQueue a pr) :=
  foldl_requeued q (fun _ _ => rfl) _ (s.modArea a fun x =>
      { x with
        pend := setAt x.pend pr []
        defer := modAt x.defer pr (· ++ getAt (s.area a).pend pr)
        counts := { x.counts with deferred := x.counts.deferred + (getAt (s.area a).pend pr).length } })

theorem enterFlood_requeued (a : Nat) : (requeued q s).enterFlood a = requeued q (s.enterFlood a) :=
  foldl_requeued q (fun u pr => deferQueue_requeued q u a pr) _ (s.modArea a fun x => { x with flood := .flood })

theorem contribute_requeued (p : Nat) : (requeued q s).contribute p = requeued q (s.contribute p) := by
  have hunfold : (requeued q s).contribute p =
      if ((s.loaded p).area (s.pointS p).area).flood ≠ .flood
          ∧ (s.areaS (s.pointS p).area).high ≤ ((s.loaded p).area (s.pointS p).area).load then
        (requeued q (s.loaded p)).enterFlood (s.pointS p).area else requeued q (s.loaded p) := rfl
  rw [hunfold, enterFlood_requeued, ← apply_ite (requeued q)]
  rfl

theorem notify_requeued (a : Nat) : (requeued q s).notify a = requeued q (s.notify a) := by
  unfold notify
  rw [show (requeued q s).area a = s.area a from rfl]
  split <;> rfl

theorem notifyIf_requeued (sig : Bool) (a : Nat) : (requeued q s).notifyIf sig a = requeued q (s.notifyIf sig a) := by
  cases sig
  · rfl
  · exact notify_requeued q s a

theorem bumpIf_requeued (sig : Bool) (a : Nat) : (requeued q s).bumpIf sig a = requeued q (s.bumpIf sig a) := by
  cases sig <;> rfl

theorem calmIfEmpty_requeued (a : Nat) (sig : Bool) : (requeued q s).calmIfEmpty a sig = requeued q (s.calmIfEmpty a sig) := by
  unfold calmIfEmpty
  rw [show (requeued q s).area a = s.area a from rfl]
  split <;> rfl

theorem refreshHorns_requeued : (requeued q s).refreshHorns = requeued q s.refreshHorns :=
  foldl_requeued q (fun _ _ => rfl) _ s

theorem lampSource_requeued (d k : Nat) : (requeued q s).lampSource d k = s.lampSource d k := rfl

theorem deskReported_requeued (t : Part) (d : Nat) : deskReported (requeued q s) (requeued q t) d = deskReported s t d := by
  unfold deskReported lampSources
  rw [funext (lampSource_requeued q s d), funext (lampSource_requeued q t d)]
  rfl

theorem eventReports_requeued (t : Part) (extra : List ReportEntry) :
    eventReports (requeued q s) (requeued q t) extra = eventReports s t extra := by
  unfold eventReports
  simp only [deskReported_requeued]
  rfl

theorem closeEvent_requeued (extra : List ReportEntry) (t : Part) :
    closeEvent (requeued q s) extra (requeued q t) = requeued q (closeEvent s extra t) := by
  unfold closeEvent
  rw [refreshHorns_requeued, eventReports_requeued]
  rfl

theorem refuse_requeued (d a p pr : Nat) (r : ResultCode) :
    (requeued q s).refuse d a p pr r = requeued q (s.refuse d a p pr r) := by
  unfold refuse
  split
  · exact closeEvent_requeued q s [] (s.writeRefusal d a p pr r)
  · rfl

theorem refusePoint_requeued (d p : Nat) (r : ResultCode) :
    (requeued q s).refusePoint d p r = requeued q (s.refusePoint d p r) := refuse_requeued q s ..

/-! ### Presentation desks -/

theorem returnsAt_requeued (newDesk : Nat → Nat) (d : Nat) :
    (requeued q s).returnsAt newDesk d = requeued q (s.returnsAt newDesk d) := by
  refine foldl_requeued q (fun u k => ?_) _ s
  rw [show (requeued q u).desk d = u.desk d from rfl]
  cases getAt (u.desk d).slots k with
  | none => rfl
  | some x =>
    dsimp only
    rw [returnSlot_requeued, show (requeued q u).pointS x.point = u.pointS x.point from rfl]
    split <;> rfl

theorem recompute_requeued : (requeued q s).recompute = requeued q s.recompute := by
  unfold recompute
  dsimp only
  rw [show (requeued q s).presentation = s.presentation from rfl,
    foldl_requeued q (fun u d => returnsAt_requeued q u _ d) _ s]
  generalize (numbers Config.nDesks).foldl (fun u d => u.returnsAt (fun a => (s.presentation a).2) d) s = t
  rw [show (requeued q t).setPresentation s.presentation = requeued q (t.setPresentation s.presentation) from
    foldl_requeued q (fun _ _ => rfl) _ t]
  exact fillWhere_requeued q _ _

end Part

end Sys2Proof.Machine
end

section
/-! The items of a request one after another (R32, R41, R55, R186), and their independence of the input queue. -/

namespace Sys2Proof.Machine

namespace Part

variable (q : List Frame) (s : Part)

/-! ### The events of the items -/

theorem enterUnack_requeued (p : Nat) : (requeued q s).enterUnack p = requeued q (s.enterUnack p) := by
  rw [enterUnack_eq, enterUnack_eq]
  exact place_requeued q (s.unplaced p) p

theorem conditionChange_requeued (p : Nat) : (requeued q s).conditionChange p = requeued q (s.conditionChange p) := by
  unfold conditionChange
  rw [show (requeued q s).point p = s.point p from rfl]
  cases (s.point p).state with
  | normal =>
    dsimp only
    rw [show (requeued q s).modPoint p (fun x => { x with shadow := true }) =
      requeued q (s.modPoint p fun x => { x with shadow := true }) from rfl, enterUnack_requeued, contribute_requeued]
  | rtnUnack => exact contribute_requeued q (s.raiseAgain p) p
  | unack => rfl
  | acked => rfl
  | shelved => rfl
  | removed => rfl
  | suppressed => rfl

theorem writeCondition_requeued (u : Part) (p value : Nat) (sig entered : Bool) :
    (requeued q s).writeCondition (requeued q u) p value sig entered = requeued q (s.writeCondition u p value sig entered) := by
  cases entered <;> rfl

theorem raisedEnd_requeued (w : Part) (p : Nat) (sig : Bool) :
    (requeued q s).raisedEnd (requeued q w) p sig = requeued q (s.raisedEnd w p sig) := by
  unfold raisedEnd
  rw [show (requeued q s).point p = s.point p from rfl, show (requeued q w).point p = w.point p from rfl,
    show (requeued q s).pointS p = s.pointS p from rfl,
    show (requeued q w).fillAreaDesk (s.pointS p).area = requeued q (w.fillAreaDesk (s.pointS p).area) from
      fill_requeued q w _, ← apply_ite (requeued q), notifyIf_requeued, closeEvent_requeued]

/-- R52: a condition event by its stages. -/
theorem conditionEvent_stages (p : Nat) (active : Bool) :
    s.conditionEvent p active =
      s.raisedEnd (s.writeCondition ((s.conditionChange p).bumpIf (s.significantBy (s.conditionChange p) p) (s.pointS p).area) p
        (256 * (if active then 1 else 0)
          + (((s.conditionChange p).bumpIf (s.significantBy (s.conditionChange p) p) (s.pointS p).area).point p).state.code)
        (s.significantBy (s.conditionChange p) p) (s.enteredBy (s.conditionChange p) p)) p
        (s.significantBy (s.conditionChange p) p) := rfl

theorem conditionEvent_requeued (p : Nat) (active : Bool) :
    (requeued q s).conditionEvent p active = requeued q (s.conditionEvent p active) := by
  rw [conditionEvent_stages, conditionEvent_stages, conditionChange_requeued]
  generalize s.conditionChange p = u
  rw [show (requeued q s).significantBy (requeued q u) p = s.significantBy u p from rfl,
    show (requeued q s).enteredBy (requeued q u) p = s.enteredBy u p from rfl,
    show (requeued q s).pointS p = s.pointS p from rfl, bumpIf_requeued]
  generalize u.bumpIf (s.significantBy u p) (s.pointS p).area = v
  rw [show (requeued q v).point p = v.point p from rfl, writeCondition_requeued, raisedEnd_requeued]

theorem conditionItem_requeued (p c : Nat) :
    (requeued q s).conditionItem p c = (requeued q (s.conditionItem p c).1, (s.conditionItem p c).2) := by
  unfold conditionItem
  rw [conditionEvent_requeued, show (requeued q s).pointS p = s.pointS p from rfl,
    show (requeued q s).conditionHeld p (c == 1) = s.conditionHeld p (c == 1) from rfl]
  split
  · rfl
  · split
    · rfl
    · split <;> rfl

theorem ackPoint_requeued (p : Nat) : (requeued q s).ackPoint p = requeued q (s.ackPoint p) := by
  unfold ackPoint
  rw [withdraw_requeued]
  rfl

theorem acknowledge_requeued (d p : Nat) (button : Bool) :
    (requeued q s).acknowledge d p button = requeued q (s.acknowledge d p button) := by
  have hunfold : ∀ v : Part, v.acknowledge d p button = closeEvent v []
      (((((v.ackPoint p).bumpIf (v.reviewed p) (v.pointS p).area).write (v.reviewed p)
        { v.pointRecord .ack p with
          desk := d, credential := (v.desk d).signedOn
          value := w16 (256 * (if button then 1 else 0)
            + (((v.ackPoint p).bumpIf (v.reviewed p) (v.pointS p).area).point p).state.code) }).calmIfEmpty
          (v.pointS p).area (v.reviewed p)).fill (v.shownAt p) |>.notifyIf (v.reviewed p) (v.pointS p).area) := fun _ => rfl
  rw [hunfold, hunfold, ackPoint_requeued]
  generalize s.ackPoint p = u
  rw [show (requeued q s).reviewed p = s.reviewed p from rfl, show (requeued q s).pointS p = s.pointS p from rfl,
    show (requeued q s).shownAt p = s.shownAt p from rfl, show (requeued q s).desk d = s.desk d from rfl,
    show (requeued q s).pointRecord .ack p = s.pointRecord .ack p from rfl, bumpIf_requeued]
  generalize u.bumpIf (s.reviewed p) (s.pointS p).area = v
  rw [show (requeued q v).point p = v.point p from rfl, show ∀ f, (requeued q v).write (s.reviewed p) f =
    requeued q (v.write (s.reviewed p) f) from fun _ => rfl, calmIfEmpty_requeued, fill_requeued, notifyIf_requeued,
    closeEvent_requeued]

theorem ackItem_requeued (d p : Nat) (view : W16) :
    (requeued q s).ackItem d p view = (requeued q (s.ackItem d p view).1, (s.ackItem d p view).2) := by
  have hcheck : (requeued q s).ackCheck d p view = s.ackCheck d p view := rfl
  cases h : s.ackCheck d p view with
  | none =>
    rw [ackItem_passes h, ackItem_passes (hcheck.trans h), acknowledge_requeued]
    generalize s.acknowledge d p false = t
    rfl
  | some r =>
    rw [ackItem_refused h, ackItem_refused (hcheck.trans h), refusePoint_requeued]
    rfl

theorem assumeArea_requeued (d a : Nat) (first : Bool) :
    (requeued q s).assumeArea d a first = requeued q (s.assumeArea d a first) := by
  have hunfold : ∀ v : Part, v.assumeArea d a first = closeEvent v (if first then [authorityEntry d] else [])
      ((v.assigned a (v.desk d).signedOn).recompute.write true
        { kind := .assume, area := a, desk := d, credential := (v.desk d).signedOn }) := fun _ => rfl
  rw [hunfold, hunfold, show (requeued q s).desk d = s.desk d from rfl,
    show (requeued q s).assigned a (s.desk d).signedOn = requeued q (s.assigned a (s.desk d).signedOn) from rfl,
    recompute_requeued]
  exact closeEvent_requeued q s _ ((s.assigned a (s.desk d).signedOn).recompute.write true
    { kind := .assume, area := a, desk := d, credential := (s.desk d).signedOn })

theorem assumeItems_requeued (d : Nat) (l : List Nat) (first : Bool) :
    (requeued q s).assumeItems d l first = (requeued q (s.assumeItems d l first).1, (s.assumeItems d l first).2) := by
  induction l generalizing s first with
  | nil => rfl
  | cons a l ih =>
    unfold assumeItems
    rw [show (requeued q s).assumeCheck d a = s.assumeCheck d a from rfl]
    cases s.assumeCheck d a with
    | none =>
      dsimp only
      rw [assumeArea_requeued, ih]
    | some r =>
      dsimp only
      rw [refuse_requeued, ih]

theorem configPoint_requeued (body : List Byte) (i : Nat) :
    (requeued q s).configPoint body i = (requeued q (s.configPoint body i).1, (s.configPoint body i).2) := by
  unfold configPoint stage
  split <;> rfl

end Part

/-! ### Items in order -/

theorem takeItemsInOrder_cons (f : Part → Nat → Part × List Byte) (i : Nat) (l : List Nat) (s : Part) :
    takeItemsInOrder f (i :: l) s =
      ((takeItemsInOrder f l (f s i).1).1, (f s i).2 ++ (takeItemsInOrder f l (f s i).1).2) := by
  have hacc : ∀ (l : List Nat) (u : Part) (x : List Byte),
      l.foldl (fun acc i => ((f acc.1 i).1, acc.2 ++ (f acc.1 i).2)) (u, x) =
        ((takeItemsInOrder f l u).1, x ++ (takeItemsInOrder f l u).2) := by
    intro l
    induction l with
    | nil => exact fun u x => congrArg (u, ·) (List.append_nil x).symm
    | cons j l ih =>
      intro u x
      unfold takeItemsInOrder
      rw [List.foldl_cons, List.foldl_cons, ih, ih, List.nil_append, List.append_assoc]
  exact hacc l _ _

theorem takeItemsInOrder_append (f : Part → Nat → Part × List Byte) (l m : List Nat) (s : Part) :
    takeItemsInOrder f (l ++ m) s =
      ((takeItemsInOrder f m (takeItemsInOrder f l s).1).1,
        (takeItemsInOrder f l s).2 ++ (takeItemsInOrder f m (takeItemsInOrder f l s).1).2) := by
  induction l generalizing s with
  | nil => rfl
  | cons i l ih => rw [List.cons_append, takeItemsInOrder_cons, ih, takeItemsInOrder_cons, List.append_assoc]

theorem takeItemsInOrder_congr {f g : Part → Nat → Part × List Byte} {l : List Nat} (h : ∀ i ∈ l, ∀ s, f s i = g s i)
    (s : Part) : takeItemsInOrder f l s = takeItemsInOrder g l s := by
  induction l generalizing s with
  | nil => rfl
  | cons i l ih =>
    rw [takeItemsInOrder_cons, takeItemsInOrder_cons, h i (List.mem_cons_self ..),
      ih fun j hj => h j (List.mem_cons_of_mem _ hj)]

theorem takeItemsInOrder_requeued {f : Part → Nat → Part × List Byte} (q : List Frame)
    (hf : ∀ u i, f (u.requeued q) i = ((f u i).1.requeued q, (f u i).2)) (l : List Nat) (s : Part) :
    takeItemsInOrder f l (s.requeued q) = ((takeItemsInOrder f l s).1.requeued q, (takeItemsInOrder f l s).2) := by
  induction l generalizing s with
  | nil => rfl
  | cons i l ih =>
    rw [takeItemsInOrder_cons, hf, ih, takeItemsInOrder_cons]

/-! ### A body and one more item -/

/-- A body of whole items and one more item: the offsets of the whole. -/
theorem itemOffsets_succ (head : Nat) {size : Nat} (hsize : 0 < size) (n : Nat) :
    itemOffsets head size (head + size * (n + 1)) = itemOffsets head size (head + size * n) ++ [head + size * n] := by
  unfold itemOffsets
  rw [Nat.add_sub_cancel_left, Nat.add_sub_cancel_left, Nat.mul_div_cancel_left _ hsize, Nat.mul_div_cancel_left _ hsize,
    List.range_succ, List.map_append]
  rfl

theorem lt_of_mem_itemOffsets {head size n i : Nat} (hsize : 0 < size) (h : i ∈ itemOffsets head size (head + size * n)) :
    head ≤ i ∧ i + size ≤ head + size * n := by
  unfold itemOffsets at h
  obtain ⟨k, hk, rfl⟩ := List.mem_map.1 h
  rw [Nat.add_sub_cancel_left, Nat.mul_div_cancel_left _ hsize, List.mem_range] at hk
  have := Nat.mul_le_mul_left size (Nat.succ_le_of_lt hk)
  rw [Nat.mul_succ] at this
  omega

/-- What a request does with the item at an offset is settled by the item's bytes. -/
def Itemwise (size : Nat) (f : List Byte → Part → Nat → Part × List Byte) : Prop :=
  ∀ (b c : List Byte) (i j : Nat), (∀ k < size, byteAt b (i + k) = byteAt c (j + k)) → ∀ s, f b s i = f c s j

/-- R32, R41, R55, R186: the last item is taken from the part that the ones before it left. -/
theorem takeItemsInOrder_itemwise {size : Nat} {f : List Byte → Part → Nat → Part × List Byte} (hf : Itemwise size f)
    (hsize : 0 < size) (pre : List Byte) {body item : List Byte} (hbody : body.length % size = 0) (hitem : item.length = size)
    (s : Part) :
    let first := takeItemsInOrder (f (pre ++ body)) (itemOffsets pre.length size (pre ++ body).length) s
    let last := takeItemsInOrder (f (pre ++ item)) (itemOffsets pre.length size (pre ++ item).length) first.1
    takeItemsInOrder (f (pre ++ (body ++ item))) (itemOffsets pre.length size (pre ++ (body ++ item)).length) s =
      (last.1, first.2 ++ last.2) := by
  obtain ⟨n, hn⟩ := Nat.dvd_of_mod_eq_zero hbody
  have hwhole : (pre ++ (body ++ item)).length = pre.length + size * (n + 1) := by
    rw [List.length_append, List.length_append, hn, hitem, Nat.mul_succ]
  have hfirst : (pre ++ body).length = pre.length + size * n := by rw [List.length_append, hn]
  have hlast : (pre ++ item).length = pre.length + size * (0 + 1) := by rw [List.length_append, hitem, Nat.zero_add, Nat.mul_one]
  have hbefore : ∀ i ∈ itemOffsets pre.length size (pre.length + size * n), ∀ u,
      f (pre ++ (body ++ item)) u i = f (pre ++ body) u i := fun i hi => by
    obtain ⟨_, hend⟩ := lt_of_mem_itemOffsets hsize hi
    refine hf _ _ _ _ fun k hk => ?_
    unfold byteAt
    rw [← List.append_assoc, List.getD_append _ _ _ _ (by rw [hfirst]; omega)]
  have hafter : ∀ u, f (pre ++ (body ++ item)) u (pre.length + size * n) = f (pre ++ item) u pre.length :=
    hf _ _ _ _ fun k _ => by
      unfold byteAt
      rw [← List.append_assoc, List.getD_append_right _ _ _ _ (by rw [hfirst]; omega),
        List.getD_append_right _ _ _ _ (by omega), hfirst]
      congr 2
      omega
  intro first last
  have hone : last = f (pre ++ item) first.1 pre.length := by
    show takeItemsInOrder _ (itemOffsets pre.length size (pre ++ item).length) _ = _
    rw [hlast, itemOffsets_succ _ hsize, Nat.mul_zero, Nat.add_zero]
    have hnone : itemOffsets pre.length size pre.length = [] := by simp [itemOffsets]
    rw [hnone, List.nil_append, takeItemsInOrder_cons]
    exact Prod.ext rfl (List.append_nil _)
  rw [hwhole, itemOffsets_succ _ hsize, takeItemsInOrder_append, takeItemsInOrder_congr hbefore, takeItemsInOrder_cons,
    hafter, hone]
  show (_, _ ++ (_ ++ [])) = _
  rw [List.append_nil, ← hfirst]
  rfl

end Sys2Proof.Machine
end

section
/-! The statement on requests of several items (O19). -/

namespace Sys2Proof.Machine

/-! ### The items of each request -/

/-- R41: one item of a CONDITIONS body. -/
def conditionTaken (body : List Byte) (s : Part) (i : Nat) : Part × List Byte :=
  ((s.conditionItem (field16 body i) (byteAt body (i + 2))).1, [(s.conditionItem (field16 body i) (byteAt body (i + 2))).2.byte])

/-- R55: one item of an ACK body at desk `d`. -/
def ackTaken (d : Nat) (body : List Byte) (s : Part) (i : Nat) : Part × List Byte :=
  if isDesk d then s.ackItem d (field16 body i) (word16 body (i + 2)) else (s, ResultCode.badField.byte :: be16 0)

/-- R186: one item of a CONFIG_POINTS body. -/
def configPointTaken (body : List Byte) (s : Part) (i : Nat) : Part × List Byte := s.configPoint body i

theorem conditionsHandler_eq (body : List Byte) (s : Part) :
    conditionsHandler body s =
      ((takeItemsInOrder (conditionTaken body) (itemOffsets 0 3 body.length) s).1,
        0 :: (takeItemsInOrder (conditionTaken body) (itemOffsets 0 3 body.length) s).2) := rfl

theorem ackHandler_eq (body : List Byte) (s : Part) :
    ackHandler body s =
      ((takeItemsInOrder (ackTaken (byteAt body 0) body) (itemOffsets 1 4 body.length) s).1,
        0 :: (takeItemsInOrder (ackTaken (byteAt body 0) body) (itemOffsets 1 4 body.length) s).2) := rfl

theorem configPointsHandler_eq (body : List Byte) (s : Part) :
    configPointsHandler body s =
      ((takeItemsInOrder (configPointTaken body) (itemOffsets 0 8 body.length) s).1,
        0 :: (takeItemsInOrder (configPointTaken body) (itemOffsets 0 8 body.length) s).2) := rfl

section
variable {b c : List Byte} {i j size : Nat}

theorem field16_of_same (h : ∀ k < size, byteAt b (i + k) = byteAt c (j + k)) (k : Nat) (hk : k + 1 < size) :
    field16 b (i + k) = field16 c (j + k) := by
  have h1 := h k (by omega)
  have h2 := h (k + 1) hk
  rw [← Nat.add_assoc, ← Nat.add_assoc] at h2
  unfold field16
  rw [h1, h2]

end

theorem conditionTaken_itemwise : Itemwise 3 conditionTaken := fun b c i j h s => by
  unfold conditionTaken
  rw [show field16 b i = field16 c j from field16_of_same h 0 (by decide), h 2 (by decide)]

theorem ackTaken_itemwise (d : Nat) : Itemwise 4 (ackTaken d) := fun b c i j h s => by
  have hfield := field16_of_same h 2 (by decide)
  unfold ackTaken word16
  rw [show field16 b i = field16 c j from field16_of_same h 0 (by decide), hfield]

theorem configPointTaken_itemwise : Itemwise 8 configPointTaken := fun b c i j h s => by
  have hpoint : field16 b i = field16 c j := field16_of_same h 0 (by decide)
  have hlimit := field16_of_same h 6 (by decide)
  unfold configPointTaken Part.configPoint pointOk pointOf
  rw [hpoint, hlimit, h 2 (by decide), h 3 (by decide), h 4 (by decide), h 5 (by decide)]

theorem ResultCode.byte_ne_zero {r : ResultCode} (h : r ≠ .ok) : r.byte ≠ 0 := by
  revert h
  cases r <;> decide

theorem assumeCheck_ne_ok {s : Part} {d a : Nat} {r : ResultCode} (h : s.assumeCheck d a = some r) : r ≠ .ok := by
  rw [Part.assumeCheck_eq] at h
  unfold ResultCode.failing at h
  split at h
  · cases h
  · next hne =>
    injection h with h
    exact h ▸ hne

theorem assumeItems_taken {s : Part} {d a : Nat} (h : s.assumeCheck d a = none) (l : List Nat) (first : Bool) :
    s.assumeItems d (a :: l) first =
      (((s.assumeArea d a first).assumeItems d l false).1, 0 :: ((s.assumeArea d a first).assumeItems d l false).2) := by
  conv_lhs => unfold Part.assumeItems
  rw [h]
  rfl

theorem assumeItems_refused {s : Part} {d a : Nat} {r : ResultCode} (h : s.assumeCheck d a = some r) (l : List Nat)
    (first : Bool) :
    s.assumeItems d (a :: l) first =
      (((s.refuse d a 0 0 r).assumeItems d l first).1, r.byte :: ((s.refuse d a 0 0 r).assumeItems d l first).2) := by
  conv_lhs => unfold Part.assumeItems
  rw [h]

/-- R32: an ASSUME takes its areas in order; the first success is that of the whole request. -/
theorem assumeItems_append (s : Part) (d : Nat) (l m : List Nat) (first : Bool) :
    s.assumeItems d (l ++ m) first =
      (((s.assumeItems d l first).1.assumeItems d m (first && (s.assumeItems d l first).2.all fun x => x != 0)).1,
        (s.assumeItems d l first).2
          ++ ((s.assumeItems d l first).1.assumeItems d m
            (first && (s.assumeItems d l first).2.all fun x => x != 0)).2) := by
  induction l generalizing s first with
  | nil =>
    have hnil : s.assumeItems d [] first = (s, []) := rfl
    rw [List.nil_append, hnil, List.all_nil, Bool.and_true]
    rfl
  | cons a l ih =>
    rw [List.cons_append]
    cases hcheck : s.assumeCheck d a with
    | none =>
      rw [assumeItems_taken hcheck, assumeItems_taken hcheck, ih, List.all_cons, Bool.false_and, bne_self_eq_false,
        Bool.false_and, Bool.and_false]
      rfl
    | some r =>
      have hbyte : (r.byte != 0) = true := bne_iff_ne.2 (ResultCode.byte_ne_zero (assumeCheck_ne_ok hcheck))
      rw [assumeItems_refused hcheck, assumeItems_refused hcheck, ih, List.all_cons, hbyte, Bool.true_and]
      rfl

/-! ### The taking of each request -/

theorem conditionsHandler_requeued (q : List Frame) (body : List Byte) (s : Part) :
    conditionsHandler body (s.requeued q) = ((conditionsHandler body s).1.requeued q, (conditionsHandler body s).2) := by
  rw [conditionsHandler_eq, conditionsHandler_eq, takeItemsInOrder_requeued q fun u i => by
    unfold conditionTaken
    rw [Part.conditionItem_requeued]]

theorem ackHandler_requeued (q : List Frame) (body : List Byte) (s : Part) :
    ackHandler body (s.requeued q) = ((ackHandler body s).1.requeued q, (ackHandler body s).2) := by
  rw [ackHandler_eq, ackHandler_eq, takeItemsInOrder_requeued q fun u i => by
    unfold ackTaken
    split
    · exact Part.ackItem_requeued ..
    · rfl]

theorem configPointsHandler_requeued (q : List Frame) (body : List Byte) (s : Part) :
    configPointsHandler body (s.requeued q) = ((configPointsHandler body s).1.requeued q, (configPointsHandler body s).2) := by
  rw [configPointsHandler_eq, configPointsHandler_eq,
    takeItemsInOrder_requeued q fun u i => Part.configPoint_requeued q u body i]

/-- R172: a request whose block does not read the input queue makes of the part what its block makes of it. -/
theorem completes_requeued {c : Instr} {k : ReqKind} {f : Handler} {s : Part} {tag : Byte} {body : List Byte}
    (hexec : ∀ u, exec c u = onRequest k f u) (h : s.Takes k tag body)
    (hf : ∀ q, f body (s.requeued q) = ((f body s).1.requeued q, (f body s).2)) (hlif : (f body s).1.lif = s.lif) :
    ∃ t : Part, Completes c s t ∧ t = { (f body s).1 with lif := t.lif } ∧ t.lif = s.answer k tag (f body s).2 := by
  refine ⟨{ (f body s).1 with lif := s.answer k tag (f body s).2 },
    completes_answered (u := (f body s).1.requeued s.lif.inputQueue.tail) hexec h ?_ ?_, rfl, rfl⟩
  · rw [Part.taken_requeued]
    exact hf _
  · show ({ (f body s).1.lif with inputQueue := _ } : Lif) = _
    rw [hlif]
    rfl

theorem configPointsHandler_lif (body : List Byte) (s : Part) : (configPointsHandler body s).1.lif = s.lif := by
  rw [configPointsHandler_eq]
  show (takeItemsInOrder _ _ s).1.lif = s.lif
  generalize itemOffsets 0 8 body.length = l
  induction l generalizing s with
  | nil => rfl
  | cons i l ih =>
    rw [takeItemsInOrder_cons]
    refine (ih _).trans ?_
    unfold configPointTaken Part.configPoint Part.stage
    split <;> rfl

/-- An ACK from a desk outside the part changes nothing. -/
theorem ackHandler_noDesk {body : List Byte} (h : isDesk (byteAt body 0) = false) (s : Part) :
    ackHandler body s =
      (s, 0 :: (List.replicate ((body.length - 1) / 4) [ResultCode.badField.byte, 0, 0]).flatten) := by
  have hitem : ∀ (u : Part) (i : Nat), ackTaken (byteAt body 0) body u i = (u, [ResultCode.badField.byte, 0, 0]) :=
    fun u i => by
      unfold ackTaken
      rw [h]
      rfl
  have hall : ∀ (l : List Nat) (u : Part), takeItemsInOrder (ackTaken (byteAt body 0) body) l u =
      (u, (List.replicate l.length [ResultCode.badField.byte, 0, 0]).flatten) := by
    intro l
    induction l with
    | nil => exact fun _ => rfl
    | cons i l ih =>
      intro u
      rw [takeItemsInOrder_cons, hitem, ih]
      rfl
  rw [ackHandler_eq, hall]
  simp only [itemOffsets, List.length_map, List.length_range]

theorem assumeHandler_noDesk {body : List Byte} (h : isDesk (byteAt body 0) = false) (s : Part) :
    assumeHandler body s = (s, 0 :: List.replicate (body.length - 1) ResultCode.badField.byte) := by
  unfold assumeHandler
  dsimp only
  rw [h]
  simp only [Bool.not_false, if_true, List.map_const', byteList, List.length_map, List.length_drop]
  rfl

theorem assumeHandler_vacant {body : List Byte} {s : Part} (h : isDesk (byteAt body 0) = true)
    (hout : (s.desk (byteAt body 0)).signedOn = 0) :
    assumeHandler body s = (s, 0 :: List.replicate (body.length - 1) ResultCode.notSignedOn.byte) := by
  unfold assumeHandler
  dsimp only
  rw [h]
  simp only [Bool.not_true, Bool.false_eq_true, if_false, hout, if_true, List.map_const', byteList, List.length_map,
    List.length_drop]
  rfl

theorem assumeHandler_seated {body : List Byte} {s : Part} (h : isDesk (byteAt body 0) = true)
    (hon : (s.desk (byteAt body 0)).signedOn ≠ 0) :
    assumeHandler body s = ((s.assumeItems (byteAt body 0) (byteList body 1) true).1,
      0 :: (s.assumeItems (byteAt body 0) (byteList body 1) true).2) := by
  unfold assumeHandler
  dsimp only
  rw [h]
  simp only [Bool.not_true, Bool.false_eq_true, if_false, hon]
  rfl

theorem conditionItem_badField {s : Part} {p c : Nat} (h : isPoint p = false ∨ 1 < c) :
    s.conditionItem p c = (s, .badField) := by
  have hbad : (!isPoint p || decide (1 < c)) = true := by
    rcases h with h | h
    · rw [h]; rfl
    · rw [decide_eq_true h, Bool.or_true]
  unfold Part.conditionItem
  rw [if_pos hbad]

theorem conditionItem_badPoint {s : Part} {p c : Nat} (hp : isPoint p = true) (hc : c ≤ 1)
    (h : (s.pointS p).configured = false) : s.conditionItem p c = (s, .badPoint) := by
  have hgood : ¬(!isPoint p || decide (1 < c)) = true := by
    rw [hp, decide_eq_false (by omega)]
    decide
  unfold Part.conditionItem
  rw [if_neg hgood, h, if_pos (by rfl)]

/-- Settles O19: the items by `takeItemsInOrder_itemwise`, the requests by `completes_requeued`. -/
theorem itemsAreTakenInOrder : Obligations.ItemsAreTakenInOrder := by
  refine ⟨fun s body item hbody hitem => ?_, fun s d body item hbody hitem => ?_, fun s d l m first => assumeItems_append ..,
    fun s body item hbody hitem => ?_, fun s tag body h => ?_, fun s tag body h => ⟨?_, fun hdesk => ?_⟩,
    fun s tag body h => ⟨fun hdesk => ?_, fun hdesk hout => ?_, fun hdesk hon => ?_⟩, fun s tag body h => ?_,
    fun s tag body h hlen => ⟨fun hbad => ?_, fun hpoint hcond hconf => ?_⟩⟩
  · have hitems := takeItemsInOrder_itemwise conditionTaken_itemwise (by decide) [] hbody hitem s
    obtain ⟨hpart, hreply⟩ := Prod.ext_iff.1 hitems
    exact Prod.ext hpart (congrArg (0 :: ·) hreply)
  · have hitems := takeItemsInOrder_itemwise (ackTaken_itemwise d.toNat) (by decide) [d] hbody hitem s
    obtain ⟨hpart, hreply⟩ := Prod.ext_iff.1 hitems
    exact Prod.ext hpart (congrArg (0 :: ·) hreply)
  · have hitems := takeItemsInOrder_itemwise configPointTaken_itemwise (by decide) [] hbody hitem s
    obtain ⟨hpart, hreply⟩ := Prod.ext_iff.1 hitems
    exact Prod.ext hpart (congrArg (0 :: ·) hreply)
  · exact completes_requeued (f := conditionsHandler) (fun _ => rfl) h (fun q => conditionsHandler_requeued q body s)
      (event_conditions (auth := true) body s).lif
  · exact completes_requeued exec_ack h (fun q => ackHandler_requeued q body s) (event_ack (auth := true) body s).lif
  · exact completes_unchanged exec_ack h (ackHandler_noDesk hdesk s.taken)
  · exact completes_unchanged exec_assume h (assumeHandler_noDesk hdesk s.taken)
  · exact completes_unchanged exec_assume h (assumeHandler_vacant (s := s.taken) hdesk hout)
  · have hseated := assumeHandler_seated (s := s) hdesk hon
    have hdone := completes_requeued exec_assume h (fun q => by
      rw [hseated, assumeHandler_seated (s := s.requeued q) hdesk hon, Part.assumeItems_requeued])
      (event_assume (auth := true) body s).lif
    rw [hseated] at hdone
    exact hdone
  · exact completes_requeued (f := configPointsHandler) (fun _ => rfl) h (fun q => configPointsHandler_requeued q body s)
      (configPointsHandler_lif body s)
  · refine completes_unchanged (f := conditionsHandler) (fun _ => rfl) h ?_
    rw [conditionsHandler_one hlen, conditionItem_badField hbad]
  · refine completes_unchanged (f := conditionsHandler) (fun _ => rfl) h ?_
    rw [conditionsHandler_one hlen, conditionItem_badPoint (s := s.taken) hpoint hcond hconf]

end Sys2Proof.Machine
end

section
/-! The counts of an area point by point: the five state counts against the numbers of points in each state, and the deferred
count against the deferred queues (R9). -/

namespace Sys2Proof.Machine

/-! ### A count taken over all points but one -/

/-- One element of a list without duplicates counts by itself. -/
theorem countP_apart {l : List Nat} (hl : l.Nodup) {p : Nat} (hp : p ∈ l) (f : Nat → Bool) :
    l.countP f = (l.countP fun q => q != p && f q) + if f p = true then 1 else 0 := by
  induction l with
  | nil => cases hp
  | cons x l ih =>
    obtain ⟨hx, hnd⟩ := List.nodup_cons.1 hl
    rw [List.countP_cons, List.countP_cons]
    by_cases hxp : x = p
    · subst hxp
      have hsame : l.countP f = l.countP fun q => q != x && f q :=
        List.countP_congr fun q hq => by
          have hne : q ≠ x := fun h => hx (h ▸ hq)
          simp [hne]
      simp [hsame]
    · have hmem : p ∈ l := (List.mem_cons.1 hp).resolve_left fun h => hxp h.symm
      rw [ih hnd hmem]
      have hne : (x != p) = true := by simpa using hxp
      simp only [hne, Bool.true_and]
      omega

/-! ### The state counts (R9) -/

/-- Point `q` is configured in area `a`. -/
def Part.mine (s : Part) (a q : Nat) : Bool := (s.pointS q).configured && (s.pointS q).area == a

/-- The number of points of area `a` in state `st`. -/
def Part.held (s : Part) (a : Nat) (st : PointState) : Nat :=
  (numbers 1024).countP fun q => s.mine a q && (s.point q).state == st

/-- The number of points of area `a` other than `p` in state `st`. -/
def Part.heldBut (s : Part) (p a : Nat) (st : PointState) : Nat :=
  (numbers 1024).countP fun q => q != p && (s.mine a q && (s.point q).state == st)

/-- The counts apart from the deferred one are the numbers that `h` says of each state. -/
structure Counts.Tally (c : Counts) (h : PointState → Nat) : Prop where
  unack : c.unack = h .unack + h .rtnUnack
  acked : c.acked = h .acked
  shelved : c.shelved = h .shelved
  removed : c.removed = h .removed
  suppressed : c.suppressed = h .suppressed

/-- The state counts of every area are the numbers of its points in each state. -/
def Part.Tallied (s : Part) : Prop := ∀ a ∈ numbers 16, (s.area a).counts.Tally (s.held a)

/-- One point in state `st` more than `h` says. -/
def oneMore (h : PointState → Nat) (st x : PointState) : Nat := h x + if x = st then 1 else 0

theorem Counts.Tally.dec {c : Counts} {h : PointState → Nat} {st : PointState} (hc : c.Tally (oneMore h st)) :
    (c.dec st).Tally h := by
  obtain ⟨h1, h2, h3, h4, h5⟩ := hc
  cases st <;> simp [oneMore] at h1 h2 h3 h4 h5 <;>
    exact ⟨by simp [Counts.dec]; omega, by simp [Counts.dec, *], by simp [Counts.dec, *], by simp [Counts.dec, *],
      by simp [Counts.dec, *]⟩

theorem Counts.Tally.inc {c : Counts} {h : PointState → Nat} (hc : c.Tally h) (st : PointState) :
    (c.inc st).Tally (oneMore h st) := by
  obtain ⟨h1, h2, h3, h4, h5⟩ := hc
  cases st <;>
    exact ⟨by simp [Counts.inc, oneMore]; omega, by simp [Counts.inc, oneMore, *], by simp [Counts.inc, oneMore, *],
      by simp [Counts.inc, oneMore, *], by simp [Counts.inc, oneMore, *]⟩

/-- The tally does not read the deferred count. -/
theorem Counts.Tally.defer {c : Counts} {h : PointState → Nat} (hc : c.Tally h) (n : Nat) :
    ({ c with deferred := n } : Counts).Tally h := ⟨hc.unack, hc.acked, hc.shelved, hc.removed, hc.suppressed⟩

/-- The numbers of an area's points are those of the others and one for the state of `p`. -/
theorem Part.held_mine {s : Part} {p : Nat} (hp : p ∈ numbers 1024) {a : Nat} (hmine : s.mine a p = true) :
    s.held a = oneMore (s.heldBut p a) (s.point p).state := by
  funext st
  unfold Part.held Part.heldBut oneMore
  rw [countP_apart (numbers_nodup 1024) hp]
  simp only [hmine, Bool.true_and, beq_iff_eq, @eq_comm _ st]

/-- The numbers of an area's points do not speak of a point of another area. -/
theorem Part.held_other {s : Part} {p : Nat} (hp : p ∈ numbers 1024) {a : Nat} (hmine : s.mine a p = false) :
    s.held a = s.heldBut p a := by
  funext st
  unfold Part.held Part.heldBut
  rw [countP_apart (numbers_nodup 1024) hp]
  simp [hmine]

theorem Part.mine_congr {s t : Part} (hpointS : ∀ q, t.pointS q = s.pointS q) (a q : Nat) : t.mine a q = s.mine a q := by
  unfold Part.mine
  rw [hpointS]

/-- The other points are counted alike before and after a change of `p`. -/
theorem Part.heldBut_congr {s t : Part} (hpointS : ∀ q, t.pointS q = s.pointS q) {p : Nat}
    (hstate : ∀ q ∈ numbers 1024, q ≠ p → (t.point q).state = (s.point q).state) (a : Nat) :
    t.heldBut p a = s.heldBut p a := by
  funext st
  refine List.countP_congr fun q hq => ?_
  by_cases hqp : q = p
  · simp [hqp]
  · rw [Part.mine_congr hpointS, hstate q hq hqp]

theorem Part.held_congr {s t : Part} (hpointS : ∀ q, t.pointS q = s.pointS q)
    (hstate : ∀ q ∈ numbers 1024, (t.point q).state = (s.point q).state) (a : Nat) : t.held a = s.held a := by
  funext st
  refine List.countP_congr fun q hq => ?_
  rw [Part.mine_congr hpointS, hstate q hq]

/-- Points whose states stand are counted as before, whatever becomes of the deferred counts. -/
theorem Part.Tallied.congr {s t : Part} (hs : s.Tallied) (hpointS : ∀ q, t.pointS q = s.pointS q)
    (hstate : ∀ q ∈ numbers 1024, (t.point q).state = (s.point q).state)
    (hcounts : ∀ a ∈ numbers 16, (t.area a).counts = { (s.area a).counts with deferred := (t.area a).counts.deferred }) :
    t.Tallied := fun a ha => by
  rw [hcounts a ha, Part.held_congr hpointS hstate]
  exact (hs a ha).defer _

/-- R2, R9: a point's change of state moves its area's counts with it. -/
theorem Part.Tallied.changeState {s : Part} (hs : s.Tallied) {p : Nat} (hp : s.InPlant p) (st : PointState) :
    (s.changeState p st).Tallied := fun a ha => by
  have hpm := hp.point_mem
  have hpoint : ∀ q ∈ numbers 1024, q ≠ p → ((s.changeState p st).point q).state = (s.point q).state := fun q hq hqp => by
    rw [changeState_point_of s p st hq, if_neg hqp]
  have hmine : s.mine a p = decide (a = (s.pointS p).area) := by
    unfold Part.mine
    obtain ⟨_, hconf, _⟩ := hp
    rw [hconf, Bool.true_and, Bool.beq_eq_decide_eq]
    exact decide_eq_decide.2 eq_comm
  have hbut := Part.heldBut_congr (s := s) (t := s.changeState p st) (fun _ => rfl) hpoint a
  have hsame : (s.changeState p st).mine a p = s.mine a p := rfl
  rw [changeState_area_of s p st ha]
  split
  · next h =>
    rw [decide_eq_true h] at hmine
    have hnew : ((s.changeState p st).point p).state = st := by rw [changeState_point_of s p st hpm, if_pos rfl]
    rw [Part.held_mine hpm (hsame.trans hmine), hbut, hnew]
    have hold := hs a ha
    rw [Part.held_mine hpm hmine] at hold
    exact hold.dec.inc st
  · next h =>
    rw [decide_eq_false h] at hmine
    rw [Part.held_other hpm (hsame.trans hmine), hbut, ← Part.held_other hpm hmine]
    exact hs a ha

/-! ### The deferred count (R9) -/

/-- The deferred points of an area are those in its deferred queues. -/
theorem Part.BoardOk.deferred_count {s : Part} (hs : s.BoardOk) {a : Nat} (ha : a ∈ numbers 16) :
    ((numbers 1024).countP fun q => s.mine a q && (s.point q).placement == .deferred) = (s.area a).deferredTotal := by
  have hqueue := fun pr hpr => hs.defer a ha pr hpr
  have htotal : (s.area a).deferredTotal = ((numbers 4).flatMap fun pr => getAt (s.area a).defer pr).length :=
    (List.length_flatMap (l := numbers 4)).symm
  rw [htotal, List.countP_eq_length_filter]
  refine List.Perm.length_eq ((List.perm_ext_iff_of_nodup ((numbers_nodup 1024).filter _) ?_).2 fun q => ?_)
  · refine List.nodup_flatMap.2 ⟨fun pr hpr => (hqueue pr hpr).1, (numbers_nodup 4).pairwise_of_forall_ne ?_⟩
    intro j hj k hk hjk q hqj hqk
    have hat := (((hqueue j hj).2 q).1 hqj).1
    have hat' := (((hqueue k hk).2 q).1 hqk).1
    exact hjk (hat.priority.symm.trans hat'.priority)
  · simp only [List.mem_filter, List.mem_flatMap, Part.mine, Bool.and_eq_true, beq_iff_eq]
    constructor
    · rintro ⟨hq, ⟨_, harea⟩, hdef⟩
      have hin := hs.placed q hq (by rw [hdef]; decide)
      exact ⟨(s.pointS q).priority, hin.priority_mem, ((hqueue _ hin.priority_mem).2 q).2 ⟨⟨hq, harea, rfl⟩, hdef⟩⟩
    · rintro ⟨pr, hpr, hq⟩
      obtain ⟨hat, hdef⟩ := ((hqueue pr hpr).2 q).1 hq
      exact ⟨hat.point, ⟨(hs.placed q hat.point (by rw [hdef]; decide)).2.1, hat.area⟩, hdef⟩

/-- R9: the six counts agree when the state counts are tallied and the deferred counts are those of the queues. -/
theorem Part.BoardOk.countsAgree_iff {s : Part} (hs : s.BoardOk) : s.CountsAgree ↔ s.Tallied ∧ s.DeferOk := by
  have heldEq : ∀ a st, (((numbers 1024).filter fun p => (s.pointS p).configured && (s.pointS p).area == a).filter
      fun p => (s.point p).state == st).length = s.held a st := fun a st => by
    rw [List.filter_filter, Part.held, List.countP_eq_length_filter]
    exact congrArg (fun f => (List.filter f (numbers 1024)).length) (funext fun _ => Bool.and_comm ..)
  have hdefEq : ∀ a ∈ numbers 16, (((numbers 1024).filter fun p => (s.pointS p).configured && (s.pointS p).area == a).filter
      fun p => (s.point p).placement == .deferred).length = (s.area a).deferredTotal := fun a ha => by
    rw [← hs.deferred_count ha, List.filter_filter, List.countP_eq_length_filter]
    exact congrArg (fun f => (List.filter f (numbers 1024)).length) (funext fun _ => Bool.and_comm ..)
  unfold Part.CountsAgree
  dsimp only
  constructor
  · intro h
    refine ⟨fun a ha => ?_, fun a ha => ?_⟩
    · rw [h a ha]
      exact ⟨by simp only [heldEq], heldEq .., heldEq .., heldEq .., heldEq ..⟩
    · rw [h a ha]
      exact hdefEq a ha
  · rintro ⟨htally, hdefer⟩ a ha
    obtain ⟨h1, h2, h3, h4, h5⟩ := htally a ha
    have h6 := hdefer a ha
    simp only [heldEq, hdefEq a ha, ← h1, ← h2, ← h3, ← h4, ← h5, ← h6]

end Sys2Proof.Machine
end

section
/-! What keeps every point in its place and the counts in agreement: changes that the two invariants do not see, changes of one
point, and rearrangements of the board. -/

namespace Sys2Proof.Machine

/-! ### The relation to carry through a command -/

/-- From `s` to `t` the points stay in place, and then the counts stay in agreement. -/
structure Part.Keeps (s t : Part) : Prop where
  places : s.PointsInPlace → t.PointsInPlace
  counts : s.PointsInPlace → s.CountsAgree → t.CountsAgree

namespace Part.Keeps

variable {s t u : Part}

theorem refl (s : Part) : s.Keeps s := ⟨id, fun _ => id⟩

theorem trans (h : s.Keeps t) (k : t.Keeps u) : s.Keeps u :=
  ⟨fun hs => k.places (h.places hs), fun hs hc => k.counts (h.places hs) (h.counts hs hc)⟩

/-- That the points of the part before are in place may be assumed. -/
theorem assuming (h : s.PointsInPlace → s.Keeps t) : s.Keeps t :=
  ⟨fun hs => (h hs).places hs, fun hs => (h hs).counts hs⟩

theorem foldl {α : Type} (f : Part → α → Part) (l : List α) (hf : ∀ (u : Part), ∀ x ∈ l, u.Keeps (f u x)) (s : Part) :
    s.Keeps (l.foldl f s) := by
  induction l generalizing s with
  | nil => exact .refl s
  | cons x l ih => exact (hf s x (List.mem_cons_self ..)).trans (ih (fun u y hy => hf u y (List.mem_cons_of_mem x hy)) _)

end Part.Keeps

/-! ### Changes that the invariants do not see -/

/-- What the invariants read of a point. -/
def Point.sight (x : Point) : PointState × Placement × Option Nat := (x.state, x.placement, x.shelfSlot)

/-- What the invariants read of an area. -/
def Area.sight (x : Area) : Vector (List Nat) 4 × Vector (List Nat) 4 × Counts := (x.pend, x.defer, x.counts)

/-- What the invariants read of a desk: of a slot, the point it shows. -/
def Desk.sight (x : Desk) : (Nat → Option Nat) × List Nat × List Nat :=
  (fun k => (getAt x.slots k).map (·.point), x.order, x.rotation)

/-- Everything that the invariants of places and counts read is the same in `s` and `t`. -/
structure Part.Still (s t : Part) : Prop where
  pointS : ∀ p, t.pointS p = s.pointS p
  point : ∀ p, (t.point p).sight = (s.point p).sight
  area : ∀ a, (t.area a).sight = (s.area a).sight
  desk : ∀ d, (t.desk d).sight = (s.desk d).sight
  shelf : ∀ k, (getAt t.shelf k).map (·.point) = (getAt s.shelf k).map (·.point)

namespace Part.Still

variable {s t u : Part}

theorem refl (s : Part) : s.Still s := ⟨fun _ => rfl, fun _ => rfl, fun _ => rfl, fun _ => rfl, fun _ => rfl⟩

theorem trans (h : s.Still t) (k : t.Still u) : s.Still u :=
  ⟨fun p => (k.pointS p).trans (h.pointS p), fun p => (k.point p).trans (h.point p),
    fun a => (k.area a).trans (h.area a), fun d => (k.desk d).trans (h.desk d), fun j => (k.shelf j).trans (h.shelf j)⟩

/-- A change of other components. -/
theorem rest (hlive : t.live.points = s.live.points) (hpoints : t.points = s.points) (hareas : t.areas = s.areas)
    (hdesks : t.desks = s.desks) (hshelf : t.shelf = s.shelf) : s.Still t where
  pointS p := congrArg (getAt · p) hlive
  point p := congrArg (fun v => (getAt v p).sight) hpoints
  area a := congrArg (fun v => (getAt v a).sight) hareas
  desk d := congrArg (fun v => (getAt v d).sight) hdesks
  shelf k := congrArg (fun v : Vector (Option ShelfUse) 96 => (getAt v k).map (·.point)) hshelf

theorem modPoint (s : Part) (p : Nat) (f : Point → Point) (hf : ∀ x, (f x).sight = x.sight) : s.Still (s.modPoint p f) where
  pointS _ := rfl
  point q := by
    rw [Part.modPoint_point]
    split
    exacts [hf _, rfl]
  area _ := rfl
  desk _ := rfl
  shelf _ := rfl

theorem modArea (s : Part) (a : Nat) (f : Area → Area) (hf : ∀ x, (f x).sight = x.sight) : s.Still (s.modArea a f) where
  pointS _ := rfl
  point _ := rfl
  area b := by
    rw [Part.modArea_area]
    split
    exacts [hf _, rfl]
  desk _ := rfl
  shelf _ := rfl

theorem modDesk (s : Part) (d : Nat) (f : Desk → Desk) (hf : ∀ x, (f x).sight = x.sight) : s.Still (s.modDesk d f) where
  pointS _ := rfl
  point _ := rfl
  area _ := rfl
  desk e := by
    rw [Part.modDesk_desk]
    split
    exacts [hf _, rfl]
  shelf _ := rfl

theorem foldl {α : Type} (f : Part → α → Part) (hf : ∀ (u : Part) x, u.Still (f u x)) (l : List α) (s : Part) :
    s.Still (l.foldl f s) := by
  induction l generalizing s with
  | nil => exact .refl s
  | cons x l ih => exact (hf s x).trans (ih _)

theorem boardOk (h : s.Still t) (hs : s.BoardOk) : t.BoardOk := by
  have hpl : ∀ q, (t.point q).placement = (s.point q).placement := fun q => congrArg (fun v => v.2.1) (h.point q)
  have hpend : ∀ a, (t.area a).pend = (s.area a).pend := fun a => congrArg (fun v => v.1) (h.area a)
  have hdefer : ∀ a, (t.area a).defer = (s.area a).defer := fun a => congrArg (fun v => v.2.1) (h.area a)
  have hslot : ∀ d k, (getAt (t.desk d).slots k).map (·.point) = (getAt (s.desk d).slots k).map (·.point) := fun d k =>
    congrFun (congrArg (fun v => v.1) (h.desk d)) k
  have horder : ∀ d, (t.desk d).order = (s.desk d).order := fun d => congrArg (fun v => v.2.1) (h.desk d)
  have hrotation : ∀ d, (t.desk d).rotation = (s.desk d).rotation := fun d => congrArg (fun v => v.2.2) (h.desk d)
  have hat : ∀ {p a pr : Nat}, t.At p a pr ↔ s.At p a pr := fun {p a pr} =>
    ⟨fun ⟨h1, h2, h3⟩ => ⟨h1, h.pointS p ▸ h2, h.pointS p ▸ h3⟩,
      fun ⟨h1, h2, h3⟩ => ⟨h1, (h.pointS p).symm ▸ h2, (h.pointS p).symm ▸ h3⟩⟩
  refine ⟨fun q hq hne => ?_, fun q hq => ?_, fun a ha pr hpr => ?_, fun a ha pr hpr => ?_, fun d hd k hk x hx => ?_,
    fun q hq d k hshown => ?_, fun d hd => ?_, fun d hd => ?_⟩
  · unfold Part.InPlant
    rw [h.pointS]
    exact hs.placed q hq (hpl q ▸ hne)
  · rw [hpl q]
    exact hs.inRange q hq
  · simp only [hpend, hat, hpl]
    exact hs.pend a ha pr hpr
  · simp only [hdefer, hat, hpl]
    exact hs.defer a ha pr hpr
  · have hmap := hslot d k
    rw [show getAt (t.desk d).slots k = some x from hx] at hmap
    obtain ⟨y, hy, hyx⟩ := Option.map_eq_some_iff.1 hmap.symm
    rw [hpl, show x.point = y.point from hyx.symm]
    exact hs.slot d hd k hk y hy
  · obtain ⟨y, hy, hyq⟩ := hs.shown q hq d k (hpl q ▸ hshown)
    have hmap := hslot d k
    rw [show getAt (s.desk d).slots k = some y from hy] at hmap
    obtain ⟨x, hx, hxy⟩ := Option.map_eq_some_iff.1 hmap
    exact ⟨x, hx, hxy.trans hyq⟩
  · have hnone : ∀ k, getAt (t.desk d).slots k = none ↔ getAt (s.desk d).slots k = none := fun k => by
      rw [← Option.map_eq_none_iff (f := (·.point)), hslot, Option.map_eq_none_iff]
    simp only [horder, ne_eq, hnone]
    exact hs.order d hd
  · rw [hrotation]
    exact hs.rotation d hd

theorem state (h : s.Still t) (q : Nat) : (t.point q).state = (s.point q).state := congrArg (fun v => v.1) (h.point q)

theorem placement (h : s.Still t) (q : Nat) : (t.point q).placement = (s.point q).placement :=
  congrArg (fun v => v.2.1) (h.point q)

theorem shelfSlot (h : s.Still t) (q : Nat) : (t.point q).shelfSlot = (s.point q).shelfSlot :=
  congrArg (fun v => v.2.2) (h.point q)

theorem counts (h : s.Still t) (a : Nat) : (t.area a).counts = (s.area a).counts := congrArg (fun v => v.2.2) (h.area a)

theorem deferOk (h : s.Still t) (hs : s.DeferOk) : t.DeferOk := fun a ha => by
  have hdefer : (t.area a).defer = (s.area a).defer := congrArg (fun v => v.2.1) (h.area a)
  rw [h.counts, hs a ha, Area.deferredTotal_eq, Area.deferredTotal_eq, hdefer]

theorem tallied (h : s.Still t) (hs : s.Tallied) : t.Tallied :=
  hs.congr h.pointS (fun q _ => h.state q) fun a _ => by rw [h.counts]

end Part.Still

/-! ### The shelf -/

theorem Part.ShelfOk.congr {s t : Part} (hs : s.ShelfOk)
    (hslot : ∀ q ∈ numbers 1024, (t.point q).shelfSlot = (s.point q).shelfSlot)
    (hshelf : ∀ k, (getAt t.shelf k).map (·.point) = (getAt s.shelf k).map (·.point)) : t.ShelfOk := by
  refine ⟨fun p hp k hk => ?_, fun k hk x hx => ?_⟩
  · rw [hslot p hp] at hk
    obtain ⟨hkm, y, hy, hyp⟩ := hs.named p hp k hk
    have hmap := hshelf k
    rw [show getAt s.shelf k = some y from hy] at hmap
    obtain ⟨x, hx, hxy⟩ := Option.map_eq_some_iff.1 hmap
    exact ⟨hkm, x, hx, hxy.trans hyp⟩
  · have hmap := hshelf k
    rw [show getAt t.shelf k = some x from hx] at hmap
    obtain ⟨y, hy, hyx⟩ := Option.map_eq_some_iff.1 hmap.symm
    obtain ⟨h1, h2⟩ := hs.held k hk y hy
    rw [show x.point = y.point from hyx.symm, hslot _ h1]
    exact ⟨h1, h2⟩

/-! ### Changes that touch one point -/

/-- The state of point `p` goes with its configuration, its placement and its shelf slot. -/
def Part.Fits (s : Part) (p : Nat) : Prop :=
  ((s.pointS p).configured = false → (s.point p).state = .normal)
  ∧ ((s.point p).placement = .none ↔ (s.point p).state.unacked = false)
  ∧ ((s.point p).shelfSlot = none ↔ (s.point p).state ≠ .shelved)

theorem Part.statesOk_iff (s : Part) : s.StatesOk ↔ ∀ p ∈ numbers 1024, s.Fits p := Iff.rfl

theorem Part.Fits.congr {s t : Part} {p : Nat} (hs : s.Fits p) (hpointS : t.pointS p = s.pointS p)
    (hstate : (t.point p).state = (s.point p).state)
    (hheld : (t.point p).placement = .none ↔ (s.point p).placement = .none)
    (hslot : (t.point p).shelfSlot = (s.point p).shelfSlot) : t.Fits p := by
  unfold Part.Fits
  rw [hpointS, hstate, hheld, hslot]
  exact hs

/-- From `s` to `t` the board and the counts stay in order, and of every point but `p` the state, the shelf slot and whether it is
placed stand. -/
structure Part.Touches (s : Part) (p : Nat) (t : Part) : Prop where
  pointS : ∀ q, t.pointS q = s.pointS q
  board : s.BoardOk → t.BoardOk
  defer : s.BoardOk → s.DeferOk → t.DeferOk
  tally : s.Tallied → t.Tallied
  state : ∀ q ∈ numbers 1024, q ≠ p → (t.point q).state = (s.point q).state
  held : ∀ q ∈ numbers 1024, q ≠ p → ((t.point q).placement = .none ↔ (s.point q).placement = .none)
  shelfSlot : ∀ q ∈ numbers 1024, q ≠ p → (t.point q).shelfSlot = (s.point q).shelfSlot

theorem Part.Touches.trans {p : Nat} {s t u : Part} (h : s.Touches p t) (k : t.Touches p u) : s.Touches p u where
  pointS q := (k.pointS q).trans (h.pointS q)
  board hs := k.board (h.board hs)
  defer hs hd := k.defer (h.board hs) (h.defer hs hd)
  tally hs := k.tally (h.tally hs)
  state q hq hqp := (k.state q hq hqp).trans (h.state q hq hqp)
  held q hq hqp := (k.held q hq hqp).trans (h.held q hq hqp)
  shelfSlot q hq hqp := (k.shelfSlot q hq hqp).trans (h.shelfSlot q hq hqp)

theorem Part.PlantOk.congr {s t : Part} (hs : s.PlantOk) (hpointS : ∀ q, t.pointS q = s.pointS q) : t.PlantOk :=
  fun q hq => by rw [hpointS]; exact hs q hq

end Sys2Proof.Machine
end

section
/-! The steps of one point's change, each under `Part.Touches`, and how such changes, changes the invariants do not see, and
rearrangements of the board make up `Part.Keeps`. -/

namespace Sys2Proof.Machine

variable {s t : Part} {p : Nat}

/-! ### The steps of one point's change -/

theorem Part.Still.touches (h : s.Still t) (p : Nat) : s.Touches p t where
  pointS := h.pointS
  board := h.boardOk
  defer _ := h.deferOk
  tally := h.tallied
  state q _ _ := h.state q
  held q _ _ := by rw [h.placement]
  shelfSlot q _ _ := h.shelfSlot q

/-- R4: a withdrawal touches its point alone. -/
theorem withdraw_touches (s : Part) (hp : p ∈ numbers 1024) : s.Touches p (s.withdraw p) where
  pointS q := withdraw_pointS s p q
  board hs := hs.withdraw hp
  defer hs hd := (withdraw_withdrew s p ((isPoint_iff p).2 hp)).deferOk hs hd hp
  tally hs := hs.congr (withdraw_pointS s p) (fun q _ => by rw [(withdraw_places s p).point])
    fun a _ => by rw [(withdraw_places s p).area]
  state q _ _ := by rw [(withdraw_places s p).point]
  held q hq hqp := by rw [(withdraw_withdrew s p ((isPoint_iff p).2 hp)).placement hq, if_neg hqp]
  shelfSlot q _ _ := by rw [(withdraw_places s p).point]

/-- R2: a change of state touches its point alone. -/
theorem changeState_touches (hp : s.InPlant p) (st : PointState) : s.Touches p (s.changeState p st) where
  pointS _ := rfl
  board hs := hs.congr (Part.Alike.changeState s p st).sameBoard fun _ => rfl
  defer _ hd := hd.congr (Part.Alike.changeState s p st).sameBoard
  tally hs := hs.changeState hp st
  state q hq hqp := by rw [changeState_point_of s p st hq, if_neg hqp]
  held q hq hqp := by rw [changeState_point_of s p st hq, if_neg hqp]
  shelfSlot q hq hqp := by rw [changeState_point_of s p st hq, if_neg hqp]

/-- A change of fields of a point other than its state and its placement. -/
theorem modPoint_touches (s : Part) (p : Nat) (f : Point → Point)
    (hf : ∀ x, (f x).state = x.state ∧ (f x).placement = x.placement) : s.Touches p (s.modPoint p f) := by
  have hother : ∀ q, q ≠ p → (s.modPoint p f).point q = s.point q := fun q hqp => by
    rw [Part.modPoint_point, if_neg fun h => hqp h.1.symm]
  have hkept : ∀ q, ((s.modPoint p f).point q).state = (s.point q).state
      ∧ ((s.modPoint p f).point q).placement = (s.point q).placement := fun q => by
    rw [Part.modPoint_point]
    split
    exacts [hf _, ⟨rfl, rfl⟩]
  have hboard : s.SameBoard (s.modPoint p f) :=
    ⟨fun q _ => (hkept q).2, fun _ _ => ⟨rfl, rfl, rfl⟩, fun _ _ => ⟨rfl, rfl, rfl⟩⟩
  exact ⟨fun _ => rfl, fun hs => hs.congr hboard fun _ => rfl, fun _ hd => hd.congr hboard,
    fun hs => hs.congr (fun _ => rfl) (fun q _ => (hkept q).1) fun _ _ => rfl, fun q _ _ => (hkept q).1,
    fun q _ _ => by rw [(hkept q).2], fun q _ hqp => by rw [hother q hqp]⟩

/-- Another shelf touches no point. -/
theorem shelf_touches (s : Part) (v : Vector (Option ShelfUse) 96) (p : Nat) : s.Touches p { s with shelf := v } :=
  ⟨fun _ => rfl,
    fun hs => hs.congr ⟨fun _ _ => rfl, fun _ _ => ⟨rfl, rfl, rfl⟩, fun _ _ => ⟨rfl, rfl, rfl⟩⟩ fun _ => rfl,
    fun _ hd => hd, fun hs => hs, fun _ _ _ => rfl, fun _ _ _ => Iff.rfl, fun _ _ _ => rfl⟩

/-- R51: placing a point that is nowhere touches it alone. -/
theorem place_touches (hp : s.InPlant p) (hfree : (s.point p).placement = .none) : s.Touches p (s.place p) := by
  have hpointS : ∀ q, (s.place p).pointS q = s.pointS q := fun q => by
    rw [Part.pointS, place_rest]
    rfl
  refine ⟨hpointS, fun hs => hs.place hp hfree, fun _ hd => place_deferOk hd hp,
    fun hs => hs.congr hpointS (fun q _ => by rw [(place_places s p).point])
      fun a _ => by rw [(place_places s p).area], ?_, ?_, ?_⟩ <;> intro q hq hqp
  · rw [(place_places s p).point]
  · rw [place_point s hp.point_mem, if_neg hqp]
  · rw [(place_places s p).point]

/-! ### From steps to invariants -/

/-- A change of one point keeps the invariants when the point fits again at its end and the shelf is in order. -/
theorem Part.Touches.keeps (h : s.Touches p t) (hshelf : s.ShelfOk → t.ShelfOk)
    (hfits : p ∈ numbers 1024 → s.Fits p → t.Fits p) : s.Keeps t := by
  have hplaces : s.PointsInPlace → t.PointsInPlace := fun hs => by
    obtain ⟨hplant, hstates, hboard, hs'⟩ := (Part.pointsInPlace_iff s).1 hs
    refine (Part.pointsInPlace_iff t).2 ⟨hplant.congr h.pointS, fun q hq => ?_, h.board hboard, hshelf hs'⟩
    by_cases hqp : q = p
    · subst hqp
      exact hfits hq (hstates q hq)
    · exact Part.Fits.congr (hstates q hq) (h.pointS q) (h.state q hq hqp) (h.held q hq hqp) (h.shelfSlot q hq hqp)
  refine ⟨hplaces, fun hs hc => ?_⟩
  obtain ⟨htally, hdefer⟩ := hs.boardOk.countsAgree_iff.1 hc
  exact (hplaces hs).boardOk.countsAgree_iff.2 ⟨h.tally htally, h.defer hs.boardOk hdefer⟩

/-- A change that the invariants do not see keeps them. -/
theorem Part.Still.keeps (h : s.Still t) : s.Keeps t :=
  (h.touches 0).keeps (fun hs => hs.congr (fun q _ => h.shelfSlot q) h.shelf)
    fun h0 => absurd ((mem_numbers 0).1 h0).1 (by decide)

/-- R4: a rearrangement of the board that only places points keeps the invariants. -/
theorem Part.Keeps.placed (hplaces : PlacesOnly s t) (h : s.BoardOk → s.Rearranged t) : s.Keeps t := by
  have hpointS : ∀ q, t.pointS q = s.pointS q := fun q => by
    rw [Part.pointS, hplaces.rest]
    rfl
  have hshelf : t.shelf = s.shelf := by rw [hplaces.rest]
  refine .assuming fun hs => ?_
  have hr := h hs.boardOk
  have htouches : s.Touches 0 t := by
    refine ⟨hpointS, fun _ => hr.boardOk, fun _ => hr.deferOk,
      fun hs => hs.congr hpointS (fun q _ => by rw [hplaces.point]) fun a _ => by rw [hplaces.area], ?_, ?_, ?_⟩ <;>
      intro q hq _
    · rw [hplaces.point]
    · exact hr.held q hq
    · rw [hplaces.point]
  exact htouches.keeps (fun hs => hs.congr (fun q _ => by rw [hplaces.point]) fun k => by rw [hshelf])
    fun h0 => absurd ((mem_numbers 0).1 h0).1 (by decide)

theorem Part.Keeps.moved (hmoves : MovesOnly s t) (h : s.BoardOk → s.Rearranged t) : s.Keeps t := .placed hmoves.places h

end Sys2Proof.Machine
end

section
/-! The moves of presentation, fills and flood control under `Part.Keeps`, and the steps of events that the invariants of places
and counts do not see. -/

namespace Sys2Proof.Machine

/-! ### Steps that the invariants do not see -/

namespace Part.Still

theorem write (s : Part) (sig : Bool) (f : RecordFields) : s.Still (s.write sig f) := .rest rfl rfl rfl rfl rfl

theorem modSession (s : Part) (n : Nat) (f : Session → Session) : s.Still (s.modSession n f) := .rest rfl rfl rfl rfl rfl

theorem modLif (s : Part) (f : Lif → Lif) : s.Still (s.modLif f) := .rest rfl rfl rfl rfl rfl

theorem queueReports (s : Part) (l : List ReportEntry) : s.Still (s.queueReports l) := by
  refine .rest ?_ ?_ ?_ ?_ ?_ <;> rw [Part.queueReports_rest]

theorem refreshHorns (s : Part) : s.Still s.refreshHorns where
  pointS p := by rw [Part.pointS, s.refreshHorns_rest]; rfl
  point p := by rw [Part.point, s.refreshHorns_rest]; rfl
  area a := by rw [Part.area, s.refreshHorns_rest]; rfl
  desk d := by
    by_cases h : 1 ≤ d ∧ d ≤ 6
    · rw [s.refreshHorns_desk d h.1 h.2]
      rfl
    · simp only [Part.desk, getAt_out _ _ h]
  shelf k := by rw [s.refreshHorns_rest]

theorem closeEvent (s : Part) (extra : List ReportEntry) (t : Part) : t.Still (closeEvent s extra t) :=
  (Part.Still.refreshHorns t).trans (.queueReports _ _)

theorem bump (s : Part) (a : Nat) : s.Still (s.bump a) := .modArea s a _ fun _ => rfl

theorem bumpIf (s : Part) (c : Bool) (a : Nat) : s.Still (if c then s.bump a else s) := by
  split
  exacts [.bump s a, .refl s]

theorem notify (s : Part) (a : Nat) : s.Still (s.notify a) := by
  unfold Part.notify
  split
  exacts [.refl s, .modSession s _ _]

theorem notifyIf (s : Part) (c : Bool) (a : Nat) : s.Still (if c then s.notify a else s) := by
  split
  exacts [.notify s a, .refl s]

theorem calmIfEmpty (s : Part) (a : Nat) (sig : Bool) : s.Still (s.calmIfEmpty a sig) := by
  unfold Part.calmIfEmpty
  split
  · refine Part.Still.trans ?_ (.write _ _ _)
    exact .modArea s a _ fun _ => rfl
  · exact .refl s

theorem calmNow (s : Part) (a : Nat) : s.Still (s.calmNow a) := by
  unfold Part.calmNow
  split
  exacts [.modArea s a _ fun _ => rfl, .refl s]

theorem setPresentation (s : Part) (new : Nat → PresMode × Nat) : s.Still (s.setPresentation new) := by
  unfold Part.setPresentation
  generalize numbers Config.nAreas = l
  exact .foldl (fun u a => u.modArea a fun x => { x with mode := (new a).1, pdesk := (new a).2 })
    (fun u a => .modArea u a _ fun _ => rfl) l s

theorem refuse (s : Part) (d a p pr : Nat) (r : ResultCode) : s.Still (s.refuse d a p pr r) := by
  unfold Part.refuse
  split
  exacts [(Part.Still.write s _ _).trans (.closeEvent _ _ _), .refl s]

theorem refreshSlot (s : Part) (d k : Nat) : s.Still (s.refreshSlot d k) := by
  refine .modDesk s d _ fun x => ?_
  have hslot : ∀ j, (getAt (modAt x.slots k fun o : Option Slot => o.map fun y =>
      { y with view := (s.point y.point).view, silenced := false }) j).map (·.point) = (getAt x.slots j).map (·.point) :=
    fun j => by
      rw [getAt_modAt]
      split
      · rw [Option.map_map]
        rfl
      · rfl
  exact congrArg (fun f => (f, x.order, x.rotation)) (funext hslot)

theorem setSilenced (s : Part) (d : Nat) (v : Bool) : s.Still (s.setSilenced d v) := by
  refine .modDesk s d _ fun x => ?_
  have hslot : ∀ j, (getAt (x.slots.map fun o : Option Slot => o.map fun y => { y with silenced := v }) j).map (·.point) =
      (getAt x.slots j).map (·.point) := fun j => by
    by_cases h : 1 ≤ j ∧ j ≤ 4
    · rw [getAt_map _ _ _ h.1 h.2, Option.map_map]
      rfl
    · simp only [getAt_out _ _ h]
  exact congrArg (fun f => (f, x.order, x.rotation)) (funext hslot)

end Part.Still

namespace Part.Keeps

theorem modPoint (s : Part) (p : Nat) (f : Point → Point) (hf : ∀ x, (f x).sight = x.sight) : s.Keeps (s.modPoint p f) :=
  (Part.Still.modPoint s p f hf).keeps

theorem modArea (s : Part) (a : Nat) (f : Area → Area) (hf : ∀ x, (f x).sight = x.sight) : s.Keeps (s.modArea a f) :=
  (Part.Still.modArea s a f hf).keeps

theorem modDesk (s : Part) (d : Nat) (f : Desk → Desk) (hf : ∀ x, (f x).sight = x.sight) : s.Keeps (s.modDesk d f) :=
  (Part.Still.modDesk s d f hf).keeps

theorem modSession (s : Part) (n : Nat) (f : Session → Session) : s.Keeps (s.modSession n f) :=
  (Part.Still.modSession s n f).keeps

theorem modLif (s : Part) (f : Lif → Lif) : s.Keeps (s.modLif f) := (Part.Still.modLif s f).keeps

theorem write (s : Part) (sig : Bool) (f : RecordFields) : s.Keeps (s.write sig f) := (Part.Still.write s sig f).keeps

theorem bump (s : Part) (a : Nat) : s.Keeps (s.bump a) := (Part.Still.bump s a).keeps

theorem bumpIf (s : Part) (c : Bool) (a : Nat) : s.Keeps (if c then s.bump a else s) := (Part.Still.bumpIf s c a).keeps

theorem notify (s : Part) (a : Nat) : s.Keeps (s.notify a) := (Part.Still.notify s a).keeps

theorem notifyIf (s : Part) (c : Bool) (a : Nat) : s.Keeps (if c then s.notify a else s) := (Part.Still.notifyIf s c a).keeps

theorem calmIfEmpty (s : Part) (a : Nat) (sig : Bool) : s.Keeps (s.calmIfEmpty a sig) :=
  (Part.Still.calmIfEmpty s a sig).keeps

theorem refuse (s : Part) (d a p pr : Nat) (r : ResultCode) : s.Keeps (s.refuse d a p pr r) :=
  (Part.Still.refuse s d a p pr r).keeps

end Part.Keeps

/-- The end of an event keeps what its steps have kept. -/
theorem Part.Keeps.close {s t : Part} (u : Part) (extra : List ReportEntry) (h : s.Keeps t) : s.Keeps (closeEvent u extra t) :=
  h.trans (Part.Still.closeEvent u extra t).keeps

theorem Part.Still.close {s t : Part} (u : Part) (extra : List ReportEntry) (h : s.Still t) : s.Keeps (Machine.closeEvent u extra t) :=
  h.keeps.close u extra

/-! ### Returns and fills -/

theorem desk_outside (s : Part) {d : Nat} (hd : d ∉ numbers 6) : s.desk d = default := getAt_outside s.desks hd

theorem defaultDesk_slot {k : Nat} (hk : k ∈ numbers 4) : getAt (default : Desk).slots k = none := by
  rcases mem_numbers_four hk with rfl | rfl | rfl | rfl <;> rfl

theorem Part.Keeps.returnSlot (s : Part) (d : Nat) {k : Nat} (hk : k ∈ numbers 4) : s.Keeps (s.returnSlot d k) := by
  by_cases hd : d ∈ numbers 6
  · exact .moved (returnSlot_moves s d k) fun hs => returnSlot_rearranged hs hd hk
  · rw [returnSlot_none (by rw [desk_outside s hd, defaultDesk_slot hk])]
    exact .refl s

/-- R108: the returns of a desk. -/
theorem Part.Keeps.returnsAt (s : Part) (newDesk : Nat → Nat) (d : Nat) : s.Keeps (s.returnsAt newDesk d) := by
  have hslots : ∀ k ∈ [4, 3, 2, 1], k ∈ numbers 4 := by decide
  refine .foldl _ [4, 3, 2, 1] (fun u k hk => ?_) s
  split
  · exact .refl u
  · split
    exacts [.refl u, .returnSlot u d (hslots k hk)]

theorem fill_outside (s : Part) {d : Nat} (hd : d ∉ numbers 6) : s.fill d = s := by
  by_cases h0 : d = 0
  · rw [h0, Part.fill_zero]
  · refine fill_of_settled (fillStep_of_noCandidate ((candidate_eq_none_iff s d).2 fun b hb => ?_))
    rw [desk_outside s hd] at hb
    cases hb

theorem Part.Keeps.fill (s : Part) (d : Nat) : s.Keeps (s.fill d) := by
  by_cases hd : d ∈ numbers 6
  · exact .moved (fill_moves s d) fun hs => fill_rearranged hs (.inr hd)
  · rw [fill_outside s hd]
    exact .refl s

theorem Part.Keeps.fillWhere (s : Part) (f : Nat → Bool) : s.Keeps (s.fillWhere f) :=
  .moved (fillWhere_moves s f) fun hs => fillWhere_rearranged hs f

/-- R11, R108, R109: the presentation desks worked out again. -/
theorem Part.Keeps.recompute (s : Part) : s.Keeps s.recompute := by
  rw [recompute_eq]
  unfold Part.reseat
  exact ((Part.Keeps.foldl _ _ (fun u d _ => .returnsAt u _ d) s).trans (Part.Still.setPresentation _ _).keeps).trans
    (.fillWhere _ _)

/-- R25: a desk signed off returns its slots. -/
theorem Part.Keeps.signOffDesk (s : Part) (d : Nat) : s.Keeps (s.signOffDesk d) := by
  have hslots : ∀ k ∈ [4, 3, 2, 1], k ∈ numbers 4 := by decide
  unfold Part.signOffDesk
  refine Part.Keeps.trans (Part.Still.keeps ?_) (.foldl _ _ (fun u k hk => .returnSlot u d (hslots k hk)) _)
  refine Part.Still.trans (t := s.modDesk d fun x => { x with stack := [], signedOn := 0 }) ?_ (.rest rfl rfl rfl rfl rfl)
  exact .modDesk s d _ fun _ => rfl

/-! ### Flood control -/

theorem releaseUpTo_rearranged (n : Nat) {s : Part} (hs : s.BoardOk) {a : Nat} (ha : a ∈ numbers 16) :
    s.Rearranged (s.releaseUpTo n a).1 := by
  induction n generalizing s with
  | zero => exact .refl hs
  | succ n ih =>
    unfold Part.releaseUpTo
    split
    · exact .refl hs
    · next t h =>
      have hone := releaseOne_rearranged hs ha h
      exact hone.trans (ih hone.boardOk)

theorem Part.Keeps.releaseUpTo (n : Nat) (s : Part) {a : Nat} (ha : a ∈ numbers 16) : s.Keeps (s.releaseUpTo n a).1 := by
  refine .placed ?_ fun hs => releaseUpTo_rearranged n hs ha
  rw [releaseUpTo_eq n s ha]
  exact boardOfRelease_places s _

/-- R84: an area that enters FLOOD defers its queues above the cutoff. -/
theorem Part.Keeps.enterFlood (s : Part) {a : Nat} (ha : a ∈ numbers 16) : s.Keeps (s.enterFlood a) := by
  unfold Part.enterFlood
  refine Part.Keeps.trans (Part.Still.keeps ?_) (.foldl _ _ (fun u k hk => ?_) _)
  · exact .modArea s a _ fun _ => rfl
  · exact .placed (deferQueue_places u a k) fun hu => deferQueue_rearranged hu ha (List.mem_of_mem_filter hk)

theorem Part.Keeps.contribute (s : Part) {p : Nat} (hp : s.InPlant p) : s.Keeps (s.contribute p) := by
  unfold Part.contribute
  dsimp only
  have hload := (Part.Still.modArea s (s.pointS p).area
    (fun x => { x with load := min 65535 (x.load + s.contribution (s.pointS p).priority) }) fun _ => rfl).keeps
  split
  exacts [hload.trans (.enterFlood _ hp.area_mem), hload]

end Sys2Proof.Machine
end

section
/-! The changes of one point under `Part.Keeps`: entering a state, acknowledgement, conditions, group members, shelving, return to
service and removal. -/

namespace Sys2Proof.Machine

variable {s t : Part} {p : Nat}

/-! ### When a point fits again -/

/-- A configured point fits when its placement and its shelf slot go with its state. -/
theorem Part.InPlant.fits (hp : s.InPlant p) (hheld : (s.point p).placement = .none ↔ (s.point p).state.unacked = false)
    (hslot : (s.point p).shelfSlot = none ↔ (s.point p).state ≠ .shelved) : s.Fits p := by
  obtain ⟨_, hconf, _⟩ := hp
  exact ⟨fun h => absurd (hconf.symm.trans h) (by decide), hheld, hslot⟩

theorem Part.Still.fits (h : s.Still t) (hs : s.Fits p) : t.Fits p :=
  hs.congr (h.pointS p) (h.state p) (by rw [h.placement]) (h.shelfSlot p)

theorem Part.Touches.inPlant (h : s.Touches p t) {q : Nat} (hq : s.InPlant q) : t.InPlant q := by
  unfold Part.InPlant
  rw [h.pointS]
  exact hq

/-- What a point in a state other than UNACK, RTN_UNACK and SHELVED holds. -/
theorem Part.Fits.idle (hs : s.Fits p) (h1 : (s.point p).state.unacked = false) (h2 : (s.point p).state ≠ .shelved) :
    (s.point p).placement = .none ∧ (s.point p).shelfSlot = none := ⟨hs.2.1.2 h1, hs.2.2.2 h2⟩

theorem unacked_ne_shelved {st : PointState} (h : st.unacked = true) : st ≠ .shelved := fun hst => by
  rw [hst] at h
  cases h

/-- The point whose state changes, as the invariants read it. -/
theorem changeState_sight (s : Part) (st : PointState) (hp : p ∈ numbers 1024) :
    ((s.changeState p st).point p).sight = (st, (s.point p).placement, (s.point p).shelfSlot) := by
  rw [changeState_point_of s p st hp, if_pos rfl]
  rfl

theorem changeState_fits (hp : s.InPlant p) {st : PointState} (hheld : (s.point p).placement = .none ↔ st.unacked = false)
    (hslot : (s.point p).shelfSlot = none ↔ st ≠ .shelved) : (s.changeState p st).Fits p := by
  obtain ⟨h1, h23⟩ := Prod.mk.inj (changeState_sight s st hp.point_mem)
  obtain ⟨h2, h3⟩ := Prod.mk.inj h23
  refine ((changeState_touches hp st).inPlant hp).fits ?_ ?_
  · rw [h1, h2]
    exact hheld
  · rw [h1, h3]
    exact hslot

/-- A change of state after which the point fits keeps the invariants. -/
theorem Part.Keeps.changeState (hp : s.InPlant p) {st : PointState}
    (hheld : (s.point p).placement = .none ↔ st.unacked = false) (hslot : (s.point p).shelfSlot = none ↔ st ≠ .shelved) :
    s.Keeps (s.changeState p st) := by
  refine (changeState_touches hp st).keeps (fun hs => hs.congr (fun q hq => ?_) fun _ => rfl)
    fun _ _ => changeState_fits hp hheld hslot
  rw [changeState_point_of s p st hq]
  split <;> rfl

/-! ### UNACK and NORMAL -/

theorem enterUnack_touches (hp : s.InPlant p) (hfree : (s.point p).placement = .none) : s.Touches p (s.enterUnack p) := by
  have hunplaced : s.Touches p (s.unplaced p) :=
    (changeState_touches hp .unack).trans (modPoint_touches _ p _ fun _ => ⟨rfl, rfl⟩)
  refine hunplaced.trans (place_touches (hunplaced.inPlant hp) ?_)
  rw [unplaced_point s hp.point_mem, if_pos rfl]
  exact hfree

theorem enterUnack_point (hp : s.InPlant p) :
    ((s.enterUnack p).point p).state = .unack ∧ ((s.enterUnack p).point p).placement ≠ .none
      ∧ ((s.enterUnack p).point p).shelfSlot = (s.point p).shelfSlot := by
  have h := enterUnack_entering (v := s) (g₀ := id) hp (by rw [Part.modPoint_id]) fun _ => ⟨rfl, rfl⟩
  exact ⟨by rw [h.point]; rfl, h.placed, by rw [h.point]; rfl⟩

theorem enterUnack_fits (hp : s.InPlant p) (hfree : (s.point p).placement = .none) (hslot : (s.point p).shelfSlot = none) :
    (s.enterUnack p).Fits p := by
  obtain ⟨hstate, hplaced, hshelf⟩ := enterUnack_point hp
  refine ((enterUnack_touches hp hfree).inPlant hp).fits ?_ ?_
  · rw [hstate]
    exact ⟨fun h => absurd h hplaced, fun h => nomatch h⟩
  · rw [hstate, hshelf, hslot]
    decide

theorem enterUnack_shelf (s : Part) (p : Nat) : (s.enterUnack p).shelf = s.shelf := by
  rw [enterUnack_eq, place_rest]
  rfl

theorem enterNormal_still (s : Part) (p : Nat) : (s.changeState p .normal).Still (s.enterNormal p) :=
  .modPoint _ p _ fun _ => rfl

/-- A point that is nowhere and on no shelf slot enters UNACK. -/
theorem Part.Keeps.enterUnack (hp : s.InPlant p) (hfree : (s.point p).placement = .none)
    (hslot : (s.point p).shelfSlot = none) : s.Keeps (s.enterUnack p) := by
  have htouches := enterUnack_touches hp hfree
  refine htouches.keeps (fun hs => hs.congr (fun q hq => ?_) fun k => by rw [enterUnack_shelf])
    fun _ _ => enterUnack_fits hp hfree hslot
  by_cases hqp : q = p
  · subst hqp
    exact (enterUnack_point hp).2.2
  · exact htouches.shelfSlot q hq hqp

/-- A point that is nowhere and on no shelf slot enters NORMAL. -/
theorem Part.Keeps.enterNormal (hp : s.InPlant p) (hfree : (s.point p).placement = .none)
    (hslot : (s.point p).shelfSlot = none) : s.Keeps (s.enterNormal p) :=
  (Part.Keeps.changeState hp (by rw [hfree]; decide) (by rw [hslot]; decide)).trans (enterNormal_still s p).keeps

/-! ### Conditions -/

/-- R43 to R47: what a condition makes of a configured point. -/
theorem Part.Keeps.conditionChange (hs : s.Fits p) (hp : s.InPlant p) : s.Keeps (s.conditionChange p) := by
  have hidle := fun h1 h2 => Part.Fits.idle hs h1 h2
  have halarmed : (s.point p).state.unacked = true → ∀ st : PointState, st.unacked = true → s.Keeps (s.changeState p st) :=
    fun hst st hnew => .changeState hp (by rw [hs.2.1, hst, hnew])
      ⟨fun _ => unacked_ne_shelved hnew, fun _ => hs.2.2.2 (unacked_ne_shelved hst)⟩
  unfold Part.conditionChange
  split
  case h_1 hst =>
    obtain ⟨hfree, hslot⟩ := hidle (by rw [hst]; rfl) (by rw [hst]; decide)
    have hshadow : s.Still (s.modPoint p Point.activated) := .modPoint s p _ fun _ => rfl
    have hfree' := (hshadow.placement p).trans hfree
    have hin := (hshadow.touches p).inPlant hp
    exact (hshadow.keeps.trans (.enterUnack hin hfree' ((hshadow.shelfSlot p).trans hslot))).trans
      (.contribute _ ((enterUnack_touches hin hfree').inPlant hin))
  case h_2 hst =>
    refine (halarmed (by rw [hst]; rfl) .rtnUnack rfl).trans ?_
    exact .modPoint _ p _ fun _ => rfl
  case h_3 hst =>
    obtain ⟨hfree, hslot⟩ := hidle (by rw [hst]; rfl) (by rw [hst]; decide)
    have hshadow : s.Still (s.modPoint p fun x => { x with shadow := false }) := .modPoint s p _ fun _ => rfl
    exact hshadow.keeps.trans (.enterNormal ((hshadow.touches p).inPlant hp) ((hshadow.placement p).trans hfree)
      ((hshadow.shelfSlot p).trans hslot))
  case h_4 hst =>
    refine ((halarmed (by rw [hst]; rfl) .unack rfl).trans ?_).trans (.contribute _ hp)
    exact .modPoint _ p _ fun _ => rfl
  all_goals exact .modPoint s p _ fun _ => rfl

/-! ### A point that leaves its place -/

/-- R57: an acknowledgement. -/
theorem Part.Keeps.ackPoint (hs : s.Fits p) (hp : s.InPlant p) (hst : (s.point p).state.unacked = true) :
    s.Keeps (s.ackPoint p) := by
  have hpm := hp.point_mem
  have hw := withdraw_touches s hpm
  have hin := hw.inPlant hp
  have htarget : (ackTarget (s.point p).state).unacked = false ∧ ackTarget (s.point p).state ≠ .shelved := by
    unfold ackTarget
    split <;> decide
  have hslot : ((s.withdraw p).point p).shelfSlot = none := by
    rw [(withdraw_places s p).point]
    exact hs.2.2.2 (unacked_ne_shelved hst)
  have hchange := hw.trans (changeState_touches hin (ackTarget (s.point p).state))
  have hlast : ((s.withdraw p).changeState p (ackTarget (s.point p).state)).Still (s.ackPoint p) :=
    .modPoint _ p _ fun _ => rfl
  refine (hchange.trans (hlast.touches p)).keeps (fun hs' => hs'.congr (fun q hq => ?_) fun k => by rw [ackPoint_shelf])
    fun _ _ => hlast.fits (changeState_fits hin (by rw [withdraw_free hpm, htarget.1]; decide)
      ⟨fun _ => htarget.2, fun _ => hslot⟩)
  rw [hlast.shelfSlot, changeState_point_of _ p _ hq, (withdraw_places s p).point]
  split <;> rfl

/-- R15, R16: a member that its group takes out of service or gives back. -/
theorem Part.Keeps.groupMember (hs : s.Fits p) (hp : s.InPlant p) {on : Bool} (hchanges : s.groupChanges on p = true) :
    s.Keeps (s.groupMember on p) := by
  have hpm := hp.point_mem
  unfold Part.groupMember
  cases on with
  | true =>
    have hne : (s.point p).state ≠ .shelved := fun h => by
      rw [Part.groupChanges, h] at hchanges
      cases hchanges
    have hw := withdraw_touches s hpm
    have hin := hw.inPlant hp
    rw [if_pos rfl]
    refine (hw.trans (changeState_touches hin .suppressed)).keeps (fun hs' => hs'.congr (fun q hq => ?_) fun k => ?_)
      fun _ _ => changeState_fits hin (by rw [withdraw_free hpm]; decide) ?_
    · rw [changeState_point_of _ p _ hq, (withdraw_places s p).point]
      split <;> rfl
    · show (getAt (s.withdraw p).shelf k).map _ = _
      rw [(withdraw_places s p).rest]
    · rw [(withdraw_places s p).point]
      exact ⟨fun _ => by decide, fun _ => hs.2.2.2 hne⟩
  | false =>
    have hst : (s.point p).state = .suppressed := by
      unfold Part.groupChanges at hchanges
      cases h : (s.point p).state
      case suppressed => rfl
      all_goals
        rw [h] at hchanges
        cases hchanges
    obtain ⟨hfree, hslot⟩ := hs.idle (by rw [hst]; rfl) (by rw [hst]; decide)
    rw [if_neg Bool.false_ne_true]
    split
    exacts [.enterUnack hp hfree hslot, .enterNormal hp hfree hslot]

end Sys2Proof.Machine
end

section
/-! Shelving, the return to service and removal under `Part.Keeps`. -/

namespace Sys2Proof.Machine

variable {s t : Part} {p : Nat}

/-! ### The shelf -/

/-- A point leaves the shelf slot it had, if it had one. -/
theorem Part.ShelfOk.leaves (hs : s.ShelfOk) (hp : p ∈ numbers 1024)
    (hother : ∀ q ∈ numbers 1024, q ≠ p → (t.point q).shelfSlot = (s.point q).shelfSlot)
    (hmine : (t.point p).shelfSlot = none)
    (hshelf : ∀ k ∈ numbers 96, getAt t.shelf k = if (s.point p).shelfSlot = some k then none else getAt s.shelf k) :
    t.ShelfOk := by
  refine ⟨fun q hq k hk => ?_, fun k hk x hx => ?_⟩
  · have hqp : q ≠ p := fun h => by
      rw [h, hmine] at hk
      cases hk
    rw [hother q hq hqp] at hk
    obtain ⟨hkm, x, hx, hxq⟩ := hs.named q hq k hk
    refine ⟨hkm, x, ?_, hxq⟩
    rw [hshelf k hkm, if_neg]
    · exact hx
    · intro h
      obtain ⟨_, y, hy, hyp⟩ := hs.named p hp k h
      have hxy : x = y := Option.some.inj ((show _ = some x from hx).symm.trans hy)
      exact hqp (by rw [← hxq, hxy, hyp])
  · rw [hshelf k hk] at hx
    split at hx
    · cases hx
    · next h =>
      obtain ⟨h1, h2⟩ := hs.held k hk x hx
      have hxp : x.point ≠ p := fun heq => h (heq ▸ h2)
      exact ⟨h1, (hother _ h1 hxp).trans h2⟩

/-- A point takes a free shelf slot. -/
theorem Part.ShelfOk.takes (hs : s.ShelfOk) (hp : p ∈ numbers 1024) {k : Nat} (hk : k ∈ numbers 96)
    (hfree : getAt s.shelf k = none) (hnone : (s.point p).shelfSlot = none)
    (hother : ∀ q ∈ numbers 1024, q ≠ p → (t.point q).shelfSlot = (s.point q).shelfSlot)
    (hmine : (t.point p).shelfSlot = some k) {u : ShelfUse} (hu : u.point = p) (hshelf : t.shelf = setAt s.shelf k (some u)) :
    t.ShelfOk := by
  have hat : ∀ j, getAt t.shelf j = if k = j then some u else getAt s.shelf j := fun j => by
    rw [hshelf, getAt_setAt]
    exact if_congr (and_iff_left ((mem_numbers k).1 hk)) rfl rfl
  refine ⟨fun q hq j hj => ?_, fun j hj x hx => ?_⟩
  · by_cases hqp : q = p
    · subst hqp
      obtain rfl : k = j := Option.some.inj (hmine.symm.trans hj)
      exact ⟨hk, u, by rw [hat, if_pos rfl]; rfl, hu⟩
    · rw [hother q hq hqp] at hj
      obtain ⟨hjm, x, hx, hxq⟩ := hs.named q hq j hj
      refine ⟨hjm, x, ?_, hxq⟩
      rw [hat, if_neg]
      · exact hx
      · rintro rfl
        rw [hfree] at hx
        cases hx
  · rw [hat] at hx
    split at hx
    · next h =>
      obtain rfl : u = x := Option.some.inj hx
      rw [hu, ← h]
      exact ⟨hp, hmine⟩
    · obtain ⟨h1, h2⟩ := hs.held j hj x hx
      have hxp : x.point ≠ p := fun heq => by
        rw [heq, hnone] at h2
        cases h2
      exact ⟨h1, (hother _ h1 hxp).trans h2⟩

/-- R69: freeing a point's shelf slot touches the point alone. -/
theorem freeShelfOf_touches (s : Part) (p : Nat) : s.Touches p (s.freeShelfOf p) := by
  rw [Part.freeShelfOf_eq]
  have hslot := modPoint_touches s p (fun x => { x with shelfSlot := none }) fun _ => ⟨rfl, rfl⟩
  exact hslot.trans (shelf_touches _ _ p)

theorem freeShelfOf_sight (hp : p ∈ numbers 1024) :
    ((s.freeShelfOf p).point p).sight = ((s.point p).state, (s.point p).placement, none) := by
  rw [Part.freeShelfOf_eq]
  show ((s.modPoint p _).point p).sight = _
  rw [Part.modPoint_point_of s p _ hp, if_pos rfl]
  rfl

/-! ### Shelving (R71, R72) -/

theorem Part.Keeps.shelvedAway (hs : s.Fits p) (hp : s.InPlant p) (hst : (s.point p).state ≠ .shelved) (d granted : Nat)
    {k : Nat} (hk : k ∈ numbers 96) (hfree : getAt s.shelf k = none) : s.Keeps (s.shelvedAway d p granted k) := by
  have hpm := hp.point_mem
  have h := Part.shelvedAway_leaving hp d granted k
  have htouches : s.Touches p (s.shelvedAway d p granted k) := by
    have hshelf := shelf_touches s (s.shelfTaken d p granted k).shelf p
    have hw := hshelf.trans (withdraw_touches (s.shelfTaken d p granted k) hpm)
    exact (hw.trans (changeState_touches (hw.inPlant hp) .shelved)).trans (modPoint_touches _ p _ fun _ => ⟨rfl, rfl⟩)
  have hslot : ((s.shelvedAway d p granted k).point p).shelfSlot = some k := by rw [h.point]
  refine htouches.keeps (fun hs' => hs'.takes hpm hk hfree (hs.2.2.2 hst) htouches.shelfSlot hslot rfl
    (Part.shelvedAway_shelf s d p granted k)) fun _ _ => (htouches.inPlant hp).fits ?_ ?_ <;> rw [h.point]
  · exact ⟨fun _ => rfl, fun _ => rfl⟩
  · exact ⟨(fun h => nomatch h), fun h => absurd rfl h⟩

/-- R69, R72: the slot of a SHELVED point taken anew. -/
theorem Part.Still.shelfTaken {k : Nat} (hshelf : s.ShelfOk) (hp : p ∈ numbers 1024) (hslot : (s.point p).shelfSlot = some k)
    (d granted : Nat) : s.Still (s.shelfTaken d p granted k) := by
  refine ⟨fun _ => rfl, fun _ => rfl, fun _ => rfl, fun _ => rfl, fun j => ?_⟩
  show (getAt (setAt s.shelf k (some _)) j).map _ = _
  rw [getAt_setAt]
  split
  · next h =>
    obtain ⟨_, x, hx, hxp⟩ := hshelf.named p hp k hslot
    rw [← h.1, show getAt s.shelf k = some x from hx]
    exact congrArg some hxp.symm
  · rfl

/-! ### Removal (R77) -/

theorem Part.Keeps.removedAway (hp : s.InPlant p) : s.Keeps (s.removedAway p) := by
  have hpm := hp.point_mem
  have h := Part.removedAway_leaving hp
  have htouches : s.Touches p (s.removedAway p) := by
    have hw := (freeShelfOf_touches s p).trans (withdraw_touches (s.freeShelfOf p) hpm)
    exact hw.trans (changeState_touches (hw.inPlant hp) .removed)
  have hslot : ((s.removedAway p).point p).shelfSlot = none := by rw [h.point]
  have hshelf : (s.removedAway p).shelf = (s.freeShelfOf p).shelf := by
    show ((s.freeShelfOf p).withdraw p).shelf = _
    rw [(withdraw_places _ p).rest]
  refine htouches.keeps (fun hs' => hs'.leaves hpm htouches.shelfSlot hslot fun k hk => ?_)
    fun _ _ => (htouches.inPlant hp).fits ?_ ?_
  · rw [hshelf]
    exact s.freeShelfOf_shelf p hk
  · rw [h.point]
    exact ⟨fun _ => rfl, fun _ => rfl⟩
  · rw [h.point]
    exact ⟨(fun _ h => nomatch h), fun _ => rfl⟩

/-! ### The return to service (R73) -/

/-- The return of a point that is not on the board. -/
theorem Part.Keeps.cameBack (hp : s.InPlant p) (hfree : (s.point p).placement = .none) : s.Keeps (s.cameBack p) := by
  have hpm := hp.point_mem
  have hoff := freeShelfOf_touches s p
  have hin := hoff.inPlant hp
  obtain ⟨_, hsight⟩ := Prod.mk.inj (freeShelfOf_sight (s := s) hpm)
  obtain ⟨hpl, hnone⟩ := Prod.mk.inj hsight
  rw [hfree] at hpl
  have hback : (s.freeShelfOf p).Touches p (s.cameBack p) ∧ (s.cameBack p).Fits p := by
    unfold Part.cameBack Part.returnPoint
    have hstill : ∀ st : PointState, st.unacked = false → st ≠ .shelved →
        (s.freeShelfOf p).Touches p ((s.freeShelfOf p).changeState p st) ∧ ((s.freeShelfOf p).changeState p st).Fits p :=
      fun st h1 h2 => ⟨changeState_touches hin st,
        changeState_fits hin ⟨fun _ => h1, fun _ => hpl⟩ ⟨fun _ => h2, fun _ => hnone⟩⟩
    split
    · exact hstill .suppressed rfl (by decide)
    · split
      · exact ⟨enterUnack_touches hin hpl, enterUnack_fits hin hpl hnone⟩
      · obtain ⟨h1, h2⟩ := hstill .normal rfl (by decide)
        have hlast := enterNormal_still (s.freeShelfOf p) p
        exact ⟨h1.trans (hlast.touches p), hlast.fits h2⟩
  obtain ⟨htouches, hfits⟩ := hback
  have hall := hoff.trans htouches
  refine hall.keeps (fun hs' => hs'.leaves hpm hall.shelfSlot ?_ fun k hk => ?_) fun _ _ => hfits
  · have h := Part.cameBack_of hp
    rw [h.point]
    unfold Part.backAs Point.returned
    split
    · rfl
    · split <;> rfl
  · rw [(Part.cameBack_of hp).shelf]
    exact s.freeShelfOf_shelf p hk

end Sys2Proof.Machine
end

section
/-! The events of alarms, shelving and flood control under `Part.Keeps`. -/

namespace Sys2Proof.Machine

variable {s t : Part} {p : Nat}

theorem Part.PointsInPlace.fits (hs : s.PointsInPlace) (hp : p ∈ numbers 1024) : s.Fits p := hs.statesOk p hp

theorem Part.PointsInPlace.inPlant (hs : s.PointsInPlace) (hp : isPoint p = true)
    (hconf : (s.pointS p).configured = true) : s.InPlant p :=
  Part.PlantOk.inPlant hs.1 ((isPoint_iff p).1 hp) hconf

/-- R41, R55: items taken in order. -/
theorem takeItemsInOrder_keeps (f : Part → Nat → Part × List Byte) (hf : ∀ (u : Part) i, u.Keeps (f u i).1)
    (items : List Nat) (s : Part) : s.Keeps (takeItemsInOrder f items s).1 := by
  unfold takeItemsInOrder
  generalize ([] : List Byte) = out
  induction items generalizing s out with
  | nil => exact .refl s
  | cons i l ih => exact (hf s i).trans (ih _ _)

/-! ### CONDITIONS, GROUP and ACK -/

theorem Part.Keeps.conditionEvent (hs : s.Fits p) (hp : s.InPlant p) (active : Bool) : s.Keeps (s.conditionEvent p active) := by
  unfold Part.conditionEvent
  extract_lets a s1 entered sig s2 value _ s3 _ s4 s5
  have h3 : s.Keeps s3 := ((Part.Keeps.conditionChange hs hp).trans (.bumpIf s1 sig a)).trans (.write s2 _ _)
  have h4 : s3.Keeps s4 := by
    show s3.Keeps (if entered then _ else s3)
    split
    exacts [.write s3 _ _, .refl s3]
  have h5 : s4.Keeps s5 := by
    show s4.Keeps (if _ then _ else s4)
    split
    exacts [.fill s4 _, .refl s4]
  exact .close s [] (((h3.trans h4).trans h5).trans (.notifyIf s5 sig a))

theorem conditionItem_keeps (s : Part) (p c : Nat) : s.Keeps (s.conditionItem p c).1 := by
  unfold Part.conditionItem
  split_ifs with hfield hconf
  · exact .refl s
  · exact .refl s
  · exact .refl s
  · simp only [Bool.or_eq_true, Bool.not_eq_true', not_or, Bool.not_eq_false] at hfield hconf
    exact .assuming fun hs =>
      have hin := hs.inPlant hfield.1 hconf
      .conditionEvent (hs.fits hin.point_mem) hin _

theorem conditions_keeps (body : List Byte) (s : Part) : s.Keeps (conditionsHandler body s).1 :=
  takeItemsInOrder_keeps _ (fun s _ => conditionItem_keeps s _ _) _ s

/-- R14: the members of a group, one after the other. -/
theorem groupMembers_keeps (on : Bool) {l : List Nat} (hl : l.Nodup) (s : Part)
    (hin : ∀ q ∈ l, s.InPlant q ∧ s.groupChanges on q = true) : s.Keeps (l.foldl (fun t p => t.groupMember on p) s) := by
  induction l generalizing s with
  | nil => exact .refl s
  | cons p l ih =>
    obtain ⟨hpl, hnd⟩ := List.nodup_cons.1 hl
    obtain ⟨hp, hchanges⟩ := hin p (List.mem_cons_self ..)
    have hone : s.Keeps (s.groupMember on p) :=
      .assuming fun hs => .groupMember (hs.fits hp.point_mem) hp hchanges
    refine hone.trans (ih hnd _ fun q hq => ?_)
    obtain ⟨hq', hqc⟩ := hin q (List.mem_cons_of_mem p hq)
    have hsw := groupMember_switched s on (q := p)
    have hstate : ((s.groupMember on p).point q).state = (s.point q).state := by
      rw [hsw.point q hq'.point_mem, if_neg fun h : q = p => hpl (h ▸ hq)]
    refine ⟨(Part.InPlant.congr (by rw [hsw.rest]) q).2 hq', ?_⟩
    unfold Part.groupChanges at hqc ⊢
    rw [hstate]
    exact hqc

theorem groupEvent_keeps (s : Part) (g : Nat) (on : Bool) : s.Keeps (s.groupEvent g on) := by
  refine .assuming fun hs => ?_
  have hmembers : ∀ q ∈ (s.groupMembers g).filter (s.groupChanges on), s.InPlant q ∧ s.groupChanges on q = true :=
    fun q hq => ⟨groupMoved_inPlant hs.1 (groupMembers_changed s g on ▸ hq), (List.mem_filter.1 hq).2⟩
  have hnodup : ((s.groupMembers g).filter (s.groupChanges on)).Nodup := by
    rw [groupMembers_changed]
    exact (numbers_nodup 1024).filter _
  unfold Part.groupEvent
  extract_lets changed touched s1 s2 s3 s4 s5 s6
  have h0 : s.Still { s with groups := setAt s.groups g on } := .rest rfl rfl rfl rfl rfl
  have h1 : s.Keeps s1 := h0.keeps.trans (groupMembers_keeps on hnodup _ hmembers)
  have h2 : s1.Keeps s2 := (Part.Still.foldl _ (fun t a => .bump t a) touched s1).keeps
  have h4 : s2.Keeps s4 := (Part.Keeps.write s2 _ _).trans
    (Part.Still.foldl (fun t p => s.writeMember t p) (fun t p => .write t _ _) changed s3).keeps
  have h5 : s4.Keeps s5 := (Part.Still.foldl (fun t a => t.calmIfEmpty a true) (fun t a => .calmIfEmpty t a _) touched s4).keeps
  have h6 : s5.Keeps s6 := .fillWhere s5 _
  exact .close s [] (((((h1.trans h2).trans h4).trans h5).trans h6).trans
    (Part.Still.foldl _ (fun t a => .notify t a) touched s6).keeps)

theorem group_keeps (body : List Byte) (s : Part) : s.Keeps (groupHandler body s).1 := by
  unfold groupHandler
  dsimp only
  split_ifs
  exacts [.refl s, .refl s, groupEvent_keeps s _ _]

theorem Part.Keeps.acknowledge (hs : s.Fits p) (hp : s.InPlant p) (hst : (s.point p).state.unacked = true) (d : Nat)
    (button : Bool) : s.Keeps (s.acknowledge d p button) := by
  unfold Part.acknowledge
  extract_lets a sig s1 s2 _ s3 s4
  have h3 : s.Keeps s3 := ((Part.Keeps.ackPoint hs hp hst).trans (.bumpIf s1 sig a)).trans (.write s2 _ _)
  have h4 : s3.Keeps s4 := (Part.Keeps.calmIfEmpty s3 a sig).trans (.fill _ _)
  exact .close s [] ((h3.trans h4).trans (.notifyIf s4 sig a))

/-- R56: what the checks of an ACK item that pass have established. -/
theorem Part.ackCheck_none {d : Nat} {view : W16} (h : s.ackCheck d p view = none) :
    isPoint p = true ∧ (s.pointS p).configured = true ∧ (s.point p).state.unacked = true := by
  unfold Part.ackCheck at h
  split_ifs at h with h1 h2 _ _ _ h6
  simp only [Bool.not_eq_true', Bool.not_eq_false] at h1 h2 h6
  exact ⟨h1, h2, h6⟩

theorem ackItem_keeps (s : Part) (d p : Nat) (view : W16) : s.Keeps (s.ackItem d p view).1 := by
  unfold Part.ackItem
  split
  · next h =>
    obtain ⟨hp, hconf, hst⟩ := Part.ackCheck_none h
    exact .assuming fun hs =>
      have hin := hs.inPlant hp hconf
      .acknowledge (hs.fits hin.point_mem) hin hst d false
  · exact .refl s
  · exact .refl s
  · exact .refuse s _ _ _ _ _

theorem ack_keeps (body : List Byte) (s : Part) : s.Keeps (ackHandler body s).1 := by
  refine takeItemsInOrder_keeps _ (fun s i => ?_) _ s
  split
  exacts [ackItem_keeps s _ _ _, .refl s]

theorem buttonIdle_keeps (s : Part) (d n : Nat) : s.Keeps (s.buttonIdle d n) := .close s [] (.write s _ _)

/-- A point that a slot shows is configured and unacknowledged. -/
theorem Part.PointsInPlace.shown (hs : s.PointsInPlace) {d k : Nat} (hd : d ∈ numbers 6) (hk : k ∈ numbers 4) {x : Slot}
    (hx : getAt (s.desk d).slots k = some x) : s.InPlant x.point ∧ (s.point x.point).state.unacked = true := by
  obtain ⟨hp, hpl⟩ := hs.boardOk.slot d hd k hk x hx
  have hne : (s.point x.point).placement ≠ .none := by rw [hpl]; simp
  refine ⟨hs.boardOk.placed _ hp hne, ?_⟩
  by_contra h
  exact hne ((hs.fits hp).2.1.2 (by simpa using h))

theorem acknowledgePress_keeps (s : Part) {d : Nat} (hd : d ∈ numbers 6) : s.Keeps (s.acknowledgePress d) := by
  refine .assuming fun hs => ?_
  unfold Part.acknowledgePress
  split
  · exact buttonIdle_keeps s _ _
  · next k hmost =>
    split
    · exact buttonIdle_keeps s _ _
    · next x hx =>
      have hk : k ∈ (s.desk d).order := by
        have := foldl_foremost_mem (fun b j => decide (s.slotPriority d j < s.slotPriority d b)) (s.desk d).order
        rwa [← mostUrgent_eq, hmost] at this
      obtain ⟨hin, hst⟩ := hs.shown hd ((hs.boardOk.order d hd).2.1 k hk) hx
      split_ifs
      · exact .refuse s _ _ _ _ _
      · exact .acknowledge (hs.fits hin.point_mem) hin hst d true
      · exact .close s [] ((Part.Still.refreshSlot s d k).keeps.trans (.write _ _ _))

/-! ### Shelving, the return to service and removal -/

/-- R70, R74, R77, R78: what the checks common to the acts upon a point have established. -/
theorem Part.actCheck_none {d : Nat} {perm : Perm} {bad : Bool} (h : s.actCheck d p perm bad = none) :
    isPoint p = true ∧ (s.pointS p).configured = true := by
  unfold Part.actCheck at h
  split_ifs at h with h1 h2
  simp only [Bool.or_eq_true, Bool.not_eq_true', not_or, Bool.not_eq_false] at h1 h2
  exact ⟨h1.1.2, h2⟩

theorem afterOut_keeps (s t : Part) (p : Nat) : t.Keeps (s.afterOut t p) :=
  ((Part.Keeps.calmIfEmpty t _ true).trans (.fill _ _)).trans (.notify _ _)

theorem shelve_keeps (body : List Byte) (s : Part) : s.Keeps (shelveHandler body s).1 := by
  unfold shelveHandler
  dsimp only
  generalize byteAt body 0 = d
  generalize field16 body 1 = p
  split
  · exact .refuse s _ _ _ _ _
  · next hcheck =>
    generalize min (field16 body 3) (s.pointS p).shelfLimit = granted
    refine .assuming fun hs => ?_
    unfold Part.shelveCheck at hcheck
    split at hcheck
    · cases hcheck
    next hact =>
    obtain ⟨hpoint, hconf⟩ := Part.actCheck_none hact
    have hin := hs.inPlant hpoint hconf
    have hfits := hs.fits hin.point_mem
    show s.Keeps (s.shelve d p granted)
    unfold Part.shelve Part.shelfFor
    split
    · next hst =>
      obtain ⟨k, hk⟩ := Option.ne_none_iff_exists'.1 fun h => hfits.2.2.1 h hst
      rw [hk, Part.extendShelf_eq]
      have hlast : (s.shelfTaken d p granted k).Keeps (s.extended d p granted k) := by
        unfold Part.extended
        refine Part.Keeps.trans ?_ (.write _ _ _)
        refine Part.Keeps.trans ?_ (.bump _ _)
        exact .modPoint _ _ _ fun _ => rfl
      exact .close s _ (((Part.Still.shelfTaken hs.shelfOk hin.point_mem hk d granted).keeps.trans hlast).trans (.notify _ _))
    · next hst =>
      split_ifs at hcheck with _ _ hroom
      obtain ⟨k, hk⟩ := Option.ne_none_iff_exists'.1 fun h => hroom ⟨hst, h⟩
      have hfree : getAt s.shelf k = none := by simpa using List.find?_some hk
      rw [hk]
      exact .close s [] (((Part.Keeps.shelvedAway hfits hin hst d granted (List.mem_of_find?_eq_some hk) hfree).trans
        ((Part.Keeps.bump _ _).trans (.write _ _ _))).trans (afterOut_keeps s _ p))

theorem Part.Keeps.returnEvent (hp : s.InPlant p) (hfree : (s.point p).placement = .none) (k : JKind) (d c : Nat) :
    s.Keeps (s.returnEvent k d c p) := by
  unfold Part.returnEvent
  extract_lets a s1 _ s2 s3
  have h2 : s.Keeps s2 := ((Part.Keeps.cameBack hp hfree).trans (.bump _ a)).trans (.write s1 _ _)
  have h3 : s2.Keeps s3 := by
    show s2.Keeps (if _ then _ else s2)
    split
    exacts [.fill s2 _, .refl s2]
  exact .close s [] ((h2.trans h3).trans (.notify s3 a))

theorem return_keeps (perm : Perm) {st : PointState} (hst : st.unacked = false) (k : JKind) (body : List Byte) (s : Part) :
    s.Keeps (Part.returnRequest perm st k body s).1 := by
  unfold Part.returnRequest
  dsimp only
  split
  · exact .refuse s _ _ _ _ _
  · next hcheck =>
    unfold Part.returnCheck at hcheck
    split at hcheck
    · cases hcheck
    next hact =>
    split_ifs at hcheck with hstate
    obtain ⟨hpoint, hconf⟩ := Part.actCheck_none hact
    exact .assuming fun hs =>
      have hin := hs.inPlant hpoint hconf
      .returnEvent hin ((hs.fits hin.point_mem).2.1.2 (hstate ▸ hst)) k _ _

theorem shelfExpires_keeps (s : Part) (k : Nat) : s.Keeps (s.shelfExpires k) := by
  refine .assuming fun hs => ?_
  unfold Part.shelfExpires
  split
  · exact .refl s
  · next u hu =>
    have hk : k ∈ numbers 96 := by
      by_contra hk
      rw [getAt_outside _ hk] at hu
      cases hu
    obtain ⟨hp, hslot⟩ := hs.shelfOk.held k hk u hu
    have hst : (s.point u.point).state = .shelved := by
      by_contra h
      rw [(hs.fits hp).2.2.2 h] at hslot
      cases hslot
    have hin : s.InPlant u.point := hs.1.inPlant hp (hs.statesOk.configured hp (by rw [hst]; decide))
    split
    exacts [.returnEvent hin ((hs.fits hp).2.1.2 (by rw [hst]; rfl)) _ _ _, .refl s]

theorem remove_keeps (body : List Byte) (s : Part) : s.Keeps (removeHandler body s).1 := by
  unfold removeHandler
  dsimp only
  generalize byteAt body 0 = d
  generalize field16 body 1 = p
  split
  · exact .refuse s _ _ _ _ _
  · next hcheck =>
    unfold Part.removeCheck at hcheck
    split at hcheck
    · cases hcheck
    next hact =>
    obtain ⟨hpoint, hconf⟩ := Part.actCheck_none hact
    exact .assuming fun hs => .close s [] (((Part.Keeps.removedAway (hs.inPlant hpoint hconf)).trans
      ((Part.Keeps.bump _ _).trans (.write _ _ _))).trans (afterOut_keeps s _ p))

/-! ### Flood control -/

theorem Part.Keeps.calmNow (s : Part) (a : Nat) : s.Keeps (s.calmNow a) := (Part.Still.calmNow s a).keeps

theorem pacedRelease_keeps (s : Part) {a : Nat} (ha : a ∈ numbers 16) (sig : Bool) : s.Keeps (s.pacedRelease a sig) := by
  unfold Part.pacedRelease
  dsimp only
  split
  · exact .refl s
  · exact (((Part.Keeps.releaseUpTo _ s ha).trans (.calmNow _ a)).trans (.write _ _ _)).trans (.fill _ _)

theorem loadTick_keeps (s : Part) {a : Nat} (ha : a ∈ numbers 16) : s.Keeps (s.loadTick a) := by
  unfold Part.loadTick
  extract_lets s1 exits s2 s3
  have h1 : s.Keeps s1 := .modArea s a _ fun _ => rfl
  have h2 : s1.Keeps s2 := by
    show s1.Keeps (if exits then s1.exitFlood a else s1)
    split
    · unfold Part.exitFlood
      refine (Part.Keeps.trans ?_ (.bump _ a)).trans (.write _ _ _)
      exact .modArea s1 a _ fun _ => rfl
    · exact .refl s1
  have h3 : s2.Keeps s3 := by
    show s2.Keeps (if _ then _ else s2)
    split
    exacts [pacedRelease_keeps s2 ha _, .refl s2]
  exact .close s [] (((h1.trans h2).trans h3).trans (.notifyIf s3 exits a))

theorem releaseDeferred_keeps (body : List Byte) (s : Part) : s.Keeps (releaseHandler body s).1 := by
  unfold releaseHandler
  dsimp only
  split
  · exact .refuse s _ _ _ _ _
  · next hcheck =>
    unfold Part.releaseCheck at hcheck
    split_ifs at hcheck with hfield
    simp only [Bool.or_eq_true, Bool.not_eq_true', not_or, Bool.not_eq_false] at hfield
    have ha := (isArea_iff _).1 hfield.2
    exact .close s [] ((((Part.Keeps.releaseUpTo _ s ha).trans (.calmNow _ _)).trans (.write _ _ _)).trans (.fill _ _))

end Sys2Proof.Machine
end

section
/-! The events of the desks, of handover and of authority under `Part.Keeps`. -/

namespace Sys2Proof.Machine

variable {s t : Part}

/-! ### The desks -/

theorem inRunning_keeps (s : Part) (f : Part → Part) (hf : s.Keeps (f s)) : s.Keeps (s.inRunning f) := by
  unfold Part.inRunning
  split
  exacts [hf, .refl s]

theorem silenceDesk_keeps (s : Part) (d : Nat) : s.Keeps (s.silenceDesk d) :=
  .close s _ ((Part.Still.setSilenced s d true).keeps.trans (.modDesk _ d _ fun _ => rfl))

theorem silence_keeps (body : List Byte) (s : Part) : s.Keeps (silenceHandler body s).1 := by
  unfold silenceHandler
  dsimp only
  split
  · exact .refl s
  · split
    exacts [.refuse s _ _ _ _ _, silenceDesk_keeps s _]

theorem silencePress_keeps (s : Part) (d : Nat) : s.Keeps (s.silencePress d) := by
  unfold Part.silencePress
  split
  exacts [silenceDesk_keeps s d, buttonIdle_keeps s _ _, .refuse s _ _ _ _ _]

theorem holdExpires_keeps (s : Part) (d : Nat) : s.Keeps (s.holdExpires d) := by
  unfold Part.holdExpires
  extract_lets s1
  have h1 : s.Keeps s1 := .modDesk s d _ fun _ => rfl
  split
  · exact .close s _ (h1.trans (Part.Still.setSilenced s1 d false).keeps)
  · exact h1

theorem lampTest_keeps (body : List Byte) (s : Part) : s.Keeps (lampTestHandler body s).1 := by
  unfold lampTestHandler
  dsimp only
  split
  · exact .refl s
  · exact .close s _ (.modDesk s _ _ fun _ => rfl)

theorem lampTestExpires_keeps (s : Part) (d : Nat) : s.Keeps (s.lampTestExpires d) :=
  .close s _ (.modDesk s _ _ fun _ => rfl)

theorem frameBoundary_keeps (s : Part) (d : Nat) : s.Keeps (s.frameBoundary d) :=
  .close s _ (.modDesk s _ _ fun _ => rfl)

/-! ### ASSUME -/

theorem setResponsible_keeps (s : Part) (a c : Nat) : s.Keeps (s.modArea a fun x => { x with responsible := c }) :=
  .modArea s a _ fun _ => rfl

theorem assumeArea_keeps (s : Part) (d a : Nat) (first : Bool) : s.Keeps (s.assumeArea d a first) := by
  unfold Part.assumeArea
  extract_lets c s1
  have h1 : s.Keeps s1 := ((setResponsible_keeps s a _).trans (.bump _ a)).trans (.recompute _)
  exact .close s _ (h1.trans (.write s1 _ _))

theorem assumeItems_keeps (d : Nat) (l : List Nat) (s : Part) (first : Bool) : s.Keeps (s.assumeItems d l first).1 := by
  induction l generalizing s first with
  | nil => exact .refl s
  | cons a l ih =>
    unfold Part.assumeItems
    split
    · exact (Part.Keeps.refuse s _ _ _ _ _).trans (ih _ _)
    · exact (assumeArea_keeps s d a first).trans (ih _ _)

theorem assume_keeps (body : List Byte) (s : Part) : s.Keeps (assumeHandler body s).1 := by
  unfold assumeHandler
  dsimp only
  split_ifs
  exacts [.refl s, .refl s, assumeItems_keeps _ _ s _]

/-! ### Handover -/

theorem Part.Still.setSession (s : Part) (a n : Nat) : s.Still (s.modArea a fun x => { x with session := n }) :=
  .modArea s a _ fun _ => rfl

theorem Part.Still.clearSessionField (s : Part) (l : List Nat) : s.Still (s.clearSessionField l) :=
  .foldl _ (fun u a => .setSession u a _) l s

theorem Part.Still.abandon (s : Part) (n reason desk : Nat) : s.Still (s.abandon n reason desk) :=
  ((Part.Still.clearSessionField s _).trans (.modSession _ n _)).trans (.write _ _ _)

theorem Part.Still.abandonWhere (s : Part) (reason desk : Nat) (f : Session → Bool) :
    s.Still (s.abandonWhere reason desk f) := by
  refine .foldl _ (fun u n => ?_) _ s
  split
  exacts [.abandon u _ _ _, .refl u]

theorem makeOffer_keeps (s : Part) (d c n : Nat) (l : List Nat) : s.Keeps (s.makeOffer d c n l) := by
  unfold Part.makeOffer
  extract_lets x s1
  have h1 : s.Keeps s1 := (Part.Keeps.modSession s n _).trans
    (Part.Still.foldl _ (fun u a => .setSession u a _) _ _).keeps
  exact .close s [] (h1.trans (Part.Still.foldl _ (fun u a => .write u _ _) _ s1).keeps)

theorem offer_keeps (body : List Byte) (s : Part) : s.Keeps (offerHandler body s).1 := by
  unfold offerHandler
  dsimp only
  split
  exacts [.refuse s _ _ _ _ _, makeOffer_keeps s _ _ _ _]

theorem takeUp_keeps (body : List Byte) (s : Part) : s.Keeps (takeUpHandler body s).1 := by
  unfold takeUpHandler
  dsimp only
  split
  · exact .refuse s _ _ _ _ _
  · exact .close s [] ((Part.Keeps.modSession s _ _).trans (.write _ _ _))

theorem reviewNext_keeps (body : List Byte) (s : Part) : s.Keeps (reviewNextHandler body s).1 := by
  unfold reviewNextHandler
  dsimp only
  split
  · exact .refuse s _ _ _ _ _
  · exact .close s [] (.modSession s _ _)

theorem reviewDelta_keeps (body : List Byte) (s : Part) : s.Keeps (reviewDeltaHandler body s).1 := by
  unfold reviewDeltaHandler
  dsimp only
  split
  · exact .refuse s _ _ _ _ _
  · split
    · exact .close s [] (.modSession s _ _)
    · exact .close s [] (.modSession s _ _)

theorem confirmArea_keeps (body : List Byte) (s : Part) : s.Keeps (confirmAreaHandler body s).1 := by
  unfold confirmAreaHandler
  dsimp only
  split
  · exact .refl s
  · exact .refuse s _ _ _ _ _
  · exact .close s [] ((Part.Keeps.modSession s _ _).trans (.write _ _ _))

theorem transferArea_keeps (s : Part) (d n c a : Nat) : s.Keeps (s.transferArea d n c a) :=
  ((setResponsible_keeps s a _).trans (.bump _ a)).trans (.write _ _ _)

theorem complete_keeps (s : Part) (d n : Nat) : s.Keeps (s.complete d n) := by
  unfold Part.complete
  extract_lets x s1 s2
  have h2 : s.Keeps s2 := ((Part.Keeps.modSession s n _).trans (Part.Still.clearSessionField _ _).keeps).trans
    (.foldl _ _ (fun u a _ => transferArea_keeps u _ _ _ a) s1)
  exact (h2.trans (.recompute s2)).trans (.modSession _ n _)

theorem readyRequest_keeps (q : Party) (body : List Byte) (s : Part) : s.Keeps (Part.readyRequest q body s).1 := by
  unfold Part.readyRequest
  dsimp only
  split
  · exact .refuse s _ _ _ _ _
  · refine .close s [] ?_
    split
    exacts [complete_keeps s _ _, .modSession s _ _]

theorem withdrawHandler_keeps (body : List Byte) (s : Part) : s.Keeps (withdrawHandler body s).1 := by
  unfold withdrawHandler
  dsimp only
  split
  · exact .refuse s _ _ _ _ _
  · exact (Part.Still.abandon s _ _ _).close s []

theorem sessionExpires_keeps (s : Part) (n : Nat) : s.Keeps (s.sessionExpires n) := (Part.Still.abandon s _ _ _).close s []

/-! ### Authority -/

theorem cascade_keeps (s : Part) (d n : Nat) (reason : W16) : s.Keeps (s.cascade d n reason) := by
  unfold Part.cascade
  refine Part.Keeps.trans ?_ (Part.Still.foldl _ (fun u _ => .write u _ _) _ _).keeps
  exact .modDesk s d _ fun _ => rfl

theorem setCred_keeps (s : Part) (c : Nat) (x : Credential) : s.Keeps (s.setCred c x) :=
  Part.Still.keeps (.rest rfl rfl rfl rfl rfl)

theorem signOn_keeps (body : List Byte) (s : Part) : s.Keeps (signOnHandler body s).1 := by
  unfold signOnHandler
  dsimp only
  split
  · exact .refuse s _ _ _ _ _
  · next c _ =>
    show s.Keeps (s.signOn _ c)
    rw [Part.signOn_eq]
    refine .close s [] ((Part.Keeps.trans ?_ (.recompute _)).trans (.write _ _ _))
    unfold Part.seated
    refine Part.Keeps.trans (t := s.modDesk (byteAt body 0) fun x => { x with signedOn := c, stack := [s.baseOf c] }) ?_
      (Part.Still.keeps (.rest rfl rfl rfl rfl rfl))
    exact .modDesk s _ _ fun _ => rfl

theorem signOff_keeps (body : List Byte) (s : Part) : s.Keeps (signOffHandler body s).1 := by
  unfold signOffHandler
  dsimp only
  split
  · exact .refl s
  · exact .close s [] ((((Part.Still.abandonWhere s _ _ _).keeps.trans (.signOffDesk _ _)).trans (.recompute _)).trans
      (.write _ _ _))

theorem elevate_keeps (body : List Byte) (s : Part) : s.Keeps (elevateHandler body s).1 := by
  unfold elevateHandler
  dsimp only
  split
  · exact .refuse s _ _ _ _ _
  · refine .close s [] (Part.Keeps.trans ?_ (.write _ _ _))
    exact .modDesk s _ _ fun _ => rfl

theorem drop_keeps (body : List Byte) (s : Part) : s.Keeps (dropHandler body s).1 := by
  unfold dropHandler
  dsimp only
  split
  · exact .refl s
  · exact .close s [] (cascade_keeps s _ _ _)

theorem layerExpires_keeps (s : Part) (d n : Nat) : s.Keeps (s.layerExpires d n) := .close s [] (cascade_keeps s _ _ _)

theorem runningEdit_keeps (s : Part) (body : List Byte) : s.Keeps (s.runningEdit body).1 := by
  unfold Part.runningEdit
  dsimp only
  split
  · exact .refuse s _ _ _ _ _
  · unfold Part.editCredential
    extract_lets d s1 s2
    have h2 : s1.Keeps s2 := by
      show s1.Keeps (if _ then s1 else _)
      split
      exacts [.refl s1, .modDesk s1 _ _ fun _ => rfl]
    exact .close s _ (((setCred_keeps s _ _).trans h2).trans (.recompute s2))

theorem releaseResponsibility_keeps (s : Part) (d a : Nat) : s.Keeps (s.releaseResponsibility d a) :=
  ((setResponsible_keeps s a _).trans (.bump _ a)).trans (.write _ _ _)

theorem revokeGrants_keeps (s : Part) (c d : Nat) : s.Keeps (s.revokeGrants c d) := by
  unfold Part.revokeGrants
  split
  exacts [.refl s, cascade_keeps s _ _ _]

theorem forceOff_keeps (s : Part) (c : Nat) : s.Keeps (s.forceOff c) := by
  unfold Part.forceOff
  split
  · exact .refl s
  · exact (Part.Keeps.signOffDesk s _).trans (.write _ _ _)

theorem revoke_keeps (body : List Byte) (s : Part) : s.Keeps (revokeHandler body s).1 := by
  unfold revokeHandler
  dsimp only
  split
  · exact .refuse s _ _ _ _ _
  · unfold Part.revoke
    extract_lets s1 s2 s3
    have h1 : s.Keeps s1 := (Part.Still.abandonWhere s _ _ _).keeps
    have h2 : s1.Keeps s2 := .foldl _ _ (fun u a _ => releaseResponsibility_keeps u _ a) s1
    have h3 : s2.Keeps s3 := .foldl _ _ (fun u e _ => revokeGrants_keeps u _ e) s2
    exact .close s [] ((((h1.trans h2).trans h3).trans (forceOff_keeps s3 _)).trans
      ((setCred_keeps _ _ _).trans (.recompute _)))

end Sys2Proof.Machine
end

section
/-! The link, the ticks, the requests of the Record Store and the configuration under `Part.Keeps`, and the parts in which
everything rests. -/

namespace Sys2Proof.Machine

variable {s t : Part}

/-! ### The link and the ticks -/

theorem Part.Still.hostActivity (s : Part) : s.Still s.hostActivity := by
  unfold Part.hostActivity
  dsimp only
  split
  · exact (Part.Still.modLif s _).trans (.write _ _ _)
  · exact .modLif s _

theorem checkFrame_keeps (s : Part) (len : Byte) (inner crc : List Byte) : s.Keeps (s.checkFrame len inner crc) := by
  unfold Part.checkFrame
  split
  · split
    · exact .close _ _ (((Part.Keeps.modLif s _).trans (Part.Still.hostActivity _).keeps).trans (.modLif _ _))
    · exact .modLif s _
  · exact .modLif s _

theorem receive_keeps (s : Part) (b : Byte) (stopLow : Bool) : s.Keeps (s.receive b stopLow) := by
  unfold Part.receive
  extract_lets a set
  have hset : ∀ x, s.Keeps (set x) := fun x => .modLif s _
  have hbad : s.Keeps (s.modLif Lif.badFrame) := .modLif s _
  split
  case h_1 =>
    split
    exacts [hset _, .refl s]
  case h_2 =>
    split_ifs
    exacts [hbad, hset _, hbad]
  case h_3 =>
    split_ifs
    exacts [hbad, hset _, hset _]
  case h_4 =>
    split_ifs
    exacts [hbad, hset _, checkFrame_keeps s _ _ _]

theorem linkReset_keeps (s : Part) : s.Keeps s.linkReset :=
  Part.Keeps.trans (t := s.resync .linkReset) (Part.Still.keeps (.rest rfl rfl rfl rfl rfl)) (.modLif _ _)

theorem goQuiet_keeps (s : Part) : s.Keeps s.goQuiet := .close s [] ((Part.Keeps.modLif s _).trans (.write _ _ _))

/-- Desks each changed in what the invariants do not see. -/
theorem Part.Still.desks (s : Part) (v : Vector Desk 6) (hv : ∀ d ∈ numbers 6, (getAt v d).sight = (s.desk d).sight) :
    s.Still { s with desks := v } :=
  ⟨fun _ => rfl, fun _ => rfl, fun _ => rfl, fun d => by
    by_cases hd : d ∈ numbers 6
    · exact hv d hd
    · show (getAt v d).sight = (getAt s.desks d).sight
      rw [getAt_outside v hd, getAt_outside s.desks hd], fun _ => rfl⟩

theorem tick_keeps (s : Part) (pins : TickPins) : s.Keeps (s.tick pins) := by
  unfold Part.tick
  extract_lets ticked
  have hticked : s.Keeps ticked := by
    refine Part.Still.keeps ((Part.Still.desks s _ fun d hd => ?_).trans (.rest (t := ticked) rfl rfl rfl rfl rfl))
    rw [getAt_mapIdx _ _ _ ((mem_numbers d).1 hd).1 ((mem_numbers d).1 hd).2]
    rfl
  split
  exacts [hticked.trans (linkReset_keeps _), hticked]

theorem second_keeps (s : Part) : s.Keeps s.second := by
  refine Part.Still.keeps ⟨fun _ => rfl, fun _ => rfl, fun _ => rfl, fun d => ?_, fun k => ?_⟩
  · show (getAt (s.desks.map Desk.second) d).sight = (getAt s.desks d).sight
    by_cases hd : 1 ≤ d ∧ d ≤ 6
    · rw [getAt_map _ _ _ hd.1 hd.2]
      rfl
    · rw [getAt_out _ _ hd, getAt_out _ _ hd]
  · show (getAt (s.shelf.map fun o : Option ShelfUse => o.map fun u => { u with timer := u.timer.tick }) k).map _ = _
    by_cases hk : 1 ≤ k ∧ k ≤ 96
    · rw [getAt_map _ _ _ hk.1 hk.2, Option.map_map]
      rfl
    · rw [getAt_out _ _ hk, getAt_out _ _ hk]

/-! ### Requests -/

theorem Part.Still.setTset (s : Part) (t : Tset) : s.Still { s with tset := t } := .rest rfl rfl rfl rfl rfl

theorem Part.Still.modRst (s : Part) (f : Rst → Rst) : s.Still (s.modRst f) := .rest rfl rfl rfl rfl rfl

theorem serve_keeps (s : Part) (k : ReqKind) (h : Handler) (hh : ∀ body (t : Part), t.Keeps (h body t).1) :
    s.Keeps (s.serve k h) := by
  unfold Part.serve
  split
  · next f rest _ _ =>
    split
    · have hhandle : ∀ u : Part, u.Keeps (u.handle k h f.body).1 := fun u => by
        unfold Part.handle
        split_ifs
        exacts [.refl _, .refl _, hh ..]
      exact ((Part.Keeps.modLif s _).trans (hhandle _)).trans (.modLif _ _)
    · exact .refl s
  · exact .refl s

theorem serveUnknown_keeps (s : Part) : s.Keeps s.serveUnknown := by
  unfold Part.serveUnknown
  split
  · split
    · exact .refl s
    · exact (Part.Keeps.modLif s _).trans (.modLif _ _)
  · exact .refl s

theorem journalMark_keeps (body : List Byte) (s : Part) : s.Keeps (journalMarkHandler body s).1 := by
  unfold journalMarkHandler
  dsimp only
  split
  exacts [(Part.Still.modRst s fun r => r.moveMark s.journalSize (word32 body 0)).keeps, .refl s]

theorem setTime_keeps (body : List Byte) (s : Part) : s.Keeps (setTimeHandler body s).1 :=
  (Part.Still.setTset s _).keeps

theorem reportEnable_keeps (body : List Byte) (s : Part) : s.Keeps (reportEnableHandler body s).1 := by
  unfold reportEnableHandler
  dsimp only
  split_ifs
  exacts [.refl s, .refl s, (Part.Still.modRst s fun r => r.setEnabled (byteList body 0) true).keeps]

theorem reportDisable_keeps (body : List Byte) (s : Part) : s.Keeps (reportDisableHandler body s).1 := by
  unfold reportDisableHandler
  dsimp only
  split
  · exact .refl s
  · show s.Keeps (s.disableReports (byteList body 0))
    refine Part.Still.keeps ?_
    unfold Part.disableReports
    extract_lets s1
    have h1 : s.Still s1 := .modRst s _
    split
    exacts [h1.trans (.modLif _ _), h1]

/-! ### The staged copy (R186) -/

theorem stage_keeps (s : Part) (ok : Bool) (f : Cfg → Cfg) : s.Keeps (s.stage ok f).1 := by
  unfold Part.stage
  split
  exacts [Part.Still.keeps (.rest rfl rfl rfl rfl rfl), .refl s]

theorem configPoints_keeps (body : List Byte) (s : Part) : s.Keeps (configPointsHandler body s).1 := by
  unfold configPointsHandler
  dsimp only
  generalize itemOffsets 0 8 body.length = l
  generalize ([] : List Byte) = out
  induction l generalizing s out with
  | nil => exact .refl s
  | cons i l ih => exact (stage_keeps s _ _).trans (ih _ _)

theorem configCredential_keeps (body : List Byte) (s : Part) : s.Keeps (configCredentialHandler body s).1 := by
  unfold configCredentialHandler
  split
  exacts [runningEdit_keeps s body, stage_keeps s _ _]

/-! ### Parts in which everything rests -/

/-- Every point, queue, slot and shelf slot is as after power-on. -/
structure Part.Resting (s : Part) : Prop where
  point : ∀ p ∈ numbers 1024, (s.point p).sight = (.normal, .none, none)
  area : ∀ a ∈ numbers 16, (s.area a).sight = Area.resting.sight
  desk : ∀ d ∈ numbers 6, (s.desk d).sight = Desk.initial.sight
  shelf : ∀ k ∈ numbers 96, getAt s.shelf k = none

theorem Part.Resting.boardOk (h : s.Resting) : s.BoardOk := by
  have hpl : ∀ p ∈ numbers 1024, (s.point p).placement = .none := fun p hp => congrArg (fun v => v.2.1) (h.point p hp)
  have hslot : ∀ d ∈ numbers 6, ∀ k ∈ numbers 4, getAt (s.desk d).slots k = none := fun d hd k hk => by
    have hsight := congrFun (congrArg (fun v => v.1) (h.desk d hd)) k
    have hnone : getAt Desk.initial.slots k = none :=
      getAt_replicate _ _ ((mem_numbers k).1 hk).1 ((mem_numbers k).1 hk).2
    simp only [Desk.sight, hnone, Option.map_none, Option.map_eq_none_iff] at hsight
    exact hsight
  have horder : ∀ d ∈ numbers 6, (s.desk d).order = [] := fun d hd => congrArg (fun v => v.2.1) (h.desk d hd)
  have hrotation : ∀ d ∈ numbers 6, (s.desk d).rotation = numbers 16 := fun d hd =>
    congrArg (fun v => v.2.2) (h.desk d hd)
  have hempty : ∀ k ∈ numbers 4, getAt (Vector.replicate 4 ([] : List Nat)) k = [] := fun k hk =>
    getAt_replicate _ _ ((mem_numbers k).1 hk).1 ((mem_numbers k).1 hk).2
  have hpend : ∀ a ∈ numbers 16, ∀ k ∈ numbers 4, getAt (s.area a).pend k = [] := fun a ha k hk =>
    (congrArg (fun v => getAt v.1 k) (h.area a ha)).trans (hempty k hk)
  have hdefer : ∀ a ∈ numbers 16, ∀ k ∈ numbers 4, getAt (s.area a).defer k = [] := fun a ha k hk =>
    (congrArg (fun v => getAt v.2.1 k) (h.area a ha)).trans (hempty k hk)
  refine ⟨fun p hp hne => absurd (hpl p hp) hne, fun p hp => by rw [hpl p hp]; trivial, fun a ha k hk => ?_,
    fun a ha k hk => ?_, fun d hd k hk x hx => ?_, fun p hp d k hshown => ?_, fun d hd => ?_, fun d hd => ?_⟩
  · rw [hpend a ha k hk]
    refine ⟨List.nodup_nil, fun p => ⟨(fun hp => nomatch hp), fun ⟨hat, hq⟩ => ?_⟩⟩
    rw [hpl p hat.point] at hq
    cases hq
  · rw [hdefer a ha k hk]
    refine ⟨List.nodup_nil, fun p => ⟨(fun hp => nomatch hp), fun ⟨hat, hq⟩ => ?_⟩⟩
    rw [hpl p hat.point] at hq
    cases hq
  · rw [hslot d hd k hk] at hx
    cases hx
  · rw [hpl p hp] at hshown
    cases hshown
  · rw [horder d hd]
    refine ⟨List.nodup_nil, fun k hk => (by cases hk), fun k hk => ⟨fun hk' => (by cases hk'), fun hne => ?_⟩⟩
    exact absurd (hslot d hd k hk) hne
  · rw [hrotation d hd]
    exact ⟨numbers_nodup 16, fun _ => Iff.rfl⟩

/-- R1 to R9: with a plant in range, everything at rest is in place and counted. -/
theorem Part.Resting.sound (h : s.Resting) (hplant : s.PlantOk) : s.PointsInPlace ∧ s.CountsAgree := by
  have hstate : ∀ p ∈ numbers 1024, (s.point p).state = .normal := fun p hp => congrArg (fun v => v.1) (h.point p hp)
  have hslot : ∀ p ∈ numbers 1024, (s.point p).shelfSlot = none := fun p hp => congrArg (fun v => v.2.2) (h.point p hp)
  have hpl : ∀ p ∈ numbers 1024, (s.point p).placement = .none := fun p hp => congrArg (fun v => v.2.1) (h.point p hp)
  have hcounts : ∀ a ∈ numbers 16, (s.area a).counts = Counts.zero := fun a ha => congrArg (fun v => v.2.2) (h.area a ha)
  have hdefer : ∀ a ∈ numbers 16, (s.area a).defer = Area.resting.defer := fun a ha =>
    congrArg (fun v => v.2.1) (h.area a ha)
  have hheld : ∀ a st, st ≠ .normal → s.held a st = 0 := fun a st hst => by
    refine List.countP_eq_zero.2 fun p hp => ?_
    rw [hstate p hp]
    simpa using fun _ heq => hst heq.symm
  refine ⟨(Part.pointsInPlace_iff s).2 ⟨hplant, fun p hp => ?_, h.boardOk, ?_⟩, h.boardOk.countsAgree_iff.2 ⟨?_, ?_⟩⟩
  · rw [hstate p hp, hslot p hp, hpl p hp]
    exact ⟨fun _ => rfl, by decide, by decide⟩
  · refine ⟨fun p hp k hk => ?_, fun k hk x hx => ?_⟩
    · rw [hslot p hp] at hk
      cases hk
    · rw [h.shelf k hk] at hx
      cases hx
  · intro a ha
    rw [hcounts a ha]
    refine ⟨?_, ?_, ?_, ?_, ?_⟩ <;> simp [hheld, Counts.zero]
  · intro a ha
    rw [hcounts a ha, Area.deferredTotal_eq, hdefer a ha]
    decide +kernel

theorem Part.Resting.keeps (h : t.Resting) (hplant : s.PlantOk → t.PlantOk) : s.Keeps t :=
  ⟨fun hs => (h.sound (hplant hs.1)).1, fun hs _ => (h.sound (hplant hs.1)).2⟩

end Sys2Proof.Machine
end

section
/-! Power-on, the restart and the commit under `Part.Keeps`, and every command: points stay in place and counts in agreement. -/

namespace Sys2Proof.Machine

variable {s t : Part}

/-! ### Power-on, the restart and the commit -/

theorem powerOn_resting (b1 b0 : Bool) : (Part.powerOn b1 b0).Resting where
  point p hp := congrArg Point.sight (getAt_replicate _ _ ((mem_numbers p).1 hp).1 ((mem_numbers p).1 hp).2)
  area a ha := congrArg Area.sight (getAt_replicate _ _ ((mem_numbers a).1 ha).1 ((mem_numbers a).1 ha).2)
  desk d hd := congrArg Desk.sight (getAt_replicate _ _ ((mem_numbers d).1 hd).1 ((mem_numbers d).1 hd).2)
  shelf k hk := getAt_replicate _ _ ((mem_numbers k).1 hk).1 ((mem_numbers k).1 hk).2

/-- R185: no point is configured after power-on. -/
theorem powerOn_plantOk (b1 b0 : Bool) : (Part.powerOn b1 b0).PlantOk := fun p hp hconf => by
  have hpoint : (Part.powerOn b1 b0).pointS p = PointStatic.initial :=
    getAt_replicate _ _ ((mem_numbers p).1 hp).1 ((mem_numbers p).1 hp).2
  rw [hpoint] at hconf
  cases hconf

theorem heldInReset_still (b1 b0 : Bool) : (Part.powerOn b1 b0).Still Part.heldInReset := .rest rfl rfl rfl rfl rfl

theorem powerOn_keeps (s : Part) (b1 b0 : Bool) : s.Keeps (Part.powerOn b1 b0) :=
  (powerOn_resting b1 b0).keeps fun _ => powerOn_plantOk b1 b0

theorem heldInReset_keeps (s : Part) : s.Keeps Part.heldInReset :=
  (powerOn_keeps s false false).trans (heldInReset_still false false).keeps

/-- R188, R190: what a restart and a commit clear. -/
theorem Part.restDynamic_resting (s : Part) : s.restDynamic.Resting where
  point p hp := congrArg Point.sight (getAt_replicate _ _ ((mem_numbers p).1 hp).1 ((mem_numbers p).1 hp).2)
  area a ha := congrArg Area.sight (getAt_replicate _ _ ((mem_numbers a).1 ha).1 ((mem_numbers a).1 ha).2)
  desk d hd :=
    (congrArg Desk.sight (getAt_map Desk.cleared s.desks d ((mem_numbers d).1 hd).1 ((mem_numbers d).1 hd).2)).trans rfl
  shelf k hk := getAt_replicate _ _ ((mem_numbers k).1 hk).1 ((mem_numbers k).1 hk).2

theorem Part.Still.closeJournal (s t : Part) : t.Still (closeJournal s t) := .queueReports t _

theorem Part.Still.enterPhase (s : Part) (p : Phase) : s.Still (s.enterPhase p) := .rest rfl rfl rfl rfl rfl

theorem Part.Still.settleBoundaries (s : Part) : s.Still s.settleBoundaries := by
  refine .desks s _ fun d _ => ?_
  show (s.settleBoundaries.desk d).sight = (s.desk d).sight
  rw [s.settleBoundaries_desk]
  rfl

theorem Part.Still.emptyReports (s : Part) : s.Still s.emptyReports := .rest rfl rfl rfl rfl rfl

theorem restart_keeps (s : Part) (d : Nat) : s.Keeps (s.restart d) := by
  unfold Part.restart
  extract_lets c s1
  have hrest : ∀ u : Part, u.Keeps u.restDynamic := fun u => u.restDynamic_resting.keeps id
  have h1 : s.Keeps s1 :=
    (((Part.Still.abandonWhere s _ _ _).trans (.settleBoundaries _)).keeps.trans (hrest _)).trans
      (Part.Still.emptyReports _).keeps
  exact h1.trans (((Part.Still.write s1 _ _).trans (.enterPhase _ .loading)).trans (.closeJournal _ _)).keeps

theorem configBegin_keeps (body : List Byte) (s : Part) : s.Keeps (configBeginHandler body s).1 := by
  unfold configBeginHandler
  split
  · exact ((Part.Still.enterPhase s .loading).trans (.closeJournal _ _)).keeps
  · exact .refl s
  · unfold Part.beginRunning
    split
    · exact .refuse s _ _ _ _ _
    · exact restart_keeps s _

/-- R187, class 1: the points of a staged copy that passes are in range. -/
theorem Cfg.points_of_passes {c : Cfg} (h : c.failing = none) (p : Nat) (hp : p ∈ numbers 1024)
    (hconf : (getAt c.points p).configured = true) :
    isArea (getAt c.points p).area = true ∧ 1 ≤ (getAt c.points p).priority ∧ (getAt c.points p).priority ≤ 4 := by
  unfold Cfg.failing at h
  split at h
  · cases h
  next hpoints =>
  have := firstFailing_none hpoints _ (getAt_mem c.points hp)
  simpa [pointFails, hconf, within] using this

theorem commit_keeps (s : Part) (h : s.staged.failing = none) : s.Keeps s.commit := by
  have hrest : s.committed.Resting :=
    ⟨s.settleBoundaries.adoptStaged.restDynamic_resting.point, s.settleBoundaries.adoptStaged.restDynamic_resting.area,
      s.settleBoundaries.adoptStaged.restDynamic_resting.desk, s.settleBoundaries.adoptStaged.restDynamic_resting.shelf⟩
  have hplant : s.committed.PlantOk := fun p hp => by
    rw [Part.pointS, s.committed_fields.1]
    exact Cfg.points_of_passes h p hp
  rw [Part.commit_eq]
  have hresync : s.committed.Still (s.committed.resync .commit) := .rest rfl rfl rfl rfl rfl
  exact (hrest.keeps fun _ => hplant).trans ((hresync.trans (.enterPhase _ .running)).trans (.closeJournal _ _)).keeps

theorem configCommit_keeps (body : List Byte) (s : Part) : s.Keeps (configCommitHandler body s).1 := by
  unfold configCommitHandler
  split
  · exact .refl s
  · next h => exact commit_keeps s h

/-! ### Every command -/

/-- While RESET# is low nothing changes. -/
theorem Part.Keeps.unlessReset (h : s.Keeps t) : s.Keeps (if s.resetLow = true then s else t) := by
  split
  exacts [.refl s, h]

/-- An event that is taken only when it is due. -/
theorem Part.Keeps.ifDue {c : Prop} [Decidable c] (h : c → s.Keeps t) : s.Keeps (if c then t else s) := by
  split
  · next hc => exact h hc
  · exact .refl s

/-- A request that changes nothing. -/
theorem serve_still_keeps (s : Part) (k : ReqKind) (h : Handler) (hh : ∀ body t, (h body t).1 = t) :
    s.Keeps (s.serve k h) :=
  serve_keeps s k h fun body t => by rw [hh]; exact .refl t

/-- A press is taken and acted upon (R118). -/
theorem press_keeps (s : Part) (d : Nat) (f : Desk → Desk) (g : Part → Part) (hf : ∀ x, (f x).sight = x.sight)
    (hg : ∀ u : Part, u.Keeps (g u)) : s.Keeps ((s.modDesk d f).inRunning g) :=
  (Part.Keeps.modDesk s d f hf).trans (inRunning_keeps _ g (hg _))

theorem loadMonitorTick_keeps (s : Part) (a : Nat) :
    s.Keeps (if isArea a && 0 < getAt s.tset.loadDue a then
      ({ s with tset := { s.tset with loadDue := modAt s.tset.loadDue a (· - 1) } }).loadTick a else s) :=
  .ifDue fun h => by
    simp only [Bool.and_eq_true] at h
    exact (Part.Still.setTset s _).keeps.trans (loadTick_keeps _ ((isArea_iff a).1 h.1))

/-- Every command keeps points in place and counts in agreement. -/
theorem keeps_partAfter (i : Instr) (s : Part) : s.Keeps (partAfter i s) := by
  cases i with
  | powerOn b1 b0 => exact powerOn_keeps s b1 b0
  | resetFalls => exact heldInReset_keeps s
  | receiveByte b stopLow => exact .unlessReset (receive_keeps s b stopLow)
  | gapExpiry => exact .unlessReset (.ifDue fun _ => .modLif s _)
  | linkReset => exact .unlessReset (.ifDue fun _ => (linkReset_keeps s).trans (.modLif _ _))
  | unknownKind => exact .unlessReset (serveUnknown_keeps s)
  | sendReply => exact .unlessReset (.modLif s _)
  | sendReportFrame => exact .unlessReset (.ifDue fun _ => Part.Still.keeps (.rest rfl rfl rfl rfl rfl))
  | transmitterFree => exact .unlessReset (.modLif s _)
  | hostQuietExpiry => exact .unlessReset (.ifDue fun _ => goQuiet_keeps s)
  | tick pins => exact .unlessReset (tick_keeps s pins)
  | oneSecondTick =>
    refine .unlessReset ?_
    show s.Keeps (if s.tset.secondsDue = 0 then s else s.second)
    split
    exacts [.refl s, second_keeps s]
  | loadMonitorTick a => exact .unlessReset (loadMonitorTick_keeps s a)
  | frameBoundary d => exact .unlessReset (.ifDue fun _ => frameBoundary_keeps s d)
  | shelfExpiry k => exact .unlessReset (shelfExpires_keeps s k)
  | layerExpiry d n => exact .unlessReset (.ifDue fun _ => layerExpires_keeps s d n)
  | sessionTimerExpiry n => exact .unlessReset (.ifDue fun _ => sessionExpires_keeps s n)
  | silenceHoldExpiry d => exact .unlessReset (.ifDue fun _ => holdExpires_keeps s d)
  | lampTestExpiry d => exact .unlessReset (.ifDue fun _ => lampTestExpires_keeps s d)
  | acknowledgePress d =>
    refine .unlessReset (.ifDue fun h => ?_)
    simp only [Bool.and_eq_true] at h
    exact press_keeps s d _ _ (fun _ => rfl) fun u => acknowledgePress_keeps u ((isDesk_iff d).1 h.1)
  | silencePress d =>
    exact .unlessReset (.ifDue fun _ => press_keeps s d _ _ (fun _ => rfl) fun u => silencePress_keeps u d)
  | conditions => exact .unlessReset (serve_keeps s _ _ conditions_keeps)
  | group => exact .unlessReset (serve_keeps s _ _ group_keeps)
  | ack => exact .unlessReset (serve_keeps s _ _ ack_keeps)
  | silence => exact .unlessReset (serve_keeps s _ _ silence_keeps)
  | shelve => exact .unlessReset (serve_keeps s _ _ shelve_keeps)
  | unshelve => exact .unlessReset (serve_keeps s _ _ (return_keeps _ rfl _))
  | remove => exact .unlessReset (serve_keeps s _ _ remove_keeps)
  | restore => exact .unlessReset (serve_keeps s _ _ (return_keeps _ rfl _))
  | releaseDeferred => exact .unlessReset (serve_keeps s _ _ releaseDeferred_keeps)
  | signOn => exact .unlessReset (serve_keeps s _ _ signOn_keeps)
  | signOff => exact .unlessReset (serve_keeps s _ _ signOff_keeps)
  | elevate => exact .unlessReset (serve_keeps s _ _ elevate_keeps)
  | drop => exact .unlessReset (serve_keeps s _ _ drop_keeps)
  | assume => exact .unlessReset (serve_keeps s _ _ assume_keeps)
  | offer => exact .unlessReset (serve_keeps s _ _ offer_keeps)
  | takeUp => exact .unlessReset (serve_keeps s _ _ takeUp_keeps)
  | reviewNext => exact .unlessReset (serve_keeps s _ _ reviewNext_keeps)
  | reviewDelta => exact .unlessReset (serve_keeps s _ _ reviewDelta_keeps)
  | confirmArea => exact .unlessReset (serve_keeps s _ _ confirmArea_keeps)
  | accept => exact .unlessReset (serve_keeps s _ _ (readyRequest_keeps _))
  | handOff => exact .unlessReset (serve_keeps s _ _ (readyRequest_keeps _))
  | withdraw => exact .unlessReset (serve_keeps s _ _ withdrawHandler_keeps)
  | lampTest => exact .unlessReset (serve_keeps s _ _ lampTest_keeps)
  | pointStatus => exact .unlessReset (serve_still_keeps s _ _ fun _ _ => rfl)
  | areaStatus => exact .unlessReset (serve_still_keeps s _ _ areaStatusHandler_still)
  | deskStatus => exact .unlessReset (serve_still_keeps s _ _ deskStatusHandler_still)
  | sessionStatus => exact .unlessReset (serve_still_keeps s _ _ sessionStatusHandler_still)
  | partStatus => exact .unlessReset (serve_still_keeps s _ _ fun _ _ => rfl)
  | journalRead => exact .unlessReset (serve_still_keeps s _ _ journalReadHandler_still)
  | journalMark => exact .unlessReset (serve_keeps s _ _ journalMark_keeps)
  | setTime => exact .unlessReset (serve_keeps s _ _ setTime_keeps)
  | reportEnable => exact .unlessReset (serve_keeps s _ _ reportEnable_keeps)
  | reportDisable => exact .unlessReset (serve_keeps s _ _ reportDisable_keeps)
  | configBegin => exact .unlessReset (serve_keeps s _ _ configBegin_keeps)
  | configPlant => exact .unlessReset (serve_keeps s _ _ fun _ u => stage_keeps u _ _)
  | configArea => exact .unlessReset (serve_keeps s _ _ fun _ u => stage_keeps u _ _)
  | configPoints => exact .unlessReset (serve_keeps s _ _ configPoints_keeps)
  | configRole => exact .unlessReset (serve_keeps s _ _ fun _ u => stage_keeps u _ _)
  | configCredential => exact .unlessReset (serve_keeps s _ _ configCredential_keeps)
  | configDesk => exact .unlessReset (serve_keeps s _ _ fun _ u => stage_keeps u _ _)
  | configCommit => exact .unlessReset (serve_keeps s _ _ configCommit_keeps)
  | revoke => exact .unlessReset (serve_keeps s _ _ revoke_keeps)

/-- Settles O58: every command keeps every point in its place. -/
theorem everyStepKeepsPointsInPlace : Obligations.EveryStepKeepsPointsInPlace := fun _ _ hs h =>
  step_keeps (fun i p => (keeps_partAfter i p).places) hs h

/-- Settles O59: every command that keeps the points in place keeps the counts with them. -/
theorem everyStepKeepsTheCounts : Obligations.EveryStepKeepsTheCounts := fun _ _ hs hc h =>
  (step_keeps (P := fun p => p.PointsInPlace ∧ p.CountsAgree)
    (fun i p hp => ⟨(keeps_partAfter i p).places hp.1, (keeps_partAfter i p).counts hp.1 hp.2⟩) ⟨hs, hc⟩ h).2

/-- Settles O60: after reset everything rests. -/
theorem resetHasTheInvariants : Obligations.ResetHasTheInvariants := by
  obtain ⟨h1, h2, h3, h4, h5, h6⟩ := powerOn_sound false false
  obtain ⟨h7, h8⟩ := (powerOn_resting false false).sound (powerOn_plantOk false false)
  exact ⟨h1, h2, h3, h4, h5, h6, h7, h8⟩

end Sys2Proof.Machine
end

section
/-! The reports of an event that only writes records: JOURNAL_NEAR_FULL at most (R160, R163). -/

namespace Sys2Proof.Machine

theorem deskReported_self (s : Part) (r : Rst) (d : Nat) : deskReported s { s with rst := r } d = false := by
  have hlamps : ({ s with rst := r } : Part).lampSources d = s.lampSources d := rfl
  have hareas : ({ s with rst := r } : Part).deskAreas d = s.deskAreas d := rfl
  have hdesk : ({ s with rst := r } : Part).desk d = s.desk d := rfl
  simp [deskReported, hlamps, hareas, hdesk]

/-- R160, R163: the reports of an event that touches the Record Store alone. -/
theorem eventReports_rstOnly (s : Part) (r : Rst) :
    eventReports s { s with rst := r } [] =
      if s.rst.nearFull = .armed ∧ r.nearFull = .fired then [{ kind := .journalNearFull, subject := 0 }] else [] := by
  have hdesks : ((numbers Config.nDesks).filter fun d => deskReported s { s with rst := r } d
      || ([] : List ReportEntry).contains { kind := .desk, subject := d }) = [] := by
    rw [List.filter_eq_nil_iff]
    intro d _
    rw [deskReported_self]
    simp
  unfold eventReports
  rw [hdesks, changedEntries_same (by simp [pointReported]), changedEntries_same (by simp [areaReported]),
    changedEntries_same (by simp [sessionReported]), changedEntries_same (by simp [authorityReported])]
  rfl

/-- Where every horn follows its slots nothing but the Record Store and the Link Interface has changed. -/
theorem Part.RecordFrame.rest {s t : Part} (h : s.RecordFrame t) (hfollow : s.HornsFollow) :
    t = { s with rst := t.rst, lif := t.lif } := by
  obtain ⟨⟨hreset, hphase, hstaged, hlive, htset⟩, ⟨hcred, hgroups⟩, hpoints, hareas, hshelf, hsessions, hdesk⟩ := h
  have hdesks : t.desks = s.desks := table_ext _ _ fun d h1 h2 =>
    (hdesk d ((mem_numbers d).2 ⟨h1, h2⟩)).2.1 (hfollow d ((mem_numbers d).2 ⟨h1, h2⟩))
  obtain ⟨⟩ := t
  simp only at hreset hphase hstaged hlive htset hcred hgroups hpoints hareas hshelf hsessions hdesks
  simp only [hreset, hphase, hstaged, hlive, htset, hcred, hgroups, hpoints, hareas, hshelf, hsessions, hdesks]

/-- R163: the report queue after an event that wrote records alone, with every horn in place. -/
theorem Part.OnlyWrote.reports {s t : Part} {l : List JournalRecord} (h : s.OnlyWrote t l) (hfollow : s.HornsFollow)
    (hlink : t.lif.link = s.lif.link) :
    let kept := if s.rst.nearFull = .armed ∧ t.rst.nearFull = .fired then
        s.rst.queue s.journalSize { kind := .journalNearFull, subject := 0 }
      else s.rst
    t.rst.reports = kept.reports ∧ t.rst.dropped = kept.dropped := by
  obtain ⟨⟨_, hreported⟩, hframe⟩ := h
  have hreports : eventReports s t [] =
      if s.rst.nearFull = .armed ∧ t.rst.nearFull = .fired then [{ kind := .journalNearFull, subject := 0 }] else [] := by
    rw [hframe.rest hfollow, eventReports_lif s { s with rst := t.rst } [] t.lif hlink]
    exact eventReports_rstOnly s t.rst
  unfold Part.Reported at hreported
  rw [hreports] at hreported
  dsimp only at hreported ⊢
  split at hreported
  next hfired => rw [if_pos hfired]; exact hreported
  next hfired => rw [if_neg hfired]; exact hreported

end Sys2Proof.Machine
end

section
/-! What an owning block answers: a code, and with another code than OK and GAP nothing but a refusal (R39, R172). -/

namespace Sys2Proof.Machine

/-- R39, R79, R151: the part after a request was refused with a code: as it was, but for the REFUSAL record of a code that
writes one. -/
def Part.refuseFor (s : Part) (k : ReqKind) (body : List Byte) (r : ResultCode) : Part :=
  s.refuse (byteAt body 0) (s.refusalArea k body) (refusalPoint k body)
    (if refusalPoint k body = 0 then 0 else (s.pointS (refusalPoint k body)).priority) r

/-- The owning block of a request of kind `k` leaves the part and answers the body `out`, with the code `code`. -/
structure Part.Answers (s : Part) (k : ReqKind) (body : List Byte) (code : ResultCode) (out : Part × List Byte) : Prop where
  starts : ∃ rest, out.2 = code.byte :: rest
  lif : out.1.lif = { s.lif with continuation := out.1.lif.continuation }
  result : ∀ r ∈ s.resultOf k body, code = r
  refused : code ≠ .ok → code ≠ .gap → out.1 = s.refuseFor k body code

theorem ResultCode.byte_toNat (r : ResultCode) : r.byte.toNat = r.code := by cases r <;> rfl

/-- Spec 09: the codes that write a record. -/
theorem ResultCode.byte_of_journaled {r : ResultCode} (h : r.journaled = true) : r.byte = 7 ∨ r.byte = 8 ∨ r.byte = 9 := by
  revert h
  cases r <;> decide

theorem Part.refuseFor_plain {s : Part} {k : ReqKind} {body : List Byte} {r : ResultCode} (h : r.journaled = false) :
    s.refuseFor k body r = s := Part.refuse_unjournaled h ..

/-- The checks of a request as a code: a failing one refuses the request, and the others answer OK. -/
theorem Part.Answers.checked {s : Part} {k : ReqKind} {body : List Byte} {code : ResultCode} {out : Part × List Byte}
    (hresult : ∀ r ∈ s.resultOf k body, code = r)
    (hfails : ∀ r, code.failing = some r → out.1 = s.refuseFor k body r ∧ ∃ rest, out.2 = r.byte :: rest)
    (hpasses : code.failing = none → out.1.lif = { s.lif with continuation := out.1.lif.continuation }
      ∧ ∃ rest, out.2 = ResultCode.ok.byte :: rest) : s.Answers k body code out := by
  by_cases hok : code = .ok
  · obtain ⟨hlif, hreply⟩ := hpasses (ResultCode.failing_ok hok)
    exact ⟨by rw [hok]; exact hreply, hlif, hresult, fun hne => absurd hok hne⟩
  · obtain ⟨hpart, hreply⟩ := hfails code (ResultCode.failing_some hok)
    exact ⟨hreply, by rw [hpart]; unfold Part.refuseFor; rw [Part.refuse_lif], hresult, fun _ _ => hpart⟩

/-- A part whose Link Interface is as it was keeps all of it but the continuation. -/
theorem Part.keepsLif {s t : Part} (h : t.lif = s.lif) : t.lif = { s.lif with continuation := t.lif.continuation } := by
  rw [h]

/-- A request that answers OK, for a kind whose checks have a statement of their own. -/
theorem Part.Answers.ok {s t : Part} {k : ReqKind} {body rest : List Byte}
    (hresult : ∀ r ∈ s.resultOf k body, ResultCode.ok = r)
    (hlif : t.lif = { s.lif with continuation := t.lif.continuation }) :
    s.Answers k body .ok (t, ResultCode.ok.byte :: rest) :=
  ⟨⟨rest, rfl⟩, hlif, hresult, fun hne => absurd rfl hne⟩

/-- A request that leaves the part as it was. -/
theorem Part.Answers.still {s : Part} {k : ReqKind} {body rest : List Byte} {code : ResultCode}
    (hresult : ∀ r ∈ s.resultOf k body, code = r) (hplain : code.journaled = false) :
    s.Answers k body code (s, code.byte :: rest) :=
  ⟨⟨rest, rfl⟩, rfl, hresult, fun _ _ => (Part.refuseFor_plain hplain).symm⟩

end Sys2Proof.Machine
end

section
/-! From the answer of an owning block to the completion of its request (R172). -/

namespace Sys2Proof.Machine

theorem Part.taken_resultOf (s : Part) (k : ReqKind) (body : List Byte) : s.taken.resultOf k body = s.resultOf k body := by
  cases k <;> rfl

theorem Part.taken_refusalArea (s : Part) (k : ReqKind) (body : List Byte) :
    s.taken.refusalArea k body = s.refusalArea k body := by
  cases k <;> rfl

/-- R172: the answer is built into the reply slot; a block may have discarded the continuation. -/
theorem Part.reply_lif_continuation {s u : Part} (k : ReqKind) (tag : Byte) (reply : List Byte)
    (h : u.lif = { s.taken.lif with continuation := u.lif.continuation }) :
    (u.reply tag (byteOf k.code) reply).lif = { s.answer k tag reply with continuation := u.lif.continuation } := by
  have hreply : (u.reply tag (byteOf k.code) reply).lif =
      { u.lif with
        replySlot := some
          { tag := tag, kind := replyKind (byteOf k.code), body := reply, busyAhead := u.lif.busyList.length } } := rfl
  have hbusy : u.lif.busyList = s.lif.busyList := (congrArg Lif.busyList h).trans rfl
  rw [hreply, replyKind_code, hbusy, h]
  rfl

theorem Part.refuseFor_lif (s : Part) (k : ReqKind) (body : List Byte) (r : ResultCode) : (s.refuseFor k body r).lif = s.lif :=
  Part.refuse_lif ..

/-- The answer to a refused request: the part of `refuseFor` with the answer in the slot. -/
theorem Part.refuseFor_reply (s : Part) (k : ReqKind) (tag : Byte) (body reply : List Byte) (r : ResultCode) :
    (s.taken.refuseFor k body r).reply tag (byteOf k.code) reply =
      { s.taken.refuseFor k body r with lif := s.answer k tag reply } := by
  rw [Part.reply_rest, Part.reply_lif (s := s) k tag reply (s.taken.refuseFor_lif ..)]

theorem Part.refuseFor_onlyWrote {s : Part} {k : ReqKind} {r : ResultCode} (hr : r.journaled = true) (tag : Byte)
    (body reply : List Byte) :
    s.OnlyWrote { s.taken.refuseFor k body r with lif := s.answer k tag reply }
      (s.records [(false, s.generationOf (s.refusalArea k body),
        { kind := .refusal, area := s.refusalArea k body, desk := byteAt body 0
          credential := (s.desk (byteAt body 0)).signedOn, point := refusalPoint k body
          priority := if refusalPoint k body = 0 then 0 else (s.pointS (refusalPoint k body)).priority
          value := w16 r.code })]) := by
  have honly := s.taken.refuse_onlyWrote hr (byteAt body 0) (s.taken.refusalArea k body) (refusalPoint k body)
    (if refusalPoint k body = 0 then 0 else (s.pointS (refusalPoint k body)).priority)
  rw [Part.taken_refusalArea] at honly
  unfold Part.refuseFor
  rw [Part.taken_refusalArea]
  exact honly.answered (Part.answer_link_of (Part.refuse_lif ..) ..)

end Sys2Proof.Machine
end

section
/-! The requests whose checks have no code of their own in the authority chapter, and the status requests: each answers OK,
or leaves the part as it was. -/

namespace Sys2Proof.Machine

/-! ### Item lists -/

theorem answers_conditions (body : List Byte) (s : Part) : s.Answers .conditions body .ok (conditionsHandler body s) :=
  .ok (fun _ hr => nomatch hr) (Part.keepsLif (event_conditions (auth := true) body s).lif)

theorem answers_ack (body : List Byte) (s : Part) : s.Answers .ack body .ok (ackHandler body s) :=
  .ok (fun _ hr => nomatch hr) (Part.keepsLif (event_ack (auth := true) body s).lif)

theorem answers_assume (body : List Byte) (s : Part) : s.Answers .assume body .ok (assumeHandler body s) := by
  have hlif := Part.keepsLif (event_assume (auth := true) body s).lif
  have hreply : ∃ rest, (assumeHandler body s).2 = ResultCode.ok.byte :: rest := by
    unfold assumeHandler
    dsimp only
    split_ifs
    exacts [⟨_, rfl⟩, ⟨_, rfl⟩, ⟨_, rfl⟩]
  exact ⟨hreply, hlif, fun _ hr => (nomatch hr), fun hne => absurd rfl hne⟩

theorem answers_configPoints (body : List Byte) (s : Part) :
    s.Answers .configPoints body .ok (configPointsHandler body s) :=
  .ok (fun _ hr => nomatch hr) (Part.keepsLif (configPointsHandler_lif body s))

theorem answers_pointStatus (body : List Byte) (s : Part) : s.Answers .pointStatus body .ok (pointStatusHandler body s) :=
  .ok (fun _ hr => nomatch hr) rfl

/-! ### Requests whose failures write no record -/

theorem answers_group (body : List Byte) (s : Part) : ∃ code, s.Answers .group body code (groupHandler body s) := by
  unfold groupHandler
  dsimp only
  split_ifs
  · exact ⟨.badField, .still (fun _ hr => nomatch hr) rfl⟩
  · exact ⟨.repeated, .still (fun _ hr => nomatch hr) rfl⟩
  · exact ⟨.ok, .ok (fun _ hr => nomatch hr) (Part.keepsLif (groupEvent_lif ..))⟩

theorem answers_journalMark (body : List Byte) (s : Part) :
    ∃ code, s.Answers .journalMark body code (journalMarkHandler body s) := by
  unfold journalMarkHandler
  dsimp only
  split_ifs
  · exact ⟨.ok, .ok (fun _ hr => nomatch hr) rfl⟩
  · exact ⟨.repeated, .still (fun _ hr => nomatch hr) rfl⟩

theorem answers_reportEnable (body : List Byte) (s : Part) :
    ∃ code, s.Answers .reportEnable body code (reportEnableHandler body s) := by
  unfold reportEnableHandler
  dsimp only
  split_ifs
  · exact ⟨.badField, .still (fun _ hr => nomatch hr) rfl⟩
  · exact ⟨.repeated, .still (fun _ hr => nomatch hr) rfl⟩
  · exact ⟨.ok, .ok (fun _ hr => nomatch hr) rfl⟩

/-- R186: a request that writes the staged copy when its checks pass. -/
theorem answers_stage {s : Part} {k : ReqKind} {body : List Byte} (hresult : s.resultOf k body = none) (ok : Bool)
    (f : Cfg → Cfg) : ∃ code, s.Answers k body code (s.stage ok f) := by
  have hnone : ∀ {code : ResultCode}, ∀ r ∈ s.resultOf k body, code = r := by
    rw [hresult]
    exact fun _ hr => nomatch hr
  unfold Part.stage
  split
  · exact ⟨.ok, .ok hnone rfl⟩
  · exact ⟨.badField, .still hnone rfl⟩

theorem answers_configCommit (body : List Byte) (s : Part) :
    ∃ code, s.Answers .configCommit body code (configCommitHandler body s) := by
  unfold configCommitHandler
  split
  · exact ⟨.commitFailed, .still (fun _ hr => nomatch hr) rfl⟩
  · exact ⟨.ok, .ok (fun _ hr => nomatch hr) (by rw [s.commit_fields.1])⟩

/-! ### Status requests -/

theorem answers_areaStatus (body : List Byte) (s : Part) :
    ∃ code, s.Answers .areaStatus body code (areaStatusHandler body s) := by
  unfold areaStatusHandler
  dsimp only
  cases harea : isArea (byteAt body 0) with
  | false => exact ⟨.badField, .still (fun r hr => by simpa [Part.resultOf, harea] using hr) rfl⟩
  | true => exact ⟨.ok, .ok (fun r hr => by simpa [Part.resultOf, harea] using hr) rfl⟩

theorem answers_deskStatus (body : List Byte) (s : Part) :
    ∃ code, s.Answers .deskStatus body code (deskStatusHandler body s) := by
  unfold deskStatusHandler
  dsimp only
  cases hdesk : isDesk (byteAt body 0) with
  | false => exact ⟨.badField, .still (fun r hr => by simpa [Part.resultOf, hdesk] using hr) rfl⟩
  | true => exact ⟨.ok, .ok (fun r hr => by simpa [Part.resultOf, hdesk] using hr) rfl⟩

/-- A number out of the range of the numbers up to `n`. -/
theorem out_of_range_iff (n c : Nat) : (decide (1 ≤ c) && decide (c ≤ n)) = false ↔ c = 0 ∨ n < c := by
  simp only [Bool.and_eq_false_iff, decide_eq_false_iff_not]
  omega

theorem answers_sessionStatus (body : List Byte) (s : Part) :
    ∃ code, s.Answers .sessionStatus body code (sessionStatusHandler body s) := by
  unfold sessionStatusHandler
  dsimp only
  simp only [Bool.not_eq_true', out_of_range_iff]
  by_cases hbad : byteAt body 0 = 0 ∨ Config.nSessions < byteAt body 0
  · rw [if_pos hbad]
    exact ⟨.noSession, .still (fun r hr => by simpa [Part.resultOf, hbad] using hr) rfl⟩
  · rw [if_neg hbad]
    exact ⟨.ok, .ok (fun r hr => by simpa [Part.resultOf, hbad] using hr) rfl⟩

theorem answers_journalRead (body : List Byte) (s : Part) :
    ∃ code, s.Answers .journalRead body code (journalReadHandler body s) := by
  unfold journalReadHandler
  dsimp only
  by_cases hbad : byteAt body 4 = 0 ∨ 11 < byteAt body 4
  · rw [if_pos hbad]
    exact ⟨.badField, .still (fun r hr => by simpa [Part.resultOf, hbad] using hr) rfl⟩
  · rw [if_neg hbad]
    exact ⟨.ok, .ok (fun r hr => by simpa [Part.resultOf, hbad] using hr) rfl⟩

end Sys2Proof.Machine
end

section
/-! The answers of SHELVE, UNSHELVE, REMOVE and RESTORE (R70, R74, R77 to R79). -/

namespace Sys2Proof.Machine

/-- R79: a refused act upon a point names it; a request that names no point fails before any test of authority. -/
theorem refusePoint_eq {k : ReqKind} (hk : k = .shelve ∨ k = .unshelve ∨ k = .remove ∨ k = .restore) {s : Part}
    {body : List Byte} {minutes : Nat} {r : ResultCode}
    (h : (s.outCode k (byteAt body 0) (field16 body 1) minutes).failing = some r) :
    s.refusePoint (byteAt body 0) (field16 body 1) r = s.refuseFor k body r := by
  have hpoint : refusalPoint k body = field16 body 1 := by
    rcases hk with rfl | rfl | rfl | rfl <;> rfl
  have harea : s.refusalArea k body = (s.pointS (field16 body 1)).area := by
    rcases hk with rfl | rfl | rfl | rfl <;> rfl
  unfold Part.refuseFor Part.refusePoint
  rw [hpoint, harea]
  by_cases hzero : field16 body 1 = 0
  · have hbad : s.outCode k (byteAt body 0) (field16 body 1) minutes = .badField := if_pos (.inr (.inl (by rw [hzero]; decide)))
    rw [hbad] at h
    cases h
    rw [Part.refuse_unjournaled rfl, Part.refuse_unjournaled rfl]
  · rw [if_neg hzero]

/-- A request that acts upon a point, by its check. -/
theorem answers_pointAct {k : ReqKind} (hk : k = .shelve ∨ k = .unshelve ∨ k = .remove ∨ k = .restore) {s : Part}
    {body : List Byte} {minutes : Nat} {check : Option ResultCode} {out : Part × List Byte}
    (hcheck : check = (s.outCode k (byteAt body 0) (field16 body 1) minutes).failing) (hlif : out.1.lif = s.lif)
    (hfails : ∀ r, check = some r → out = (s.refusePoint (byteAt body 0) (field16 body 1) r, [r.byte]))
    (hpasses : check = none → ∃ rest, out.2 = ResultCode.ok.byte :: rest) : ∃ code, s.Answers k body code out := by
  refine ⟨s.outCode k (byteAt body 0) (field16 body 1) minutes, .checked ?_ (fun r hr => ?_) fun hok => ?_⟩
  · rcases hk with rfl | rfl | rfl | rfl <;> exact fun _ hr => nomatch hr
  · rw [hfails r (hcheck.trans hr)]
    exact ⟨refusePoint_eq hk hr, [], rfl⟩
  · exact ⟨Part.keepsLif hlif, hpasses (hcheck.trans hok)⟩

theorem answers_shelve (body : List Byte) (s : Part) : ∃ code, s.Answers .shelve body code (shelveHandler body s) :=
  answers_pointAct (.inl rfl) (s.shelveCheck_eq ..) (event_shelve (auth := true) body s).lif (fun _ => shelveHandler_fails)
    fun hok => ⟨_, congrArg Prod.snd (shelveHandler_passes hok)⟩

theorem answers_unshelve (body : List Byte) (s : Part) :
    ∃ code, s.Answers .unshelve body code (Part.returnRequest .unshelve .shelved .unshelve body s) :=
  answers_pointAct (minutes := 0) (.inr (.inl rfl)) (s.unshelveCheck_eq ..) (event_return (auth := true) _ _ _ body s).lif
    (fun _ => returnRequest_fails) fun hok => ⟨_, congrArg Prod.snd (returnRequest_passes hok)⟩

theorem answers_remove (body : List Byte) (s : Part) : ∃ code, s.Answers .remove body code (removeHandler body s) :=
  answers_pointAct (minutes := 0) (.inr (.inr (.inl rfl))) (s.removeCheck_eq ..) (event_remove (auth := true) body s).lif
    (fun _ => removeHandler_fails) fun hok => ⟨_, congrArg Prod.snd (removeHandler_passes hok)⟩

theorem answers_restore (body : List Byte) (s : Part) :
    ∃ code, s.Answers .restore body code (Part.returnRequest .restore .removed .restore body s) :=
  answers_pointAct (minutes := 0) (.inr (.inr (.inr rfl))) (s.restoreCheck_eq ..) (event_return (auth := true) _ _ _ body s).lif
    (fun _ => returnRequest_fails) fun hok => ⟨_, congrArg Prod.snd (returnRequest_passes hok)⟩

end Sys2Proof.Machine
end

section
/-! The answers of the requests of a desk: SIGN_OFF, DROP, SILENCE, LAMP_TEST and RELEASE_DEFERRED (R25, R28, R91, R122, R129). -/

namespace Sys2Proof.Machine

/-- A request whose block asks one check, which fails with the result code of the request. -/
theorem Part.Answers.ofCheck {s : Part} {k : ReqKind} {body : List Byte} {code : ResultCode} {check : Option ResultCode}
    {out : Part × List Byte} (hresult : s.resultOf k body = some code) (hcheck : check = code.failing)
    (hlif : out.1.lif = { s.lif with continuation := out.1.lif.continuation })
    (hfails : ∀ r, check = some r → out = (s.refuseFor k body r, [r.byte]))
    (hpasses : check = none → ∃ rest, out.2 = ResultCode.ok.byte :: rest) : ∃ code, s.Answers k body code out := by
  refine ⟨code, .checked (fun r hr => ?_) (fun r hr => ?_) fun hok => ⟨hlif, hpasses (hcheck.trans hok)⟩⟩
  · rw [hresult] at hr
    exact Option.some.inj hr
  · rw [hfails r (hcheck.trans hr)]
    exact ⟨rfl, [], rfl⟩

theorem ResultCode.failing_andThen (x y : ResultCode) : (x.andThen y).failing = x.failing.or y.failing := by
  unfold ResultCode.andThen ResultCode.failing
  by_cases hx : x = .ok
  · rw [if_pos hx, if_pos hx]
    rfl
  · rw [if_neg hx, if_neg hx]
    rfl

/-! ### SIGN_OFF and DROP -/

theorem heldBy_isEmpty (s : Part) (c : Nat) :
    (s.heldBy c).isEmpty = false ↔ ∃ a ∈ numbers 16, (s.area a).responsible = c := by
  rw [← Bool.not_eq_true, List.isEmpty_iff, Part.heldBy, List.filter_eq_nil_iff]
  simp only [beq_iff_eq, not_forall, not_not, exists_prop]

theorem signOffCheck_eq (s : Part) (d : Nat) : s.signOffCheck d =
    (if isDesk d = false then ResultCode.badField else if (s.desk d).signedOn = 0 then .notSignedOn
      else if ∃ b ∈ numbers 16, (s.area b).responsible = (s.desk d).signedOn then .holdsAreas else .ok).failing := by
  unfold Part.signOffCheck
  simp only [apply_ite ResultCode.failing, Bool.not_eq_true', heldBy_isEmpty]
  rfl

theorem answers_signOff (body : List Byte) (s : Part) : ∃ code, s.Answers .signOff body code (signOffHandler body s) := by
  have hcheck := signOffCheck_eq s (byteAt body 0)
  refine Part.Answers.ofCheck rfl hcheck (Part.keepsLif (event_signOff body s).lif) (fun r hr => ?_) fun hok => ?_
  · have hplain : r.journaled = false := by
      unfold Part.signOffCheck at hr
      split_ifs at hr
      all_goals (cases hr; rfl)
    unfold signOffHandler
    simp only [hr, Part.refuseFor_plain hplain]
    rfl
  · unfold signOffHandler
    simp only [hok]
    exact ⟨_, rfl⟩

theorem dropCheck_eq (s : Part) (d : Nat) : s.dropCheck d =
    (if isDesk d = false then ResultCode.badField else if (s.desk d).signedOn = 0 then .notSignedOn
      else if (s.desk d).stack.length ≤ 1 then .wrongState else .ok).failing := by
  unfold Part.dropCheck
  simp only [apply_ite ResultCode.failing, Bool.not_eq_true']
  rfl

theorem answers_drop (body : List Byte) (s : Part) : ∃ code, s.Answers .drop body code (dropHandler body s) := by
  have hcheck := dropCheck_eq s (byteAt body 0)
  refine Part.Answers.ofCheck rfl hcheck (Part.keepsLif (event_drop body s).lif) (fun r hr => ?_) fun hok => ?_
  · have hplain : r.journaled = false := by
      unfold Part.dropCheck at hr
      split_ifs at hr
      all_goals (cases hr; rfl)
    unfold dropHandler
    simp only [hr, Part.refuseFor_plain hplain]
    rfl
  · unfold dropHandler
    simp only [hok]
    exact ⟨_, rfl⟩

/-! ### SILENCE and LAMP_TEST -/

theorem silenceCheck_failing (s : Part) {d : Nat} (hd : d ∈ numbers 6) : s.silenceCheck d =
    (if (s.desk d).signedOn = 0 then ResultCode.notSignedOn else if (s.desk d).occupants = [] then .repeated
      else if ∀ b ∈ numbers 16, (s.area b).pdesk = d → allows (s.topLayer d) Perm.silence.set b = false then .denied
      else .ok).failing := by
  have hmay : (!s.maySilence d) = true ↔
      ∀ b ∈ numbers 16, (s.area b).pdesk = d → allows (s.topLayer d) Perm.silence.set b = false := by
    rw [Bool.not_eq_true', ← Bool.not_eq_true, s.maySilence_iff hd]
    simp only [not_exists, not_and, Bool.not_eq_true]
  unfold Part.silenceCheck
  simp only [apply_ite ResultCode.failing, hmay, List.isEmpty_iff]
  rfl

theorem answers_silence (body : List Byte) (s : Part) : ∃ code, s.Answers .silence body code (silenceHandler body s) := by
  have hlif := Part.keepsLif (event_silence (auth := true) body s).lif
  cases hdesk : isDesk (byteAt body 0) with
  | false =>
    have hout : silenceHandler body s = (s, [ResultCode.badField.byte]) := by
      unfold silenceHandler
      simp [hdesk, result]
    exact ⟨.badField, by rw [hout]; exact .still (fun r hr => by simpa [Part.resultOf, hdesk] using hr) rfl⟩
  | true =>
    have hresult := silenceCheck_failing s ((isDesk_iff _).1 hdesk)
    refine Part.Answers.ofCheck (congrArg some (if_neg (by rw [hdesk]; decide))) hresult hlif (fun r hr => ?_) fun hok => ?_
    · unfold silenceHandler
      simp only [hdesk, hr, Bool.not_true, Bool.false_eq_true, if_false]
      rfl
    · unfold silenceHandler
      simp only [hdesk, hok, Bool.not_true, Bool.false_eq_true, if_false]
      exact ⟨_, rfl⟩

theorem answers_lampTest (body : List Byte) (s : Part) : ∃ code, s.Answers .lampTest body code (lampTestHandler body s) := by
  have hlif := Part.keepsLif (event_lampTest (auth := true) body s).lif
  unfold lampTestHandler at hlif ⊢
  dsimp only at hlif ⊢
  cases hdesk : isDesk (byteAt body 0) with
  | false => exact ⟨.badField, .still (fun r hr => by simpa [Part.resultOf, hdesk] using hr) rfl⟩
  | true =>
    rw [hdesk] at hlif
    exact ⟨.ok, .ok (fun r hr => by simpa [Part.resultOf, hdesk] using hr) hlif⟩

/-! ### RELEASE_DEFERRED -/

theorem nothingDeferred_iff_nil (x : Area) : x.nothingDeferred = true ↔ ∀ pr ∈ numbers 4, getAt x.defer pr = [] := by
  simp only [Area.nothingDeferred, List.all_eq_true, List.isEmpty_iff]
  exact Iff.rfl

theorem releaseCheck_eq (s : Part) (d a : Nat) : s.releaseCheck d a =
    (if isDesk d = false ∨ isArea a = false then ResultCode.badField else if (s.desk d).signedOn = 0 then .notSignedOn
      else if allows (s.topLayer d) Perm.release.set a = false then .denied
      else if (s.area a).pdesk ≠ d then .notYourArea
      else if ∀ pr ∈ numbers 4, getAt (s.area a).defer pr = [] then .repeated else .ok).failing := by
  unfold Part.releaseCheck
  simp only [apply_ite ResultCode.failing, Bool.not_eq_true', Bool.or_eq_true, nothingDeferred_iff_nil]
  rfl

theorem answers_releaseDeferred (body : List Byte) (s : Part) :
    ∃ code, s.Answers .releaseDeferred body code (releaseHandler body s) := by
  refine Part.Answers.ofCheck rfl (releaseCheck_eq s (byteAt body 0) (byteAt body 1))
    (Part.keepsLif (event_releaseDeferred (auth := true) body s).lif) (fun r hr => ?_) fun hok => ?_
  · unfold releaseHandler
    simp only [hr]
    rfl
  · unfold releaseHandler
    simp only [hok]
    exact ⟨_, rfl⟩

end Sys2Proof.Machine
end

section
/-! The answers of the requests that need CONFIGURE plant-wide: REVOKE, CONFIG_BEGIN and CONFIG_CREDENTIAL (R34, R36, R189). -/

namespace Sys2Proof.Machine

theorem configureCheck_eq (s : Part) (d : Nat) {bad : Bool} {P : Prop} [Decidable P] (hbad : bad = true ↔ P) :
    s.configureCheck d bad = (s.configureCode d P).failing := by
  unfold Part.configureCheck Part.configureCode
  simp only [apply_ite ResultCode.failing, Bool.not_eq_true', Bool.or_eq_true, hbad]
  rfl

/-! ### REVOKE -/

theorem revokeCheck_eq (s : Part) (d c : Nat) : s.revokeCheck d c =
    ((s.configureCode d (c = 0 ∨ 64 < c)).andThen (if (s.cred c).valid = false then .repeated else .ok)).failing := by
  have hbad : (!(decide (1 ≤ c) && decide (c ≤ 64))) = true ↔ c = 0 ∨ 64 < c := by
    rw [Bool.not_eq_true', out_of_range_iff]
  have hor : s.revokeCheck d c = (s.configureCheck d (!(decide (1 ≤ c) && decide (c ≤ 64)))).or
      (if (s.cred c).valid = true then none else some .repeated) := by
    unfold Part.revokeCheck
    cases s.configureCheck d (!(decide (1 ≤ c) && decide (c ≤ Config.nCreds))) <;> rfl
  rw [hor, ResultCode.failing_andThen, ← configureCheck_eq s d hbad]
  cases (s.cred c).valid <;> rfl

theorem answers_revoke (body : List Byte) (s : Part) : ∃ code, s.Answers .revoke body code (revokeHandler body s) := by
  refine Part.Answers.ofCheck rfl (revokeCheck_eq s (byteAt body 0) (byteAt body 1))
    (Part.keepsLif (event_revoke body s).lif) (fun r hr => ?_) fun hok => ?_
  · unfold revokeHandler
    simp only [hr]
    rfl
  · unfold revokeHandler
    simp only [hok]
    exact ⟨_, rfl⟩

/-! ### CONFIG_BEGIN -/

theorem restart_lif (s : Part) (d : Nat) : (s.restart d).lif = { s.lif with continuation := none } :=
  (Part.restart_done (abandonWhere_abandoning s 6 0 fun _ => true) rfl).1

theorem answers_beginRunning {s : Part} (hrun : s.phase = .running) (body : List Byte) :
    ∃ code, s.Answers .configBegin body code (s.beginRunning (byteAt body 0)) := by
  have hresult : s.resultOf .configBegin body = some (s.configureCode (byteAt body 0) False) := if_pos hrun
  have hcheck := configureCheck_eq s (byteAt body 0) (bad := false) (P := False) (by simp)
  have hfails : ∀ r, s.configureCheck (byteAt body 0) false = some r →
      s.beginRunning (byteAt body 0) = (s.refuseFor .configBegin body r, [r.byte]) := fun r hr => by
    unfold Part.beginRunning
    simp only [hr]
    rfl
  have hpasses : s.configureCheck (byteAt body 0) false = none →
      s.beginRunning (byteAt body 0) = (s.restart (byteAt body 0), [ResultCode.ok.byte]) := fun hok => by
    unfold Part.beginRunning
    simp only [hok]
    rfl
  refine Part.Answers.ofCheck hresult hcheck ?_ hfails fun hok => ⟨[], by rw [hpasses hok]⟩
  cases hr : s.configureCheck (byteAt body 0) false with
  | some r => rw [hfails r hr]; exact Part.keepsLif (s.refuseFor_lif ..)
  | none => rw [hpasses hr]; rw [restart_lif]

theorem answers_configBegin (body : List Byte) (s : Part) :
    ∃ code, s.Answers .configBegin body code (configBeginHandler body s) := by
  have hresult : s.phase ≠ .running → ∀ {code : ResultCode}, ∀ r ∈ s.resultOf .configBegin body, code = r :=
    fun hrun _ r hr => by
      rw [show s.resultOf .configBegin body = none from if_neg hrun] at hr
      exact nomatch hr
  unfold configBeginHandler
  split
  next hblank =>
    exact ⟨.ok, .ok (hresult (by rw [hblank]; decide)) (Part.keepsLif (by rw [Part.beginBlank_rest]))⟩
  next hload => exact ⟨.repeated, .still (hresult (by rw [hload]; decide)) rfl⟩
  next hrun => exact answers_beginRunning hrun body

/-! ### CONFIG_CREDENTIAL -/

theorem editBadField_iff (s : Part) (c status : Nat) (x : Credential) : s.editBadField c status x = true ↔
    (c = 0 ∨ 64 < c) ∨ status ≠ 1 ∨ x.badge = 0 ∨ (x.role = 0 ∨ 8 < x.role) ∨ 4096 ≤ x.grant.toNat
      ∨ 4096 ≤ x.deny.toNat ∨ ∃ j ∈ numbers 64, j ≠ c ∧ (s.cred j).valid = true ∧ (s.cred j).badge = x.badge := by
  unfold Part.editBadField
  simp only [Bool.or_eq_true, Bool.not_eq_true', out_of_range_iff, bne_iff_ne, beq_iff_eq, permBitsOk,
    decide_eq_false_iff_not, Nat.not_lt, List.any_eq_true, Bool.and_eq_true, and_assoc, or_assoc]

theorem editLosesArea_iff (s : Part) (c : Nat) (x : Credential) : s.editLosesArea c x = true ↔
    ∃ a ∈ numbers 16, (s.area a).responsible = c
      ∧ (permsWithin Perm.ack.set (effectivePerms (getAt s.live.roles x.role) x) = false ∨ inScope x.scope a = false) := by
  unfold Part.editLosesArea Part.heldBy
  simp only [List.any_eq_true, List.mem_filter, beq_iff_eq, Bool.or_eq_true, Bool.not_eq_true', and_assoc]

theorem editCheck_eq (s : Part) (d c status : Nat) (x : Credential) :
    s.editCheck d c status x = (s.editCode d c status { x with valid := true }).failing := by
  unfold Part.editCode
  have hor : s.editCheck d c status x = (s.configureCheck d false).or
      (if s.editBadField c status x = true then some .badField
      else if s.editLosesArea c x = true then some .holdsAreas else none) := by
    unfold Part.editCheck
    cases s.configureCheck d false <;> rfl
  rw [hor, ResultCode.failing_andThen, ← configureCheck_eq s d (bad := false) (P := False) (by simp)]
  simp only [apply_ite ResultCode.failing, editBadField_iff, editLosesArea_iff]
  rfl

theorem answers_runningEdit {s : Part} (hrun : s.phase = .running) (body : List Byte) :
    ∃ code, s.Answers .configCredential body code (s.runningEdit body) := by
  refine Part.Answers.ofCheck (if_pos hrun) (editCheck_eq s (byteAt body 0) (byteAt body 1) (byteAt body 2) (credentialOf body))
    (Part.keepsLif (s.event_runningEdit body).lif) (fun r hr => ?_) fun hok => ?_
  · unfold Part.runningEdit
    simp only [hr]
    rfl
  · unfold Part.runningEdit
    simp only [hok]
    exact ⟨_, rfl⟩

theorem answers_configCredential (body : List Byte) (s : Part) :
    ∃ code, s.Answers .configCredential body code (configCredentialHandler body s) := by
  unfold configCredentialHandler
  split
  next hrun => exact answers_runningEdit hrun body
  next hrun => exact answers_stage (show s.resultOf .configCredential body = none from if_neg hrun) _ _

end Sys2Proof.Machine
end

section
/-! The answers of SIGN_ON, ELEVATE and OFFER, which name a second credential (R24, R26, R135). -/

namespace Sys2Proof.Machine

/-! ### The lowest area of a refusal (R39, R151) -/

theorem lowestArea_congr {f g : Nat → Bool} (h : ∀ a ∈ numbers 16, f a = g a) : lowestArea f = lowestArea g := by
  unfold lowestArea
  rw [List.filter_congr h]

theorem lowestFailing_eq (l : List Nat) (test : Nat → Bool) :
    lowestFailing l test = lowestArea fun a => l.contains a && !test a := by
  unfold lowestFailing lowestArea
  rw [List.headD_eq_head?_getD, List.head?_filter]

/-! ### Checks that name a credential when they pass -/

/-- What a check that fails names. -/
def refusalOf {ε α : Type} : Except ε α → Option ε
  | .error r => some r
  | .ok _ => none

theorem refusalOf_some {ε α : Type} {x : Except ε α} {r : ε} (h : refusalOf x = some r) : x = .error r := by
  cases x with
  | error q => cases h; rfl
  | ok c => cases h

theorem refusalOf_none {ε α : Type} {x : Except ε α} (h : refusalOf x = none) : ∃ c, x = .ok c := by
  cases x with
  | error q => cases h
  | ok c => exact ⟨c, rfl⟩

theorem signOnCheck_eq (s : Part) (d badge : Nat) :
    refusalOf (s.signOnCheck d badge) = (s.signOnCode d badge).failing := by
  unfold Part.signOnCheck Part.signOnCode
  cases s.findBadge badge
  all_goals
    simp only [apply_ite ResultCode.failing, apply_ite refusalOf, Bool.not_eq_true']
    rfl

theorem answers_signOn (body : List Byte) (s : Part) : ∃ code, s.Answers .signOn body code (signOnHandler body s) := by
  refine Part.Answers.ofCheck rfl (signOnCheck_eq s (byteAt body 0) (field32 body 1))
    (Part.keepsLif (event_signOn body s).lif) (fun r hr => ?_) fun hok => ?_
  · unfold signOnHandler
    simp only [refusalOf_some hr]
    rfl
  · obtain ⟨c, hc⟩ := refusalOf_none hok
    unfold signOnHandler
    simp only [hc]
    exact ⟨_, rfl⟩

/-! ### ELEVATE -/

theorem elevateCheck_eq (s : Part) (d badge : Nat) (perms : PermSet) (sc : AreaSet) (minutes : Nat) :
    refusalOf (s.elevateCheck d badge perms sc minutes) = (s.elevateCode d badge perms sc minutes).failing := by
  have hgrant : ∀ c, (!s.grantPasses c perms sc) = true ↔
      permsWithin (Perm.elevate.set ||| perms) (s.effPerms c) = false ∨ sc &&& ~~~(s.cred c).scope ≠ 0 := fun c => by
    rw [Bool.not_eq_true', ← Bool.not_eq_true, s.grantPasses_iff, not_and_or, Bool.not_eq_true]
  have hfields : (!isDesk d || !permBitsOk perms || minutes == 0) = true ↔
      isDesk d = false ∨ 4096 ≤ perms.toNat ∨ minutes = 0 := by
    simp only [Bool.or_eq_true, Bool.not_eq_true', permBitsOk, decide_eq_false_iff_not, Nat.not_lt, beq_iff_eq, or_assoc]
  unfold Part.elevateCheck Part.elevateCode
  cases s.findBadge badge
  all_goals
    simp only [apply_ite ResultCode.failing, apply_ite refusalOf, hfields, hgrant]
    rfl

/-- R26, R39: the area of a refused ELEVATE (log 11). -/
theorem elevateArea_eq (s : Part) (badge : Nat) (perms : PermSet) (sc : AreaSet) :
    lowestFailing (areasIn sc) (s.grantorPasses ((s.findBadge badge).getD 0) perms) = s.elevateArea badge perms sc := by
  rw [lowestFailing_eq]
  refine lowestArea_congr fun a ha => ?_
  have hin : (areasIn sc).contains a = inScope sc a := by
    rw [Bool.eq_iff_iff, List.contains_iff_mem, areasIn, List.mem_filter]
    exact and_iff_right ha
  have htest : s.grantorPasses ((s.findBadge badge).getD 0) perms a =
      (permsWithin (Perm.elevate.set ||| perms) (s.effPerms ((s.findBadge badge).getD 0))
        && inScope (s.cred ((s.findBadge badge).getD 0)).scope a) := Bool.and_comm ..
  rw [hin, htest]

theorem answers_elevate (body : List Byte) (s : Part) : ∃ code, s.Answers .elevate body code (elevateHandler body s) := by
  refine Part.Answers.ofCheck rfl
    (elevateCheck_eq s (byteAt body 0) (field32 body 1) (word16 body 5) (word16 body 7) (field16 body 9))
    (Part.keepsLif (event_elevate body s).lif) (fun r hr => ?_) fun hok => ?_
  · unfold elevateHandler
    simp only [refusalOf_some hr, elevateArea_eq]
    rfl
  · obtain ⟨c, hc⟩ := refusalOf_none hok
    unfold elevateHandler
    simp only [hc]
    exact ⟨_, rfl⟩

end Sys2Proof.Machine
end

section
/-! The answers of the requests whose refusal names an area: OFFER, ACCEPT and HAND_OFF (R135, R146, R151). -/

namespace Sys2Proof.Machine

/-- A check fails with a code and, where the code writes a record, names the area of the refusal. -/
def FailsWith (check : Option (ResultCode × Nat)) (code : ResultCode) (area : Nat) : Prop :=
  check.map Prod.fst = code.failing ∧ ∀ r ∈ check, r.1.journaled = true → r.2 = area

theorem FailsWith.pass (area : Nat) : FailsWith none .ok area := ⟨rfl, fun _ hr => nomatch hr⟩

theorem FailsWith.fail {r : ResultCode} {a area : Nat} (hr : r ≠ .ok) (ha : r.journaled = true → a = area) :
    FailsWith (some (r, a)) r area := by
  refine ⟨(ResultCode.failing_some hr).symm, fun x hx => ?_⟩
  obtain rfl := Option.some.inj hx
  exact ha

/-- One more check in front. -/
theorem FailsWith.ite {c : Prop} [Decidable c] {r y : ResultCode} {a area : Nat} {x : Option (ResultCode × Nat)} (hr : r ≠ .ok)
    (ha : c → r.journaled = true → a = area) (hrest : ¬c → FailsWith x y area) :
    FailsWith (if c then some (r, a) else x) (if c then r else y) area := by
  by_cases hc : c
  · rw [if_pos hc, if_pos hc]
    exact .fail hr (ha hc)
  · rw [if_neg hc, if_neg hc]
    exact hrest hc

/-- A request whose check names the area of a refusal. -/
theorem Part.Answers.ofAreaCheck {s : Part} {k : ReqKind} {body : List Byte} {code : ResultCode}
    {check : Option (ResultCode × Nat)} {out : Part × List Byte} (hresult : s.resultOf k body = some code)
    (hpoint : refusalPoint k body = 0) (hcheck : FailsWith check code (s.refusalArea k body))
    (hlif : out.1.lif = { s.lif with continuation := out.1.lif.continuation })
    (hfails : ∀ r, check = some r → out = (s.refuse (byteAt body 0) r.2 0 0 r.1, [r.1.byte]))
    (hpasses : check = none → ∃ rest, out.2 = ResultCode.ok.byte :: rest) : ∃ code, s.Answers k body code out := by
  obtain ⟨hcode, harea⟩ := hcheck
  refine Part.Answers.ofCheck hresult hcode hlif (fun r hr => ?_) fun hok => hpasses (Option.map_eq_none_iff.1 hok)
  obtain ⟨x, hx, rfl⟩ := Option.map_eq_some_iff.1 hr
  rw [hfails x hx, Part.refuseFor, hpoint, if_pos rfl]
  by_cases hjournal : x.1.journaled = true
  · rw [harea x hx hjournal]
  · rw [Part.refuse_unjournaled (Bool.not_eq_true _ ▸ hjournal), Part.refuse_unjournaled (Bool.not_eq_true _ ▸ hjournal)]

/-! ### OFFER -/

theorem hasTwice_iff (l : List Nat) : hasTwice l = true ↔ ¬l.Nodup := by
  induction l with
  | nil => simp [hasTwice]
  | cons a l ih =>
    rw [hasTwice, Bool.or_eq_true, ih, List.contains_iff_mem, List.nodup_cons]
    tauto

theorem any_not_iff (l : List Nat) (f : Nat → Bool) : (l.any fun a => !f a) = true ↔ ∃ a ∈ l, f a = false := by
  simp only [List.any_eq_true, Bool.not_eq_true']

theorem mayGive_false_iff (s : Part) (d a : Nat) : s.mayGive d a = false ↔
    allows (s.baseLayer d) Perm.give.set a = false ∨ (s.area a).responsible ≠ (s.desk d).signedOn := by
  rw [Part.mayGive, Bool.and_eq_false_iff, beq_eq_false_iff_ne]

theorem idleSession_none_iff (s : Part) : s.idleSession = none ↔ ∀ n ∈ numbers 4, (s.session n).state ≠ .idle := by
  rw [Part.idleSession, List.find?_eq_none]
  simp only [beq_iff_eq]

theorem offerArea_eq (s : Part) (d badge : Nat) (l : List Nat) : s.offerArea d badge l =
    if ∃ a ∈ l, s.mayGive d a = false then lowestFailing l (s.mayGive d)
    else if (s.findBadge badge).getD 0 = (s.desk d).signedOn then 0
    else lowestFailing l (s.mayTake ((s.findBadge badge).getD 0)) := by
  rw [lowestFailing_eq, lowestFailing_eq]
  rfl

/-- R135, R151: the checks of an OFFER in their order, and the area of its refusal (log 38). -/
theorem offerCheck_fails (s : Part) (d badge : Nat) (l : List Nat) :
    FailsWith (refusalOf (s.offerCheck d badge l)) (s.offerCode d badge l) (s.offerArea d badge l) := by
  have hfields : (!isDesk d || l.any (fun a => !isArea a) || hasTwice l) = true ↔
      isDesk d = false ∨ (∃ a ∈ l, isArea a = false) ∨ ¬l.Nodup := by
    rw [Bool.or_eq_true, Bool.or_eq_true, any_not_iff, hasTwice_iff, Bool.not_eq_true', or_assoc]
  have hgive : (∃ a ∈ l, s.mayGive d a = false) ↔
      ∃ a ∈ l, allows (s.baseLayer d) Perm.give.set a = false ∨ (s.area a).responsible ≠ (s.desk d).signedOn := by
    simp only [mayGive_false_iff]
  have hbusy : l.any (fun a => (s.area a).session != 0) = true ↔ ∃ a ∈ l, (s.area a).session ≠ 0 := by
    simp only [List.any_eq_true, bne_iff_ne]
  unfold Part.offerCheck Part.offerCode
  simp only [apply_ite refusalOf, hfields, any_not_iff, hgive]
  refine .ite (by decide) (fun _ h => nomatch h) fun _ => .ite (by decide) (fun _ h => nomatch h) fun _ =>
    .ite (by decide) (fun h _ => ?give) fun hgives => ?_
  case give => rw [offerArea_eq, if_pos (hgive.2 h)]
  cases hb : s.findBadge badge with
  | none => exact .fail (by decide) fun h => nomatch h
  | some c =>
    have harea : s.offerArea d badge l = if c = (s.desk d).signedOn then 0 else lowestFailing l (s.mayTake c) := by
      rw [offerArea_eq, if_neg (mt hgive.1 hgives), hb]
      rfl
    simp only [apply_ite refusalOf, hbusy, ite_or]
    refine .ite (by decide) (fun _ h => nomatch h) fun _ => .ite (by decide) (fun h _ => ?own) fun hother =>
      .ite (by decide) (fun _ _ => ?take) fun _ => .ite (by decide) (fun _ h => nomatch h) fun _ => ?_
    case own => rw [harea, if_pos h]
    case take => rw [harea, if_neg hother]
    cases hidle : s.idleSession with
    | none =>
      rw [if_pos ((idleSession_none_iff s).1 hidle)]
      exact .fail (by decide) fun h => nomatch h
    | some n =>
      rw [if_neg fun h => by rw [(idleSession_none_iff s).2 h] at hidle; cases hidle]
      exact .pass _

theorem answers_offer (body : List Byte) (s : Part) : ∃ code, s.Answers .offer body code (offerHandler body s) := by
  refine Part.Answers.ofAreaCheck rfl rfl (offerCheck_fails s (byteAt body 0) (field32 body 1) (byteList body 5))
    (Part.keepsLif (event_offer (auth := true) body s).lif) (fun r hr => ?_) fun hok => ?_
  · unfold offerHandler
    simp only [refusalOf_some hr]
    rfl
  · obtain ⟨c, hc⟩ := refusalOf_none hok
    unfold offerHandler
    simp only [hc]
    exact ⟨_, rfl⟩

end Sys2Proof.Machine
end

section
/-! The answers of the requests about a session (R137 to R148). -/

namespace Sys2Proof.Machine

theorem sessionCheck_eq (s : Part) (d n : Nat) (q : Party) : s.sessionCheck d n q = (s.partyCode d n q).failing := by
  unfold Part.sessionCheck Part.partyCode
  simp only [apply_ite ResultCode.failing, Bool.not_eq_true', out_of_range_iff]
  rfl

theorem areaCheck_eq (s : Part) (d n a : Nat) : s.areaCheck d n a = (s.areaCode d n a).failing := by
  have hor : s.areaCheck d n a = (s.sessionCheck d n .incoming).or
      (if (!isArea a || !(s.session n).areas.contains a) = true then some .badField else none) := by
    unfold Part.areaCheck
    cases s.sessionCheck d n .incoming <;> rfl
  have harea : (!isArea a || !(s.session n).areas.contains a) = true ↔ isArea a = false ∨ a ∉ (s.session n).areas := by
    rw [Bool.or_eq_true, Bool.not_eq_true', Bool.not_eq_true', ← Bool.not_eq_true (List.contains _ _), List.contains_iff_mem]
  unfold Part.areaCode
  rw [hor, ResultCode.failing_andThen, sessionCheck_eq]
  simp only [apply_ite ResultCode.failing, harea]
  rfl

/-! ### TAKE_UP and WITHDRAW -/

theorem takeUpCheck_eq (s : Part) (d n : Nat) : s.takeUpCheck d n =
    ((s.partyCode d n .incoming).andThen (if (s.session n).state = .offered then .ok else .repeated)).failing := by
  have hor : s.takeUpCheck d n = (s.sessionCheck d n .incoming).or
      (if (s.session n).state = .offered then none else some .repeated) := by
    unfold Part.takeUpCheck
    cases s.sessionCheck d n .incoming <;> rfl
  rw [hor, ResultCode.failing_andThen, sessionCheck_eq]
  simp only [apply_ite ResultCode.failing]
  rfl

theorem answers_takeUp (body : List Byte) (s : Part) : ∃ code, s.Answers .takeUp body code (takeUpHandler body s) := by
  refine Part.Answers.ofCheck rfl (takeUpCheck_eq s (byteAt body 0) (byteAt body 1))
    (Part.keepsLif (event_takeUp (auth := true) body s).lif) (fun r hr => ?_) fun hok => ?_
  · unfold takeUpHandler
    simp only [hr]
    rfl
  · unfold takeUpHandler
    simp only [hok]
    exact ⟨_, rfl⟩

theorem answers_withdraw (body : List Byte) (s : Part) : ∃ code, s.Answers .withdraw body code (withdrawHandler body s) := by
  refine Part.Answers.ofCheck rfl (sessionCheck_eq s (byteAt body 0) (byteAt body 1) .outgoing)
    (Part.keepsLif (event_withdraw (auth := true) body s).lif) (fun r hr => ?_) fun hok => ?_
  · unfold withdrawHandler
    simp only [hr]
    rfl
  · unfold withdrawHandler
    simp only [hok]
    exact ⟨_, rfl⟩

/-! ### REVIEW_NEXT -/

theorem reviewNextCheck_eq (s : Part) (d n a : Nat) : s.reviewNextCheck d n a =
    ((s.areaCode d n a).andThen
      (if (s.session n).state ≠ .reviewing ∨ ((s.session n).entry a).sweep = .swept
          ∨ ((s.session n).entry a).sweep = .confirmed then .wrongState else .ok)).failing := by
  have hor : s.reviewNextCheck d n a = (s.areaCheck d n a).or
      (if (s.session n).state ≠ .reviewing then some .wrongState
      else if ((s.session n).entry a).sweep = .swept ∨ ((s.session n).entry a).sweep = .confirmed then some .wrongState
      else none) := by
    unfold Part.reviewNextCheck
    cases s.areaCheck d n a <;> rfl
  rw [hor, ResultCode.failing_andThen, areaCheck_eq]
  simp only [apply_ite ResultCode.failing, ite_or]
  rfl

theorem answers_reviewNext (body : List Byte) (s : Part) :
    ∃ code, s.Answers .reviewNext body code (reviewNextHandler body s) := by
  refine Part.Answers.ofCheck rfl (reviewNextCheck_eq s (byteAt body 0) (byteAt body 1) (byteAt body 2))
    (Part.keepsLif (event_reviewNext (auth := true) body s).lif) (fun r hr => ?_) fun hok => ?_
  · unfold reviewNextHandler
    simp only [hr]
    rfl
  · unfold reviewNextHandler
    simp only [hok]
    exact ⟨_, rfl⟩

/-! ### REVIEW_DELTA -/

/-- R142: the result of a REVIEW_DELTA before the GAP test. -/
def Part.deltaCode (s : Part) (d n a : Nat) : ResultCode :=
  (s.areaCode d n a).andThen
    (if (s.session n).state ≠ .reviewing ∨ ((s.session n).entry a).sweep ≠ .swept then .wrongState else .ok)

theorem reviewDeltaCheck_eq (s : Part) (d n a : Nat) : s.reviewDeltaCheck d n a = (s.deltaCode d n a).failing := by
  have hor : s.reviewDeltaCheck d n a = (s.areaCheck d n a).or
      (if (s.session n).state ≠ .reviewing then some .wrongState
      else if ((s.session n).entry a).sweep ≠ .swept then some .wrongState else none) := by
    unfold Part.reviewDeltaCheck
    cases s.areaCheck d n a <;> rfl
  unfold Part.deltaCode
  rw [hor, ResultCode.failing_andThen, areaCheck_eq]
  simp only [apply_ite ResultCode.failing, ite_or]
  rfl

/-- One more code asked after a check that passed. -/
theorem andThen_ite {P : Prop} [Decidable P] {r : ResultCode} (hr : r ≠ .ok) (x y : ResultCode) :
    (x.andThen (if P then r else .ok)).andThen y = x.andThen (if P then r else y) := by
  unfold ResultCode.andThen
  by_cases hx : x = .ok
  · by_cases hP : P
    · simp only [hx, hP, if_true, hr, if_false]
    · simp only [hx, hP, if_true, if_false]
  · simp only [hx, if_false]

/-- R143: the GAP test comes last. -/
theorem resultOf_reviewDelta (s : Part) (body : List Byte) : s.resultOf .reviewDelta body =
    some ((s.deltaCode (byteAt body 0) (byteAt body 1) (byteAt body 2)).andThen
      (if s.rst.isGap ((s.session (byteAt body 1)).entry (byteAt body 2)).deltaCursor = true then .gap else .ok)) := by
  simp only [Rst.isGap_iff]
  unfold Part.deltaCode
  rw [andThen_ite (by decide)]
  rfl

/-- A request refused with the result code of its checks. -/
theorem Part.Answers.refusing {s : Part} {k : ReqKind} {body rest : List Byte} {r : ResultCode}
    (hresult : s.resultOf k body = some r) : s.Answers k body r (s.refuseFor k body r, r.byte :: rest) :=
  ⟨⟨rest, rfl⟩, Part.keepsLif (s.refuseFor_lif ..), fun _ hq => by rw [hresult] at hq; exact Option.some.inj hq,
    fun _ _ => rfl⟩

theorem ResultCode.eq_of_failing {r q : ResultCode} (h : r.failing = some q) : r = q ∧ q ≠ .ok := by
  unfold ResultCode.failing at h
  split at h
  next hok => cases h
  next hne =>
    obtain rfl := Option.some.inj h
    exact ⟨rfl, hne⟩

theorem ResultCode.ok_of_failing {r : ResultCode} (h : r.failing = none) : r = .ok := by
  by_contra hne
  rw [ResultCode.failing_some hne] at h
  cases h

theorem answers_reviewDelta (body : List Byte) (s : Part) :
    ∃ code, s.Answers .reviewDelta body code (reviewDeltaHandler body s) := by
  have hcheck := reviewDeltaCheck_eq s (byteAt body 0) (byteAt body 1) (byteAt body 2)
  have hresult := resultOf_reviewDelta s body
  have hlif := Part.keepsLif (event_reviewDelta (auth := true) body s).lif
  cases hr : s.reviewDeltaCheck (byteAt body 0) (byteAt body 1) (byteAt body 2) with
  | some r =>
    obtain ⟨hcode, hne⟩ := ResultCode.eq_of_failing (hcheck.symm.trans hr)
    rw [hcode, ResultCode.andThen, if_neg hne] at hresult
    have hout : reviewDeltaHandler body s = (s.refuseFor .reviewDelta body r, [r.byte]) := by
      unfold reviewDeltaHandler
      simp only [hr]
      rfl
    exact ⟨r, by rw [hout]; exact .refusing hresult⟩
  | none =>
    rw [ResultCode.ok_of_failing (hcheck.symm.trans hr), ResultCode.andThen, if_pos rfl] at hresult
    unfold reviewDeltaHandler at hlif ⊢
    simp only [hr] at hlif ⊢
    split at hresult
    next hgap =>
      rw [if_pos hgap] at hlif ⊢
      exact ⟨.gap, ⟨[], rfl⟩, hlif, fun q hq => by rw [hresult] at hq; exact Option.some.inj hq,
        fun _ hne => absurd rfl hne⟩
    next hgap =>
      rw [if_neg hgap] at hlif ⊢
      exact ⟨.ok, .ok (fun q hq => by rw [hresult] at hq; exact Option.some.inj hq) hlif⟩

/-! ### CONFIRM_AREA -/

/-- R141: the result of a CONFIRM_AREA. -/
def Part.confirmCode (s : Part) (d n a : Nat) (g : W16) : ResultCode :=
  (s.areaCode d n a).andThen
    (if (s.session n).state ≠ .reviewing ∨ ((s.session n).entry a).sweep ≠ .swept then .wrongState
    else if g ≠ ((s.session n).entry a).snapGen then .badField
    else if ((s.session n).entry a).snapGen ≠ (s.area a).generation then .staleReview else .ok)

theorem confirmCheck_eq (s : Part) (d n a : Nat) (g : W16) :
    s.confirmCheck d n a g = (s.confirmCode d n a g).failing := by
  have hor : s.confirmCheck d n a g = (s.areaCheck d n a).or
      (if (s.session n).state ≠ .reviewing then some .wrongState
      else if ((s.session n).entry a).sweep ≠ .swept then some .wrongState
      else if g ≠ ((s.session n).entry a).snapGen then some .badField
      else if ((s.session n).entry a).snapGen ≠ (s.area a).generation then some .staleReview else none) := by
    unfold Part.confirmCheck
    cases s.areaCheck d n a <;> rfl
  unfold Part.confirmCode
  rw [hor, ResultCode.failing_andThen, areaCheck_eq]
  simp only [apply_ite ResultCode.failing, ite_or]
  rfl

theorem answers_confirmArea (body : List Byte) (s : Part) :
    ∃ code, s.Answers .confirmArea body code (confirmAreaHandler body s) := by
  have hcheck := confirmCheck_eq s (byteAt body 0) (byteAt body 1) (byteAt body 2) (word16 body 3)
  have hresult : s.resultOf .confirmArea body =
      some (s.confirmCode (byteAt body 0) (byteAt body 1) (byteAt body 2) (word16 body 3)) := rfl
  have hlif := Part.keepsLif (event_confirmArea (auth := true) body s).lif
  unfold confirmAreaHandler at hlif ⊢
  dsimp only at hlif ⊢
  split at hlif
  next hstale =>
    rw [(ResultCode.eq_of_failing (hcheck.symm.trans hstale)).1] at hresult
    exact ⟨.staleReview, .still (fun q hq => by rw [hresult] at hq; exact Option.some.inj hq) rfl⟩
  next r _ hr =>
    rw [(ResultCode.eq_of_failing (hcheck.symm.trans hr)).1] at hresult
    exact ⟨r, .refusing hresult⟩
  next hok =>
    rw [ResultCode.ok_of_failing (hcheck.symm.trans hok)] at hresult
    exact ⟨.ok, .ok (fun q hq => by rw [hresult] at hq; exact Option.some.inj hq) hlif⟩

end Sys2Proof.Machine
end

section
/-! The answers of ACCEPT and HAND_OFF (R146, R151). -/

namespace Sys2Proof.Machine

/-- R146, R151: the area that a failing completion test names (log 25). -/
theorem readyArea_eq {s : Part} {d n : Nat} {q : Party} (hparty : s.partyCode d n q = .ok) : s.readyArea d n q =
    if ∃ a ∈ (s.session n).areas, s.partyPasses n q a = false then
      lowestFailing (s.session n).areas (s.partyPasses n q)
    else lowestFailing (s.session n).areas (s.partyPasses n q.other) := by
  rw [lowestFailing_eq, lowestFailing_eq]
  unfold Part.readyArea
  dsimp only
  rw [if_neg (by rw [hparty]; decide)]

/-- R146: the tests of both parties, the other's only when the request would complete. -/
theorem completionTests_fails (s : Part) {d n : Nat} {q : Party} (hparty : s.partyCode d n q = .ok) :
    FailsWith ((s.completionTests n q).map fun a => (.denied, a))
      (if (∃ a ∈ (s.session n).areas, s.partyPasses n q a = false)
          ∨ ((s.session n).flag q.other = true ∧ ∃ a ∈ (s.session n).areas, s.partyPasses n q.other a = false) then
        .denied
      else .ok) (s.readyArea d n q) := by
  have hother : ((s.session n).flag q.other && (s.session n).areas.any fun a => !s.partyPasses n q.other a) = true ↔
      (s.session n).flag q.other = true ∧ ∃ a ∈ (s.session n).areas, s.partyPasses n q.other a = false := by
    rw [Bool.and_eq_true, any_not_iff]
  rw [readyArea_eq hparty]
  unfold Part.completionTests
  simp only [apply_ite (Option.map fun a => (ResultCode.denied, a)), any_not_iff, hother, ite_or]
  refine .ite (by decide) (fun h _ => ?own) fun hpass => .ite (by decide) (fun _ _ => ?other) fun _ => .pass _
  case own => rw [if_pos h]
  case other => rw [if_neg hpass]

/-- R137: DENIED is the one result of the common checks that writes a record. -/
theorem partyCode_of_journaled {s : Part} {d n : Nat} {q : Party} (h : (s.partyCode d n q).journaled = true) :
    s.partyCode d n q = .denied := by
  unfold Part.partyCode at h ⊢
  split_ifs at h ⊢
  all_goals
    revert h
    decide

theorem readyCheck_fails (s : Part) (d n : Nat) (q : Party) :
    FailsWith (s.readyCheck d n q) (s.readyCode d n q) (s.readyArea d n q) := by
  have hcheck := sessionCheck_eq s d n q
  unfold Part.readyCheck Part.readyCode
  cases hr : s.sessionCheck d n q with
  | some r =>
    obtain ⟨hcode, hne⟩ := ResultCode.eq_of_failing (hcheck.symm.trans hr)
    rw [ResultCode.andThen, hcode, if_neg hne]
    refine .fail hne fun hjournal => ?_
    rw [← hcode] at hjournal
    exact (if_pos (partyCode_of_journaled hjournal)).symm
  | none =>
    have hparty := ResultCode.ok_of_failing (hcheck.symm.trans hr)
    rw [ResultCode.andThen, hparty, if_pos rfl]
    exact .ite (by decide) (fun _ h => nomatch h) fun _ => .ite (by decide) (fun _ h => nomatch h) fun _ =>
      completionTests_fails s hparty

theorem answers_ready (q : Party) (body : List Byte) (s : Part) :
    ∃ code, s.Answers q.request body code (Part.readyRequest q body s) := by
  have hcheck := readyCheck_fails s (byteAt body 0) (byteAt body 1) q
  have hresult : s.resultOf q.request body = some (s.readyCode (byteAt body 0) (byteAt body 1) q) := by cases q <;> rfl
  have harea : s.refusalArea q.request body = s.readyArea (byteAt body 0) (byteAt body 1) q := by cases q <;> rfl
  rw [← harea] at hcheck
  refine Part.Answers.ofAreaCheck hresult (by cases q <;> rfl) hcheck
    (Part.keepsLif (event_readyRequest (auth := true) q body s).lif) (fun r hr => ?_) fun hok => ?_
  · unfold Part.readyRequest
    simp only [hr]
    rfl
  · unfold Part.readyRequest
    simp only [hok]
    exact ⟨_, rfl⟩

end Sys2Proof.Machine
end

section
/-! What every request answers: a code by its checks, and no change but a refusal with another code than OK and GAP. -/

namespace Sys2Proof.Machine

theorem answers_partStatus (body : List Byte) (s : Part) : s.Answers .partStatus body .ok (partStatusHandler body s) :=
  .ok (fun _ hr => nomatch hr) rfl

theorem answers_setTime (body : List Byte) (s : Part) : s.Answers .setTime body .ok (setTimeHandler body s) :=
  .ok (fun _ hr => nomatch hr) rfl

/-- R39, R172: the owning block of every request but REPORT_DISABLE answers by its checks. -/
theorem request_answers (k : ReqKind) (hk : k ≠ .reportDisable) : ∃ f : Handler, (∀ u, exec k.command u = onRequest k f u)
    ∧ ∀ (s : Part) (body : List Byte), ∃ code, s.Answers k body code (f body s) := by
  cases k with
  | conditions => exact ⟨_, fun _ => rfl, fun s body => ⟨.ok, answers_conditions body s⟩⟩
  | group => exact ⟨_, fun _ => rfl, fun s body => answers_group body s⟩
  | ack => exact ⟨_, fun _ => rfl, fun s body => ⟨.ok, answers_ack body s⟩⟩
  | silence => exact ⟨_, fun _ => rfl, fun s body => answers_silence body s⟩
  | shelve => exact ⟨_, fun _ => rfl, fun s body => answers_shelve body s⟩
  | unshelve => exact ⟨_, fun _ => rfl, fun s body => answers_unshelve body s⟩
  | remove => exact ⟨_, fun _ => rfl, fun s body => answers_remove body s⟩
  | restore => exact ⟨_, fun _ => rfl, fun s body => answers_restore body s⟩
  | releaseDeferred => exact ⟨_, fun _ => rfl, fun s body => answers_releaseDeferred body s⟩
  | signOn => exact ⟨_, fun _ => rfl, fun s body => answers_signOn body s⟩
  | signOff => exact ⟨_, fun _ => rfl, fun s body => answers_signOff body s⟩
  | elevate => exact ⟨_, fun _ => rfl, fun s body => answers_elevate body s⟩
  | drop => exact ⟨_, fun _ => rfl, fun s body => answers_drop body s⟩
  | assume => exact ⟨_, fun _ => rfl, fun s body => ⟨.ok, answers_assume body s⟩⟩
  | offer => exact ⟨_, fun _ => rfl, fun s body => answers_offer body s⟩
  | takeUp => exact ⟨_, fun _ => rfl, fun s body => answers_takeUp body s⟩
  | reviewNext => exact ⟨_, fun _ => rfl, fun s body => answers_reviewNext body s⟩
  | reviewDelta => exact ⟨_, fun _ => rfl, fun s body => answers_reviewDelta body s⟩
  | confirmArea => exact ⟨_, fun _ => rfl, fun s body => answers_confirmArea body s⟩
  | accept => exact ⟨_, fun _ => rfl, fun s body => answers_ready .incoming body s⟩
  | handOff => exact ⟨_, fun _ => rfl, fun s body => answers_ready .outgoing body s⟩
  | withdraw => exact ⟨_, fun _ => rfl, fun s body => answers_withdraw body s⟩
  | lampTest => exact ⟨_, fun _ => rfl, fun s body => answers_lampTest body s⟩
  | pointStatus => exact ⟨_, fun _ => rfl, fun s body => ⟨.ok, answers_pointStatus body s⟩⟩
  | areaStatus => exact ⟨_, fun _ => rfl, fun s body => answers_areaStatus body s⟩
  | deskStatus => exact ⟨_, fun _ => rfl, fun s body => answers_deskStatus body s⟩
  | sessionStatus => exact ⟨_, fun _ => rfl, fun s body => answers_sessionStatus body s⟩
  | partStatus => exact ⟨_, fun _ => rfl, fun s body => ⟨.ok, answers_partStatus body s⟩⟩
  | journalRead => exact ⟨_, fun _ => rfl, fun s body => answers_journalRead body s⟩
  | journalMark => exact ⟨_, fun _ => rfl, fun s body => answers_journalMark body s⟩
  | setTime => exact ⟨_, fun _ => rfl, fun s body => ⟨.ok, answers_setTime body s⟩⟩
  | reportEnable => exact ⟨_, fun _ => rfl, fun s body => answers_reportEnable body s⟩
  | reportDisable => exact absurd rfl hk
  | configBegin => exact ⟨_, fun _ => rfl, fun s body => answers_configBegin body s⟩
  | configPlant => exact ⟨_, fun _ => rfl, fun _ _ => answers_stage rfl _ _⟩
  | configArea => exact ⟨_, fun _ => rfl, fun _ _ => answers_stage rfl _ _⟩
  | configPoints => exact ⟨_, fun _ => rfl, fun s body => ⟨.ok, answers_configPoints body s⟩⟩
  | configRole => exact ⟨_, fun _ => rfl, fun _ _ => answers_stage rfl _ _⟩
  | configCredential => exact ⟨_, fun _ => rfl, fun s body => answers_configCredential body s⟩
  | configDesk => exact ⟨_, fun _ => rfl, fun _ _ => answers_stage rfl _ _⟩
  | configCommit => exact ⟨_, fun _ => rfl, fun s body => answers_configCommit body s⟩
  | revoke => exact ⟨_, fun _ => rfl, fun s body => answers_revoke body s⟩

/-- Settles O30: `request_answers` says what the owning block answers, and `refuseFor_onlyWrote` what a refusal writes. -/
theorem refusedRequestsChangeOnlyTheJournal : Obligations.RefusedRequestsChangeOnlyTheJournal := by
  intro s k tag body h hk
  obtain ⟨f, hexec, hanswers⟩ := request_answers k hk
  obtain ⟨code, ⟨rest, hreply⟩, hlif, hresult, hrefused⟩ := hanswers s.taken body
  have hcomp := completes_taken hexec h
  have hslot := Part.reply_lif_continuation k tag (f body s.taken).2 hlif
  rw [hreply] at hcomp hslot
  refine ⟨_, code.byte, rest, hcomp, ?_, fun r hr => ?_, fun hok hgap => ?_⟩
  · rw [hslot]
  · rw [hresult r (by rw [Part.taken_resultOf]; exact hr)]
  · rw [hrefused (fun he => hok (by rw [he]; rfl)) (fun he => hgap (by rw [he]; rfl)), Part.refuseFor_reply]
    cases hjournal : code.journaled with
    | false => exact .inl (by rw [Part.refuseFor_plain hjournal]; rfl)
    | true =>
      have honly := Part.refuseFor_onlyWrote (s := s) (k := k) hjournal tag body (code.byte :: rest)
      exact .inr ⟨_, honly, rfl, by simp [Part.record, flagIf], BitVec.add_zero _, rfl, rfl, rfl, rfl, rfl, rfl,
        by rw [ResultCode.byte_toNat]; rfl, rfl, ResultCode.byte_of_journaled hjournal, rfl,
        fun hfollow => honly.reports hfollow rfl⟩

end Sys2Proof.Machine
end
